-- ==== Sys2Proof/Word.lean ====
section
/-! DEFINITION. The word types of the part (spec 00_scope.md section 5: a word is 32 bits, a grid position is 32 bits). -/

namespace Sys2Proof

/-- One byte of a frame. -/
abbrev Byte := BitVec 8

/-- A 16-bit quantity: a request's tag, a commit check value. -/
abbrev Half := BitVec 16

/-- A word of the access space, 32 bits (00_scope.md section 5.5). -/
abbrev Word := BitVec 32

/-- A grid position: cycle count in the upper 16 bits, phase in the lower 16 bits (00_scope.md section 5.1). -/
abbrev Pos := BitVec 32

end Sys2Proof
end

