-- ==== Sys2Proof/Machine/Arith.lean ====
section
/-! DEFINITION. Rounding, saturation, grid-position comparison, integer square root, byte packing and the two check
sequences (00_scope.md section 5, R7, R161). -/

namespace Sys2Proof.Machine

/-- a / b rounded to the nearest integer, halves away from zero (00_scope.md section 5.4), for a positive b. -/
def roundDiv (a : Int) (b : Nat) : Int :=
  if 0 ≤ a then (2 * a + b) / (2 * b) else -((2 * (-a) + b) / (2 * b))

/-- x saturated to lo … hi (00_scope.md section 5.4). -/
def saturate (lo hi x : Int) : Int := if x < lo then lo else if hi < x then hi else x

/-- x saturated to the working range −32767 … 32767 of signal values (00_scope.md section 5.3). -/
def sat16 (x : Int) : Int := saturate (-32767) 32767 x

/-- One bit of the square root per step, from bit `bits − 1` down to bit 0. -/
def isqrtBits : Nat → Nat → Nat → Nat
  | 0, _, r => r
  | bits + 1, n, r =>
    if (r + 2 ^ bits) * (r + 2 ^ bits) ≤ n then isqrtBits bits n (r + 2 ^ bits) else isqrtBits bits n r

/-- floor(sqrt n) for n below 2^34 (R101; the sums of R101 stay below 2^31). -/
def isqrt (n : Nat) : Nat := isqrtBits 17 n 0

/-- The signed 32-bit difference a − b of two positions or indices (00_scope.md section 5.1, R55). -/
def diff (a b : Pos) : Int := (a - b).toInt

/-- a lies before b. -/
def isBefore (a b : Pos) : Bool := decide (diff a b < 0)

/-- a lies after b. -/
def isAfter (a b : Pos) : Bool := decide (0 < diff a b)

/-- The phase of a position: its lower 16 bits (00_scope.md section 5.1). -/
def phaseOf (p : Pos) : Nat := p.toNat % 65536

/-- A position from a cycle count and a phase. -/
def posOf (cycle phase : Nat) : Pos := BitVec.ofNat 32 (cycle * 65536 + phase)

/-- A position moved by a signed number of grid units, on 32 bits with wrap. -/
def Pos.move (p : Pos) (gu : Int) : Pos := p + BitVec.ofInt 32 gu

/-- A value placed in w bits at bit `shift` of a word. -/
def field (v w shift : Nat) : Nat := (v % 2 ^ w) * 2 ^ shift

/-- A word from four byte values, most significant first (the notice details). -/
def bytes4 (a b c d : Nat) : Word := BitVec.ofNat 32 (field a 8 24 + field b 8 16 + field c 8 8 + field d 8 0)

/-- A word from two 16-bit values, upper half first. -/
def halves (hi lo : Nat) : Word := BitVec.ofNat 32 (field hi 16 16 + field lo 16 0)

/-- A signed value as the 16-bit two's complement number of a notice detail. -/
def int16 (x : Int) : Nat := (BitVec.ofInt 16 x).toNat

/-- A signed value as a 32-bit two's complement word. -/
def int32 (x : Int) : Word := BitVec.ofInt 32 x

/-- A Bool as 0 or 1. -/
def bit (b : Bool) : Nat := if b then 1 else 0

/-- The four bytes of a word, most significant first (multi-byte fields are big-endian, 00_scope.md section 5.5). -/
def bytesOfWord (w : Word) : List Byte :=
  [w.extractLsb' 24 8, w.extractLsb' 16 8, w.extractLsb' 8 8, w.extractLsb' 0 8]

/-- The two bytes of a 16-bit quantity, most significant first. -/
def bytesOfHalf (h : Half) : List Byte := [h.extractLsb' 8 8, h.extractLsb' 0 8]

/-- Byte i of a list of bytes, 0 past its end. -/
def byteAt (bs : List Byte) (i : Nat) : Byte := bs.getD i 0

/-- The 16-bit big-endian number at bytes i and i + 1. -/
def halfAt (bs : List Byte) (i : Nat) : Half := (byteAt bs i).append (byteAt bs (i + 1))

/-- The 32-bit big-endian number at bytes i to i + 3. -/
def wordAt (bs : List Byte) (i : Nat) : Word := (halfAt bs i).append (halfAt bs (i + 2))

/-- One bit through a CRC register: the bit is combined with the top bit, the register shifts toward its top, and the
polynomial is combined where the combined bit was 1 (R161; R7 uses the same step on 32 bits). -/
def crcBit {n : Nat} (poly r : BitVec n) (b : Bool) : BitVec n :=
  if r.msb ^^ b then (r <<< 1) ^^^ poly else r <<< 1

/-- The bits of a byte, least significant first (R7, reflected input). -/
def bitsLow (b : Byte) : List Bool := [0, 1, 2, 3, 4, 5, 6, 7].map b.getLsbD

/-- The bits of a byte, most significant first (R161). -/
def bitsHigh (b : Byte) : List Bool := [7, 6, 5, 4, 3, 2, 1, 0].map b.getLsbD

/-- The frame check sequence (R7): generator 0x04C11DB7, register all ones, reflected input, reflected output,
complemented. -/
def crc32 (bs : List Byte) : Word :=
  ~~~ (bs.foldl (fun r b => (bitsLow b).foldl (crcBit 0x04C11DB7#32) r) 0xFFFFFFFF#32).reverse

/-- The commit check value (R161): generator 0x1021, register 0xFFFF, bits most significant first, no reflection and no
final complement. -/
def crc16 (bs : List Byte) : Half :=
  bs.foldl (fun r b => (bitsHigh b).foldl (crcBit 0x1021#16) r) 0xFFFF#16

/-- The check value of a table's words, in address order, each most significant byte first (R161). -/
def checkOfWords (ws : List Word) : Half := crc16 (ws.flatMap bytesOfWord)

end Sys2Proof.Machine
end

