-- ==== Sys2Proof/Syntax.lean ====
section
/-! DEFINITION. The commands and events of the part: one constructor of `Instr` per row of spec/opcode_table.json, with
the operands the row's rule needs. The table itself names no operands (its rows have no fields): they are read from the
rules, and assumption 2 lists them. -/

namespace Sys2Proof

/-- The two link ports, PN and PS (01_the_station_link.md). -/
inductive PortId where
  | north
  | south
deriving DecidableEq, Repr

/-- A valve id, 0 AB+, 1 AB-, 2 BC+, 3 BC-, 4 CA+, 5 CA- (07_valve_firing_channels.md). -/
abbrev ValveId := Fin 6

/-- The three tables of the table store, ids 0, 1 and 2 of R160. -/
inductive TableId where
  | angle
  | reference
  | parameters
deriving DecidableEq, Repr

/-- A valid mark with its argument (R2, Table 1 of 01_the_station_link.md). -/
inductive Mark where
  | idle
  | pace (tag : Byte)
  | train (ready : Bool)
  | noReceive
deriving DecidableEq, Repr

/-- A symbol as received: a data symbol, one of the three control symbols, or an invalid symbol (R1). -/
inductive LineSymbol where
  | data (b : Byte)
  | markLead
  | startOfFrame
  | endOfFrame
  | invalid
deriving DecidableEq, Repr

/-- The frame symbols a port received outside marks since its previous line event: an SF if `start`, then data symbols.
No row of the table stands for a single SF or data symbol, so the line events carry them (assumption 2). -/
structure LineRun where
  /-- An SF stood before the data symbols. -/
  start : Bool
  /-- The data symbols, in order of arrival. -/
  data : List Byte
deriving DecidableEq, Repr

/-- No frame symbol since the previous line event. -/
def LineRun.none : LineRun := { start := false, data := [] }

/-- How a frame ends (R5): by EF, or cut. A cut by a second SF also starts a new frame. -/
inductive FrameEnd where
  | complete
  | cut (newFrame : Bool)
deriving DecidableEq, Repr

/-- A COMMAND request as the access agent holds it (10_access_requests_and_notices.md, Requests and the request queue);
the command code is the row's. The count of a COMMAND is not examined (R195). -/
structure CommandRequest where
  count : Byte
  tag : Half
  argument : Word
  source : Byte
  port : PortId
deriving DecidableEq, Repr

/-- A WRITE or WRITE_POSTED request as the access agent holds it. -/
structure WriteRequest where
  /-- WRITE_POSTED if set, WRITE if clear. -/
  posted : Bool
  count : Byte
  tag : Half
  address : Word
  data : List Word
  source : Byte
  port : PortId
deriving DecidableEq, Repr

/-- The outputs of one pass completion, which R94 has taken in either order. -/
inductive PassOutput where
  /-- e or "no e" to the tracker. -/
  | tracker
  /-- The firing angles to the six channels. -/
  | delivery
  /-- The pass record to the supervisor. -/
  | supervisor
  /-- The engine's own notices (R104, R126). -/
  | notices
deriving DecidableEq, Repr

/-- The commands and events, one constructor per row of spec/opcode_table.json, in the table's order. -/
inductive Instr where
  | powerOnReset (straps : Byte)
  | signalPresent (port : PortId)
  | lossOfSignal (port : PortId) (run : LineRun)
  | lossOfAlignment (port : PortId) (run : LineRun)
  | validMarkReceived (port : PortId) (run : LineRun) (mark : Mark)
  | illFormedMarkReceived (port : PortId) (run : LineRun) (s1 s2 s3 : LineSymbol)
  | frameArrival (port : PortId) (run : LineRun) (ending : FrameEnd)
  | seekTimerExpiry (port : PortId)
  | alignTimerExpiry (port : PortId)
  | holdoffTimerExpiry (port : PortId)
  | monitoringWindowExpiry (port : PortId)
  | transmitStart (port : PortId)
  | transmitEnd (port : PortId)
  | paceMarkSent
  | paceEvent
  | timemarkPositionReached
  | passBoundaryReached
  | loadPointReached (valve : ValveId)
  | issuePositionReached (valve : ValveId)
  | passCompletion (order : List PassOutput)
  | checkCompletion (table : TableId)
  | quietTimerExpiry
  | start (request : CommandRequest)
  | stop (request : CommandRequest)
  | hold (request : CommandRequest)
  | release (request : CommandRequest)
  | setMode (request : CommandRequest)
  | setManualL (request : CommandRequest)
  | commit (request : CommandRequest)
  | resetTrip (request : CommandRequest)
  | warmReset (request : CommandRequest)
  | retrain (request : CommandRequest)
  | clearNotice (request : CommandRequest)
  | setBuffering (request : CommandRequest)
  | setStyle (request : CommandRequest)
  | portConfigurationWrite (request : WriteRequest)
  | forwardingTableWrite (request : WriteRequest)
  | streamTableWrite (request : WriteRequest)
  | accessWindowWrite (request : WriteRequest)
  | noticeVectorWrite (request : WriteRequest)
  | counterClear (request : WriteRequest)
  | standbyOrStagedWrite (request : WriteRequest)
  | readOnlyRegionWrite (request : WriteRequest)
  | invalidSymbolReceived (port : PortId) (run : LineRun)
deriving DecidableEq, Repr

end Sys2Proof
end

