-- ==== Sys2Proof/Machine/Types.lean ====
section
/-! DEFINITION. The state of each block, as plain data (00_scope.md section 3; each structure names the rules that give
its pieces). -/

namespace Sys2Proof.Machine

/-- A branch of the reactor: AB 0, BC 1, CA 2. -/
abbrev BranchId := Fin 3

/-- A notice source, 0 to 21 (10_access_requests_and_notices.md, Notices). -/
abbrev SourceId := Fin 22

/-- A stream table entry, 0 to 7 (R48). -/
abbrev StreamId := Fin 8

/-- The four transmit classes of a port (R30), in the order of the port counters (R22). -/
inductive TxClass where
  | timed
  | access
  | measure
  | pass
deriving DecidableEq, Repr

/-- The six states of a port (R10); R21 gives the codes. -/
inductive LinkState where
  | down
  | seeking
  | aligned
  | up
  | farFault
  | holdoff
deriving DecidableEq, Repr

/-- The six operating states (R171), in code order. -/
inductive OpState where
  | off
  | ready
  | running
  | holding
  | blocked
  | tripped
deriving DecidableEq, Repr

/-- The cause codes 0 to 14 of R174, in code order. -/
inductive Cause where
  | permissivesMet
  | undervoltage
  | voltageInvalid
  | rotationFault
  | trackerNotLocked
  | misfire
  | valveFault
  | psNotUp
  | currentInvalid
  | currentValid
  | recovered
  | start
  | stop
  | resetTrip
  | permissiveLost
deriving DecidableEq, Repr

/-- The status codes 0 to 7 of R198, in code order. -/
inductive Status where
  | ok
  | busy
  | badArgument
  | state
  | noWindow
  | readOnly
  | badAddress
  | badCount
deriving DecidableEq, Repr

/-- The output styles (R137). -/
inductive Style where
  | pulse
  | sustain
deriving DecidableEq, Repr

/-- The buffering modes (R141). -/
inductive Buffering where
  | double
  | single
deriving DecidableEq, Repr

/-- The commands of a GATE frame (Table 3 of 01_the_station_link.md). -/
inductive GateCode where
  | fire
  | block
  | deblock
deriving DecidableEq, Repr

/-- One gate command with the values that stay inside the part (02_frame_switching_and_transmit_scheduling.md, GATE
commands): the latest fire position, the style, the sustain end, and the LATE mark of R38. -/
structure GateCommand where
  valve : ValveId
  code : GateCode
  pulse : Nat
  position : Pos
  latest : Pos
  style : Style
  sustainEnd : Pos
  late : Bool
deriving DecidableEq, Repr

/-- A frame of a transmit queue or in transmission: one forwarded with the bytes it arrived with (R27), or one the part
builds (R37, R35, R198, R204). A TIMEMARK frame's payload is written at its transmit start (R37). -/
inductive Frame where
  | forwarded (bytes : List Byte)
  | timemark
  | stampedTimemark (g : Pos) (inc : Nat) (trackerCode rotation : Nat)
  | gate (commands : List GateCommand)
  | reply (dest : Byte) (tag : Half) (status : Status) (data : List Word)
  | notice (dest : Byte) (source : SourceId) (vector : Byte) (repeats : Nat) (opState : OpState) (detail : Word)
deriving DecidableEq, Repr

/-- The frame in transmission (R30): its class, its content, and its frame bytes with their check, as sent (R7). -/
structure TxFrame where
  cls : TxClass
  frame : Frame
  bytes : List Byte
deriving DecidableEq, Repr

/-- The frame in reception (R5): the stored bytes, at most 506, and the received-byte count. -/
structure RxFrame where
  bytes : List Byte
  count : Nat
deriving DecidableEq, Repr

/-- The state a port owns (R10 to R23, R30, R33). Timers hold the reference clocks left (25 MHz). -/
structure Port where
  link : LinkState
  /-- The signal detector's report (R1). -/
  signal : Bool
  /-- The run count of invalid symbols (R1), held up to 16. -/
  invalidRun : Nat
  /-- The run of valid marks counted in SEEKING (R12). -/
  validRun : Nat
  /-- The attempt count, 0 to 8 (R10). -/
  attempts : Nat
  seekTimer : Option Nat
  alignTimer : Option Nat
  holdoffTimer : Option Nat
  /-- The current monitoring window; none while windowing is stopped (R20). -/
  windowTimer : Option Nat
  /-- The errored-frame count of the current window (R20). -/
  windowErrors : Nat
  /-- The clean-window run, 0 to 8 (R20). -/
  cleanRun : Nat
  degraded : Bool
  /-- The receive buffer and the frame in reception (R5). -/
  rx : Option RxFrame
  /-- The frame in transmission (R30). -/
  tx : Option TxFrame
  /-- The one TRAIN mark with ready 1 that the port sends first on entering UP from ALIGNED (R14) is still to be sent. -/
  trainOwed : Bool
  /-- The tag of the PACE mark requested and not yet sent (R3; PN only). -/
  paceRequest : Option Byte
  /-- The tag of the last PACE mark sent (R3; PN only). -/
  lastPaceSent : Option Byte
  /-- The last mark the transmitter put on the line (R2, R11 to R16); none before the first one. -/
  lineMark : Option Mark
  timed : List Frame
  access : List Frame
  measure : List Frame
  pass : List Frame
  /-- The effective priorities of the three aged classes (R33). -/
  effAccess : Nat
  effMeasure : Nat
  effPass : Nat
  /-- Port configuration words 0, 1 and 2 (R23). -/
  oneWay : Bool
  hiErrThreshold : Nat
  accessPriority : Nat
deriving DecidableEq, Repr

/-- Arrival port field of a forwarding entry (R25). -/
inductive ArrivalMatch where
  | north
  | south
  | either
deriving DecidableEq, Repr

/-- Destination mode of a forwarding entry (R25), in code order. -/
inductive DestMode where
  | own
  | given
  | broadcast
  | any
deriving DecidableEq, Repr

/-- Action of a forwarding entry (R25), in code order. -/
inductive FwdAction where
  | consume
  | forward
  | copy
  | drop
deriving DecidableEq, Repr

/-- One of the 16 forwarding entries (R25). -/
structure FwdEntry where
  enable : Bool
  arrival : ArrivalMatch
  action : FwdAction
  /-- The forward class is PASS if set, MEASURE if clear. -/
  classPass : Bool
  kind : Byte
  kindAny : Bool
  dest : Byte
  destMode : DestMode
  source : Byte
  sourceAny : Bool
deriving DecidableEq, Repr

/-- The pace generator (R44 to R46). -/
structure Pace where
  /-- The full pace count P. -/
  count : Word
  /-- Events counted since the origin (R44). -/
  sinceOrigin : Nat
  /-- Reference clocks since the previous pace event: the j of R71. -/
  clock : Nat
  /-- Reference clocks of the current pace period: the n of R71. -/
  length : Nat
deriving DecidableEq, Repr

/-- Role of a stream (R48), in code order; code 3 is refused (R49). -/
inductive Role where
  | feeder
  | voltageMain
  | voltageStandby
deriving DecidableEq, Repr

/-- One phase of a channel map (R48): a channel index and its polarity-invert flag. -/
structure ChannelMap where
  index : Fin 8
  invert : Bool
deriving DecidableEq, Repr

/-- One of the 8 stream table entries (R48). -/
structure StreamEntry where
  enable : Bool
  source : Byte
  role : Role
  acceptTest : Bool
  mapA : ChannelMap
  mapB : ChannelMap
  mapC : ChannelMap
  gain : Half
  holdLimit : Byte
deriving DecidableEq, Repr

/-- The stream states (R51), in code order. -/
inductive StreamState where
  | disabled
  | silent
  | acquiring
  | locked
  | lost
deriving DecidableEq, Repr

/-- Three phase values. -/
structure Phases where
  a : Int
  b : Int
  c : Int
deriving DecidableEq, Repr

/-- Three zeros. -/
def Phases.zero : Phases := { a := 0, b := 0, c := 0 }

/-- Words 0 to 5 of a stream's status record (R51). -/
structure StreamStatus where
  state : StreamState
  filled : Nat
  missing : Nat
  last : Phases
deriving DecidableEq, Repr

/-- A filled slot of a merge row (R58). -/
structure Slot where
  values : Phases
  overrange : Bool
deriving DecidableEq, Repr

/-- An open merge row (R58). -/
structure Row where
  index : Word
  position : Pos
  slots : Vector (Option Slot) 8
deriving DecidableEq, Repr

/-- The voltage selection (R63), in code order. -/
inductive Selection where
  | none
  | main
  | standby
deriving DecidableEq, Repr

/-- The quality flags of a composite set (R66), in the bit order of the pass record. -/
structure Quality where
  substitutedV : Bool
  substitutedI : Bool
  invalidV : Bool
  feederIncomplete : Bool
  overrange : Bool
  mixedVoltage : Bool
deriving DecidableEq, Repr

/-- A composite set (R65, R66). -/
structure CompositeSet where
  index : Word
  position : Pos
  v : Phases
  i : Phases
  quality : Quality
deriving DecidableEq, Repr

/-- The merge unit (R47 to R69). -/
structure Merge where
  table : Vector StreamEntry 8
  status : Vector StreamStatus 8
  /-- The open rows, oldest first; row E stands in place E mod 16 of the ring (R58). -/
  rows : List Row
  lastClosed : Word
  selection : Selection
  mainRun : Nat
  /-- The history ring, newest set first, at most 256 (R67). -/
  history : List CompositeSet
deriving DecidableEq, Repr

/-- The tracker states (R85), in code order. -/
inductive TrackerState where
  | free
  | pullIn
  | locked
  | holdover
deriving DecidableEq, Repr

/-- The grid tracker (R70 to R88). -/
structure Tracker where
  /-- The internal grid position: cycle, phase, sub-fraction, 16 bits each (R70). -/
  g48 : BitVec 48
  inc : Nat
  state : TrackerState
  /-- The gain step s, 0 to 3. -/
  gain : Nat
  lockRun : Nat
  unlockRun : Nat
  holdoverRun : Nat
  lastE : Int
  lastStep : Int
  nextTimemark : Pos
  nextBoundary : Pos
deriving DecidableEq, Repr

/-- A phasor or sequence component. -/
structure Phasor where
  re : Int
  im : Int
deriving DecidableEq, Repr

/-- The results of one branch in a pass record (R124). -/
structure BranchResult where
  demand : Int
  target : Int
  reactor : Nat
  conduction : Nat
  alpha : Nat
  capLimit : Bool
  indLimit : Bool
  slew : Bool
deriving DecidableEq, Repr

/-- Target source of a pass (R117), in the code order of the pass record. -/
inductive TargetSource where
  | none
  | auto
  | manual
  | ramp
  | hold
  | holding
deriving DecidableEq, Repr

/-- The engine modes (R115), in the code order of the pass record. -/
inductive EngineMode where
  | auto
  | manual
  | hold
deriving DecidableEq, Repr

/-- The pass flags that the record carries (R124); CAP_LIMIT, IND_LIMIT and SLEW of the pass are those of its branches. -/
structure PassFlags where
  voltageInvalid : Bool
  undervoltage : Bool
  rotationFault : Bool
  currentInvalid : Bool
  capLimit : Bool
  indLimit : Bool
  slew : Bool
  mixedVoltage : Bool
  demandSkipped : Bool
deriving DecidableEq, Repr

/-- The pass record (R124). -/
structure PassRecord where
  number : Half
  boundary : Pos
  quality : Quality
  flags : PassFlags
  v1 : Phasor
  v2 : Phasor
  mag1 : Nat
  mag2 : Nat
  i1q : Int
  x : Int
  y : Int
  e : Int
  t : Int
  mode : EngineMode
  target : TargetSource
  branches : Vector BranchResult 3
deriving DecidableEq, Repr

/-- The parameter record, one field per word (R159). -/
abbrev ParamRecord := Vector Word 64

/-- The angle table, 257 entries (R157). -/
abbrev AngleTable := Vector Word 257

/-- The reference table, C at words 0 to 63 and Q at words 64 to 127 (R157). -/
abbrev ReferenceTable := Vector Word 128

/-- The pass in flight (R93): its boundary, what is fixed at its start, and the reference clocks left to its completion
(R94). -/
structure InFlight where
  boundary : Pos
  /-- The sets of the history ring at the start, oldest first: among them the sets the 64 instants need (R93). -/
  window : List CompositeSet
  reference : ReferenceTable
  angle : AngleTable
  angleValid : Bool
  params : ParamRecord
  paramsValid : Bool
  timer : Nat
deriving DecidableEq, Repr

/-- The compensation engine (R89 to R129). -/
structure Engine where
  /-- The pending boundaries, oldest first, at most 2 (R90). -/
  pendingBoundaries : List Pos
  inFlight : Option InFlight
  /-- The boundary of the last pass started (R107). -/
  lastBoundary : Pos
  /-- The pass number of the last completed pass (R94). -/
  passNumber : Half
  record : PassRecord
  mode : EngineMode
  /-- The remembered mode is MANUAL if set, AUTO if clear (R115). -/
  rememberedManual : Bool
  manual : Vector Nat 3
  lPrev : Vector Nat 3
deriving DecidableEq, Repr

/-- The channel states (R153), in code order. -/
inductive ChannelState where
  | blocked
  | idle
  | armed
  | suppressed
  | issued
  | await
deriving DecidableEq, Repr

/-- The outcome of the last FIRE command (R153), in code order. -/
inductive FireOutcome where
  | none
  | sent
  | late
  | skipped
  | notSent
deriving DecidableEq, Repr

/-- One of the six firing channels (R130). -/
structure Channel where
  state : ChannelState
  alpha : Nat
  pendingAlpha : Nat
  pendingValid : Bool
  buffering : Buffering
  style : Style
  /-- The crossing cycle number n_v from which the next load point was computed (R131). -/
  cycle : Half
  loadPoint : Pos
  nextLoadPoint : Pos
  /-- The half-cycle values (R132). -/
  lead : Nat
  alphaOff : Nat
  pulse : Nat
  halfStyle : Style
  latest : Pos
  /-- The fire position F and the issue position I. -/
  fire : Pos
  issue : Pos
  /-- Pulse length of the last FIRE command issued (R153 word 9). -/
  lastPulse : Nat
  capturePosition : Pos
  captureError : Int
  misses : Nat
  blockAck : Bool
  outcome : FireOutcome
deriving DecidableEq, Repr

/-- The commit states (R168), in code order. -/
inductive CommitState where
  | idle
  | checking
  | pending
deriving DecidableEq, Repr

/-- The last results of a commit (R168), in code order. -/
inductive CommitResult where
  | none
  | passed
  | activated
  | checkMismatch
  | notMonotonic
  | outOfRange
  | state
  | cancelled
deriving DecidableEq, Repr

/-- The commit status record of one table (R168), with the reference clocks left of a check in flight (R160). -/
structure Commit where
  state : CommitState
  timer : Nat
  result : CommitResult
  expected : Half
  computed : Half
  failing : Nat
  activeCheck : Half
  activations : Half
deriving DecidableEq, Repr

/-- The table store (R157 to R170). A designation names bank B active if set, bank A if clear. -/
structure Tables where
  angleA : AngleTable
  angleB : AngleTable
  angleActiveB : Bool
  angleValid : Bool
  refA : ReferenceTable
  refB : ReferenceTable
  refActiveB : Bool
  refValid : Bool
  staged : ParamRecord
  active : ParamRecord
  paramsValid : Bool
  angleCommit : Commit
  refCommit : Commit
  paramsCommit : Commit
  /-- The quiet timer (R163): reference clocks left; none once it has expired. -/
  quiet : Option Nat
deriving DecidableEq, Repr

/-- The permissive record (R172); an item is met if set. -/
structure Permissives where
  angle : Bool
  parameters : Bool
  tracker : Bool
  voltage : Bool
  feeders : Bool
  link : Bool
  notTripped : Bool
deriving DecidableEq, Repr

/-- An entry of the block-entry history (R178). -/
structure HistoryEntry where
  pass : Half
  cause : Cause
  valve : ValveId
  expired : Bool
deriving DecidableEq, Repr

/-- The trip record (R179). Its cause code is 0 until the first trip (R191). -/
structure TripRecord where
  latched : Bool
  causeCode : Nat
  valve : ValveId
  pass : Half
deriving DecidableEq, Repr

/-- The supervisor (R171 to R192). -/
structure Supervisor where
  state : OpState
  items : Permissives
  recovery : Nat
  holding : Nat
  ramp : Bool
  lastPass : Half
  history : List HistoryEntry
  trip : TripRecord
deriving DecidableEq, Repr

/-- A request as the access agent holds it (10_access_requests_and_notices.md, Requests and the request queue). -/
structure Request where
  operation : Byte
  count : Byte
  tag : Half
  address : Word
  data : List Word
  source : Byte
  port : PortId
deriving DecidableEq, Repr

/-- One of the 8 access windows (R196). -/
structure Window where
  enable : Bool
  translate : Bool
  readOnly : Bool
  forcePosted : Bool
  base : Word
  mask : Word
  value : Word
deriving DecidableEq, Repr

/-- The access agent (R193 to R202). -/
structure Agent where
  windows : Vector Window 8
  /-- The request queue, head first, at most 4 (R193). -/
  queue : List Request
deriving DecidableEq, Repr

/-- One entry of the notice vector table with its pending flag, repeat count and latest detail (R203, R204). -/
structure NoticeEntry where
  enable : Bool
  route : PortId
  vector : Byte
  dest : Byte
  pending : Bool
  repeats : Nat
  latest : Option Word
deriving DecidableEq, Repr

/-- Every counter of the part, in the order of the counters region (R201). -/
inductive Counter where
  | good (p : PortId) (kind : Fin 8)
  | error (p : PortId) (cause : Fin 5)
  | sent (p : PortId) (c : TxClass)
  | overflow (p : PortId) (c : TxClass)
  | notReady (p : PortId) (c : TxClass)
  | trainingAttempts (p : PortId)
  | paceSeen (p : PortId)
  | consumed (p : PortId)
  | unclaimed (p : PortId)
  | forwarded (p : PortId)
  | tableDrop (p : PortId)
  | hit (entry : Fin 16)
  | stream (s : StreamId) (n : Fin 7)
  | passesWithE
  | passesWithoutE
  | saturatedSteps
  | incClamps
  | passesCompleted
  | passesOverrun
  | windowsNotFormed
  | demandSkipped
  | branch (b : BranchId) (n : Fin 3)
  | channel (v : ValveId) (n : Fin 9)
  | blockEntries
  | trips
  | recoveries
  | holdingEntries
  | requestsServed
  | refusedAtArrival
  | discardedByReset
  | noticesQueued
  | noticesNotQueued
deriving DecidableEq, Repr

end Sys2Proof.Machine
end

