-- ==== Sys2Proof/Machine/Codes.lean ====
section
/-! DEFINITION. The codes that frames, notice details and readable words carry, the word offsets of the counters (R201),
and the numbers of the notice sources. -/

namespace Sys2Proof.Machine

/-- State code of a port (R21). -/
def linkCode : LinkState → Nat
  | .down => 0 | .seeking => 1 | .aligned => 2 | .up => 3 | .farFault => 4 | .holdoff => 5

/-- Operating state code (R171). -/
def opCode : OpState → Nat
  | .off => 0 | .ready => 1 | .running => 2 | .holding => 3 | .blocked => 4 | .tripped => 5

/-- Cause code (R174). -/
def causeCode : Cause → Nat
  | .permissivesMet => 0 | .undervoltage => 1 | .voltageInvalid => 2 | .rotationFault => 3 | .trackerNotLocked => 4
  | .misfire => 5 | .valveFault => 6 | .psNotUp => 7 | .currentInvalid => 8 | .currentValid => 9 | .recovered => 10
  | .start => 11 | .stop => 12 | .resetTrip => 13 | .permissiveLost => 14

/-- Status code of a reply (R198). -/
def statusCode : Status → Nat
  | .ok => 0 | .busy => 1 | .badArgument => 2 | .state => 3 | .noWindow => 4 | .readOnly => 5 | .badAddress => 6
  | .badCount => 7

/-- Tracker state code (R85). -/
def trackerCode : TrackerState → Nat
  | .free => 0 | .pullIn => 1 | .locked => 2 | .holdover => 3

/-- Stream state code (R51). -/
def streamCode : StreamState → Nat
  | .disabled => 0 | .silent => 1 | .acquiring => 2 | .locked => 3 | .lost => 4

/-- Role code (R48). -/
def roleCode : Role → Nat
  | .feeder => 0 | .voltageMain => 1 | .voltageStandby => 2

/-- Voltage selection code (R64). -/
def selectionCode : Selection → Nat
  | .none => 0 | .main => 1 | .standby => 2

/-- Engine mode code (R124, word 15). -/
def modeCode : EngineMode → Nat
  | .auto => 0 | .manual => 1 | .hold => 2

/-- Target source code (R124, word 15). -/
def targetCode : TargetSource → Nat
  | .none => 0 | .auto => 1 | .manual => 2 | .ramp => 3 | .hold => 4 | .holding => 5

/-- Channel state code (R153). -/
def channelCode : ChannelState → Nat
  | .blocked => 0 | .idle => 1 | .armed => 2 | .suppressed => 3 | .issued => 4 | .await => 5

/-- Last-outcome code (R153). -/
def outcomeCode : FireOutcome → Nat
  | .none => 0 | .sent => 1 | .late => 2 | .skipped => 3 | .notSent => 4

/-- Commit state code (R168). -/
def commitCode : CommitState → Nat
  | .idle => 0 | .checking => 1 | .pending => 2

/-- Commit result code (R168). -/
def resultCode : CommitResult → Nat
  | .none => 0 | .passed => 1 | .activated => 2 | .checkMismatch => 3 | .notMonotonic => 4 | .outOfRange => 5
  | .state => 6 | .cancelled => 7

/-- Table id (R160). -/
def tableCode : TableId → Nat
  | .angle => 0 | .reference => 1 | .parameters => 2

/-- Port code of the notice details (R31). -/
def portCode : PortId → Nat
  | .north => 0 | .south => 1

/-- Class code (R31). -/
def classCode : TxClass → Nat
  | .timed => 0 | .access => 1 | .measure => 2 | .pass => 3

/-- Gate command code (Table 3 of 01_the_station_link.md). -/
def gateCode : GateCode → Nat
  | .fire => 1 | .block => 2 | .deblock => 3

/-- The other port. -/
def otherPort : PortId → PortId
  | .north => .south | .south => .north

/-- The valve ids, in order. -/
def valveIds : List ValveId := [0, 1, 2, 3, 4, 5]

/-- The stream entries, in order. -/
def streamIds : List StreamId := [0, 1, 2, 3, 4, 5, 6, 7]

/-- The branches, in order. -/
def branchIds : List BranchId := [0, 1, 2]

/-- The forwarding entries, in index order. -/
def entryIds : List (Fin 16) := [0, 1, 2, 3, 4, 5, 6, 7, 8, 9, 10, 11, 12, 13, 14, 15]

/-- The branch of a valve (R122). -/
def branchOf (v : ValveId) : BranchId := ⟨v.val / 2, by omega⟩

/-- The channel group of a valve: 0 forward, 1 reverse (R132). -/
def groupOf (v : ValveId) : Fin 2 := ⟨v.val % 2, by omega⟩

/-- Word offset of a port's counters: PN at 0, PS at 32 (R201). -/
def portBase : PortId → Fin 33
  | .north => 0 | .south => 32

/-- Word offset of a port's switch counters: PN at 64, PS at 68 (R201). -/
def switchBase : PortId → Fin 69
  | .north => 64 | .south => 68

/-- Class code as an index. -/
def classIndex : TxClass → Fin 4
  | .timed => 0 | .access => 1 | .measure => 2 | .pass => 3

/-- The word offset of a counter in the counters region (R201, R22, R51, R125, R154). -/
def Counter.offset : Counter → Fin 297
  | .good p k => ⟨portBase p + k, by omega⟩
  | .error p k => ⟨portBase p + 8 + k, by omega⟩
  | .sent p c => ⟨portBase p + 13 + classIndex c, by omega⟩
  | .overflow p c => ⟨portBase p + 17 + classIndex c, by omega⟩
  | .notReady p c => ⟨portBase p + 21 + classIndex c, by omega⟩
  | .trainingAttempts p => ⟨portBase p + 25, by omega⟩
  | .paceSeen p => ⟨portBase p + 26, by omega⟩
  | .consumed p => ⟨switchBase p, by omega⟩
  | .unclaimed p => ⟨switchBase p + 1, by omega⟩
  | .forwarded p => ⟨switchBase p + 2, by omega⟩
  | .tableDrop p => ⟨switchBase p + 3, by omega⟩
  | .hit i => ⟨72 + i, by omega⟩
  | .stream s n => ⟨96 + 8 * s + n, by omega⟩
  | .passesWithE => 160
  | .passesWithoutE => 161
  | .saturatedSteps => 162
  | .incClamps => 163
  | .passesCompleted => 164
  | .passesOverrun => 165
  | .windowsNotFormed => 166
  | .demandSkipped => 167
  | .branch b n => ⟨168 + 3 * b + n, by omega⟩
  | .channel v n => ⟨192 + 16 * v + n, by omega⟩
  | .blockEntries => 288
  | .trips => 289
  | .recoveries => 290
  | .holdingEntries => 291
  | .requestsServed => 292
  | .refusedAtArrival => 293
  | .discardedByReset => 294
  | .noticesQueued => 295
  | .noticesNotQueued => 296

/-- PORT_N_STATE, PORT_S_STATE (R21). -/
def srcPortState : PortId → SourceId
  | .north => 0 | .south => 1

/-- PORT_N_DEGRADED, PORT_S_DEGRADED (R21). -/
def srcPortDegraded : PortId → SourceId
  | .north => 2 | .south => 3

/-- QUEUE_DROP (R31). -/
def srcQueueDrop : SourceId := 4
/-- STREAM_STATE (R53). -/
def srcStreamState : SourceId := 5
/-- VOLTAGE_SELECT (R64). -/
def srcVoltageSelect : SourceId := 6
/-- TRACKER_STATE (R85). -/
def srcTrackerState : SourceId := 7
/-- FREQ_LIMIT (R81). -/
def srcFreqLimit : SourceId := 8
/-- ROTATION_FAULT (R104). -/
def srcRotationFault : SourceId := 9
/-- PASS_OVERRUN (R92). -/
def srcPassOverrun : SourceId := 10
/-- UNDERVOLTAGE (R104). -/
def srcUndervoltage : SourceId := 11
/-- DEMAND_LIMIT (R126). -/
def srcDemandLimit : SourceId := 12
/-- LATE_FIRE (R38). -/
def srcLateFire : SourceId := 13
/-- SKIPPED_FIRE (R36, R38). -/
def srcSkippedFire : SourceId := 14
/-- MISFIRE (R146). -/
def srcMisfire : SourceId := 15
/-- VALVE_FAULT (R147). -/
def srcValveFault : SourceId := 16
/-- FIRE_DEVIATION (R144). -/
def srcFireDeviation : SourceId := 17
/-- OPERATING_STATE (R188). -/
def srcOperatingState : SourceId := 18
/-- TRIP (R188). -/
def srcTrip : SourceId := 19
/-- COMMIT_RESULT (R168). -/
def srcCommitResult : SourceId := 20
/-- ACCESS_ERROR (R197). -/
def srcAccessError : SourceId := 21

end Sys2Proof.Machine
end

