-- ==== Sys2Proof/Machine/Params.lean ====
section
/-! DEFINITION. The fields of the parameter record, their defaults and their ranges (R159). -/

namespace Sys2Proof.Machine

/-- Supply frequency in Hz, word 0. -/
def pFn (p : ParamRecord) : Nat := p[0].toNat
/-- Rotation ACB, word 1. -/
def pAcb (p : ParamRecord) : Bool := p[1] == 1
/-- V_nom, word 2. -/
def pVnom (p : ParamRecord) : Nat := p[2].toNat
/-- V_min, word 3. -/
def pVmin (p : ParamRecord) : Nat := p[3].toNat
/-- passPhase, word 4. -/
def pPassPhase (p : ParamRecord) : Nat := p[4].toNat
/-- mergeDelay, word 5. -/
def pMergeDelay (p : ParamRecord) : Nat := p[5].toNat
/-- futureGuard, word 6. -/
def pFutureGuard (p : ParamRecord) : Nat := p[6].toNat
/-- Branch field k (0 B_FC, 1 B_Lmax, 2 Kd, 3 slewMax, 4 c, 5 L_safe) of branch b, word 8 + 8b + k. -/
def pBranch (p : ParamRecord) (b : BranchId) (k : Fin 6) : Word := p[8 + 8 * b.val + k.val]
/-- B_FC of branch b. -/
def pBfc (p : ParamRecord) (b : BranchId) : Nat := (pBranch p b 0).toNat
/-- B_Lmax of branch b. -/
def pBlmax (p : ParamRecord) (b : BranchId) : Nat := (pBranch p b 1).toNat
/-- Kd of branch b. -/
def pKd (p : ParamRecord) (b : BranchId) : Nat := (pBranch p b 2).toNat
/-- slewMax of branch b. -/
def pSlewMax (p : ParamRecord) (b : BranchId) : Nat := (pBranch p b 3).toNat
/-- Calibration offset c of branch b, a 32-bit two's complement value. -/
def pCal (p : ParamRecord) (b : BranchId) : Int := (pBranch p b 4).toInt
/-- L_safe of branch b. -/
def pLsafe (p : ParamRecord) (b : BranchId) : Nat := (pBranch p b 5).toNat
/-- Firing field k (0 lead, 1 pulse length, 2 αoff, 3 lateMargin, 4 fireTolerance, 5 missLimit) of the group of valve v,
word 32 + 8g + k. -/
def pFiring (p : ParamRecord) (v : ValveId) (k : Fin 6) : Nat := (p[32 + 8 * (groupOf v).val + k.val]).toNat
/-- lead of valve v. -/
def pLead (p : ParamRecord) (v : ValveId) : Nat := pFiring p v 0
/-- Pulse length of valve v. -/
def pPulse (p : ParamRecord) (v : ValveId) : Nat := pFiring p v 1
/-- αoff of valve v. -/
def pAlphaOff (p : ParamRecord) (v : ValveId) : Nat := pFiring p v 2
/-- lateMargin of valve v. -/
def pLateMargin (p : ParamRecord) (v : ValveId) : Nat := pFiring p v 3
/-- fireTolerance of valve v. -/
def pFireTolerance (p : ParamRecord) (v : ValveId) : Nat := pFiring p v 4
/-- missLimit of valve v. -/
def pMissLimit (p : ParamRecord) (v : ValveId) : Nat := pFiring p v 5
/-- recoveryDelay, word 48. -/
def pRecoveryDelay (p : ParamRecord) : Nat := p[48].toNat
/-- tripCount, word 49. -/
def pTripCount (p : ParamRecord) : Nat := p[49].toNat
/-- tripWindow, word 50. -/
def pTripWindow (p : ParamRecord) : Nat := p[50].toNat
/-- holdingLimit, word 51. -/
def pHoldingLimit (p : ParamRecord) : Nat := p[51].toNat
/-- autoRecover, word 52. -/
def pAutoRecover (p : ParamRecord) : Bool := p[52] == 1
/-- stepUp, word 56. -/
def pStepUp (p : ParamRecord) : Nat := p[56].toNat
/-- stepDown, word 57. -/
def pStepDown (p : ParamRecord) : Nat := p[57].toNat
/-- lockThreshold, word 58. -/
def pLockThreshold (p : ParamRecord) : Nat := p[58].toNat
/-- unlockThreshold, word 59. -/
def pUnlockThreshold (p : ParamRecord) : Nat := p[59].toNat
/-- holdoverLimit, word 60. -/
def pHoldoverLimit (p : ParamRecord) : Nat := p[60].toNat

/-- The defaults of a branch's eight words (R159). -/
def branchDefaults : List Word := [0, 65535, 256, 65535, 0, 0, 0, 0]

/-- The defaults of a channel group's eight words (R159). -/
def firingDefaults : List Word := [2048, 4096, 32440, 256, 364, 3, 0, 0]

/-- The 64 default words of the parameter record (R159); unnamed words are 0. -/
def defaultWords : List Word :=
  [50, 0, 0, 14000, 0, 4, 16, 0] ++ branchDefaults ++ branchDefaults ++ branchDefaults ++ firingDefaults ++ firingDefaults
    ++ [20, 3, 1200, 10, 0, 0, 0, 0] ++ [728, 91, 182, 910, 100, 0, 0, 0]

/-- The default record: the staged copy after power-on reset (R159, R169). -/
def defaultParams : ParamRecord := ⟨⟨defaultWords⟩, by rfl⟩

/-- The words of the record that R159 does not name: they read 0 and are not stored. -/
def paramUnnamed (i : Nat) : Bool :=
  [7, 14, 15, 22, 23, 30, 31, 38, 39, 46, 47, 53, 54, 55, 61, 62, 63].contains i

/-- Word w lies in lo … hi as an unsigned number. -/
def inRange (lo hi : Nat) (w : Word) : Bool := decide (lo ≤ w.toNat ∧ w.toNat ≤ hi)

/-- Field k of a branch lies in its range (R159); L_safe is compared with the B_Lmax of the same branch. -/
def branchFieldOk (p : ParamRecord) (b : BranchId) (k : Nat) (w : Word) : Bool :=
  match k with
  | 0 => inRange 0 65535 w
  | 1 => inRange 1 65535 w
  | 2 => inRange 0 512 w
  | 3 => inRange 1 65535 w
  | 4 => decide (-2048 ≤ w.toInt ∧ w.toInt ≤ 2047)
  | 5 => inRange 0 (pBlmax p b) w
  | _ => true

/-- Field k of a channel group lies in its range (R159). -/
def firingFieldOk (k : Nat) (w : Word) : Bool :=
  match k with
  | 0 => inRange 512 8192 w
  | 1 => inRange 1024 16384 w
  | 2 => inRange 16385 32767 w
  | 3 => inRange 64 2048 w
  | 4 => inRange 0 16384 w
  | 5 => inRange 1 15 w
  | _ => true

/-- Word i of a staged record lies in its commit range (R159); unnamed words have none. -/
def paramWordOk (p : ParamRecord) (i : Nat) (w : Word) : Bool :=
  if i = 0 then decide (w = 50 ∨ w = 60)
  else if i = 1 then inRange 0 1 w
  else if i = 2 then inRange 1 32767 w
  else if i = 3 then inRange 1 32767 w
  else if i = 4 then inRange 0 64512 w && decide (w.toNat % 1024 = 0)
  else if i = 5 then inRange 2 12 w
  else if i = 6 then decide (w = 8 ∨ w = 16 ∨ w = 32 ∨ w = 64)
  else if i = 7 then true
  else if i < 16 then branchFieldOk p 0 (i - 8) w
  else if i < 24 then branchFieldOk p 1 (i - 16) w
  else if i < 32 then branchFieldOk p 2 (i - 24) w
  else if i < 40 then firingFieldOk (i - 32) w
  else if i < 48 then firingFieldOk (i - 40) w
  else if i = 48 then inRange 1 255 w
  else if i = 49 then inRange 1 15 w
  else if i = 50 then inRange 1 65535 w
  else if i = 51 then inRange 0 255 w
  else if i = 52 then inRange 0 1 w
  else if i < 56 then true
  else if i < 60 then inRange 0 8192 w
  else if i = 60 then inRange 1 65535 w
  else true

end Sys2Proof.Machine
end

