-- ==== Sys2Proof/Machine/PowerOn.lean ====
section
/-! DEFINITION. The power-on state of each block (R23, R42, R68, R87, R108, R128, R155, R169, R191, R207). -/

namespace Sys2Proof.Machine

/-- Reference clocks of the seek timer, 2 ms at 25 MHz (R10). -/
def seekClocks : Nat := 50000
/-- Reference clocks of the align timer, 10 ms (R10). -/
def alignClocks : Nat := 250000
/-- Reference clocks of the holdoff timer, 100 ms (R10). -/
def holdoffClocks : Nat := 2500000
/-- Reference clocks of a monitoring window, 1 ms (R20). -/
def windowClocks : Nat := 25000
/-- Reference clocks of the quiet timer, 20 ms (R163). -/
def quietClocks : Nat := 500000
/-- Reference clocks of a pass, 48 µs (R94). -/
def passClocks : Nat := 1200
/-- Reference clocks of a commit check, 20 µs (R160). -/
def checkClocks : Nat := 500
/-- The nominal increment, 2^25 (00_scope.md section 5.2). -/
def incNominal : Nat := 33554432
/-- The lower clamp of inc (R81). -/
def incMin : Nat := 30198989
/-- The upper clamp of inc (R81). -/
def incMax : Nat := 36909875

/-- A port after power-on reset (R23, R42), with the signal detector's report as given. -/
def portPowerOn (signal : Bool) : Port :=
  { link := .down, signal := signal, invalidRun := 0, validRun := 0, attempts := 0, seekTimer := none,
    alignTimer := none, holdoffTimer := none, windowTimer := none, windowErrors := 0, cleanRun := 0, degraded := false,
    rx := none, tx := none, trainOwed := false, paceRequest := none, lastPaceSent := none, lineMark := none, timed := [], access := [],
    measure := [], pass := [], effAccess := 2, effMeasure := 4, effPass := 6, oneWay := false, hiErrThreshold := 8,
    accessPriority := 2 }

/-- A forwarding entry of zeros (R25, R42). -/
def fwdPowerOn : FwdEntry :=
  { enable := false, arrival := .north, action := .consume, classPass := false, kind := 0, kindAny := false, dest := 0,
    destMode := .own, source := 0, sourceAny := false }

/-- Clocks from the origin to event k (R44): floor(k·15,625/4) at fn = 50, floor(k·78,125/24) at fn = 60. -/
def paceAt (fn k : Nat) : Nat := if fn = 60 then k * 78125 / 24 else k * 15625 / 4

/-- The pace generator after power-on reset (R46, R44): the end of the reset is the origin. -/
def pacePowerOn : Pace := { count := 0, sinceOrigin := 0, clock := 0, length := paceAt 50 1 }

/-- A stream entry at the power-on values of R48. -/
def streamPowerOn : StreamEntry :=
  { enable := false, source := 0, role := .feeder, acceptTest := false, mapA := { index := 0, invert := false },
    mapB := { index := 0, invert := false }, mapC := { index := 0, invert := false }, gain := 32768, holdLimit := 32 }

/-- A stream's status after power-on reset (R68). -/
def statusPowerOn : StreamStatus := { state := .disabled, filled := 0, missing := 0, last := Phases.zero }

/-- The merge unit after power-on reset (R68). -/
def mergePowerOn : Merge :=
  { table := Vector.replicate 8 streamPowerOn, status := Vector.replicate 8 statusPowerOn, rows := [], lastClosed := 0,
    selection := .none, mainRun := 0, history := [] }

/-- The tracker after power-on reset (R87). -/
def trackerPowerOn : Tracker :=
  { g48 := 0, inc := incNominal, state := .free, gain := 3, lockRun := 0, unlockRun := 0, holdoverRun := 0, lastE := 0,
    lastStep := 0, nextTimemark := posOf 0 32768, nextBoundary := posOf 0 32768 }

/-- No quality flag. -/
def Quality.clear : Quality :=
  { substitutedV := false, substitutedI := false, invalidV := false, feederIncomplete := false, overrange := false,
    mixedVoltage := false }

/-- No pass flag. -/
def PassFlags.clear : PassFlags :=
  { voltageInvalid := false, undervoltage := false, rotationFault := false, currentInvalid := false, capLimit := false,
    indLimit := false, slew := false, mixedVoltage := false, demandSkipped := false }

/-- A branch whose fields read 0 (R110). -/
def BranchResult.zero : BranchResult :=
  { demand := 0, target := 0, reactor := 0, conduction := 0, alpha := 0, capLimit := false, indLimit := false,
    slew := false }

/-- The empty pass record (R108). -/
def recordPowerOn : PassRecord :=
  { number := 0, boundary := 0, quality := Quality.clear, flags := PassFlags.clear, v1 := { re := 0, im := 0 },
    v2 := { re := 0, im := 0 }, mag1 := 0, mag2 := 0, i1q := 0, x := 0, y := 0, e := 0, t := 0, mode := .auto,
    target := .none, branches := Vector.replicate 3 BranchResult.zero }

/-- The engine after power-on reset (R108, R128). -/
def enginePowerOn : Engine :=
  { pendingBoundaries := [], inFlight := none, lastBoundary := 0, passNumber := 0, record := recordPowerOn, mode := .auto,
    rememberedManual := false, manual := Vector.replicate 3 0, lPrev := Vector.replicate 3 0 }

/-- The phase Z_v of valve v's crossing for rotation ABC or ACB (R73). -/
def crossingPhase (acb : Bool) (v : ValveId) : Nat :=
  match v, acb with
  | 0, false => 43691 | 1, false => 10923 | 2, false => 0 | 3, false => 32768 | 4, false => 21845 | 5, false => 54613
  | 0, true => 54613 | 1, true => 21845 | 2, true => 32768 | 3, true => 0 | 4, true => 10923 | 5, true => 43691

/-- The load point of valve v for crossing cycle n: n·65536 + Z_v + c on 32 bits (R131). -/
def loadPointOf (p : ParamRecord) (v : ValveId) (n : Half) : Pos :=
  Pos.move (posOf n.toNat (crossingPhase (pAcb p) v)) (pCal p (branchOf v))

/-- The crossing cycle of the first load point: cycle 1 for BC+, whose crossing in cycle 0 is 0:0, and cycle 0 for the
others (R131). -/
def firstCycle (v : ValveId) : Half := if v = 2 then 1 else 0

/-- A channel after power-on reset (R155). The pending α is invalid; its value is not stated (assumption 1). -/
def channelPowerOn (v : ValveId) : Channel :=
  { state := .blocked, alpha := 32768, pendingAlpha := 0, pendingValid := false, buffering := .double, style := .pulse,
    cycle := firstCycle v, loadPoint := 0, nextLoadPoint := loadPointOf defaultParams v (firstCycle v), lead := 0,
    alphaOff := 0, pulse := 0, halfStyle := .pulse, latest := 0, fire := 0, issue := 0, lastPulse := 0,
    capturePosition := 0, captureError := 0, misses := 0, blockAck := false, outcome := .none }

/-- The default C entries for k = 0 to 16 (05_the_compensation_pass_measurement.md, Example: a full-scale in-phase
input). -/
def cosQuarter : List Int :=
  [16384, 16305, 16069, 15679, 15137, 14449, 13623, 12665, 11585, 10394, 9102, 7723, 6270, 4756, 3196, 1606, 0]

/-- The default C[k] = rounded(16384·cos(2πk/64)), by the symmetries of R169: C[32 − k] = −C[k], C[64 − k] = C[k]. -/
def defaultC (k : Nat) : Int :=
  if k ≤ 16 then cosQuarter.getD k 0
  else if k ≤ 32 then -cosQuarter.getD (32 - k) 0
  else if k ≤ 48 then -cosQuarter.getD (k - 32) 0
  else cosQuarter.getD (64 - k) 0

/-- The default Q[k] = −C[(k + 48) mod 64] (R169). -/
def defaultQ (k : Nat) : Int := -defaultC ((k + 48) % 64)

/-- The words of the default reference table (R157, R169). -/
def defaultReferenceWords : List Word :=
  (List.range 64).map (fun k => int32 (defaultC k)) ++ (List.range 64).map (fun k => int32 (defaultQ k))

/-- The default reference table (R169). -/
def defaultReference : ReferenceTable :=
  ⟨⟨defaultReferenceWords⟩, by simp [defaultReferenceWords]⟩

/-- A commit status record after power-on reset (R169), with the active check given. -/
def commitPowerOn (active : Half) : Commit :=
  { state := .idle, timer := 0, result := .none, expected := 0, computed := 0, failing := 0, activeCheck := active,
    activations := 0 }

/-- The table store after power-on reset (R169). -/
def tablesPowerOn : Tables :=
  { angleA := Vector.replicate 257 0, angleB := Vector.replicate 257 0, angleActiveB := false, angleValid := false,
    refA := defaultReference, refB := defaultReference, refActiveB := false, refValid := true, staged := defaultParams,
    active := Vector.replicate 64 0, paramsValid := false, angleCommit := commitPowerOn 0,
    refCommit := commitPowerOn (checkOfWords defaultReferenceWords), paramsCommit := commitPowerOn 0,
    quiet := some quietClocks }

/-- The permissive record after power-on reset (R172). -/
def itemsPowerOn : Permissives :=
  { angle := false, parameters := false, tracker := false, voltage := false, feeders := true, link := false,
    notTripped := true }

/-- The supervisor after power-on reset (R191). -/
def supervisorPowerOn : Supervisor :=
  { state := .off, items := itemsPowerOn, recovery := 0, holding := 0, ramp := false, lastPass := 0, history := [],
    trip := { latched := false, causeCode := 0, valve := 0, pass := 0 } }

/-- A window of zeros (R196). -/
def windowZero : Window :=
  { enable := false, translate := false, readOnly := false, forcePosted := false, base := 0, mask := 0, value := 0 }

/-- The access agent after power-on reset (R196, R207): window 0 is hit by every address. -/
def agentPowerOn : Agent :=
  { windows := (Vector.replicate 8 windowZero).set 0 { windowZero with enable := true }, queue := [] }

/-- A notice source after power-on reset (R203, R207). -/
def noticePowerOn : NoticeEntry :=
  { enable := false, route := .north, vector := 0, dest := 0, pending := false, repeats := 0, latest := none }

/-- The node id from the straps: 255 becomes 254 (R24). -/
def nodeOfStraps (straps : Byte) : Byte := if straps = 255 then 254 else straps

end Sys2Proof.Machine
end

