-- ==== Sys2Proof/Machine/Measure.lean ====
section
/-! DEFINITION. The measurement stage of the compensation pass, as pure functions of the sets of the window (R89, R91,
R96 to R106). -/

namespace Sys2Proof.Machine

/-- Analysis instant j of a boundary (R89). -/
def instant (boundary : Pos) (j : Nat) : Pos := boundary - 65536#32 + BitVec.ofNat 32 (1024 * j)

/-- The reference-table entry paired with an instant (R89). -/
def pairedEntry (g : Pos) : Nat := (phaseOf g / 1024) % 64

/-- A position at or before another. -/
def atOrBefore (a b : Pos) : Bool := !isAfter a b

/-- The two consecutive sets around an instant, from the window oldest first (R96). -/
def findPair (g : Pos) : List CompositeSet → Option (CompositeSet × CompositeSet)
  | a :: b :: rest => if atOrBefore a.position g && isAfter b.position g then some (a, b) else findPair g (b :: rest)
  | _ => none

/-- The interpolation fraction f of an instant between two sets (R96). -/
def fraction (g a b : Pos) : Int := roundDiv (diff g a * 256) (diff b a).toNat

/-- One resampled value (R96). -/
def resample (xa xb f : Int) : Int := xa + roundDiv ((xb - xa) * f) 256

/-- Three resampled values. -/
def resamplePhases (a b : Phases) (f : Int) : Phases :=
  { a := resample a.a b.a f, b := resample a.b b.b f, c := resample a.c b.c f }

/-- The union of two qualities (R97). -/
def Quality.union (p q : Quality) : Quality :=
  { substitutedV := p.substitutedV || q.substitutedV, substitutedI := p.substitutedI || q.substitutedI,
    invalidV := p.invalidV || q.invalidV, feederIncomplete := p.feederIncomplete || q.feederIncomplete,
    overrange := p.overrange || q.overrange, mixedVoltage := p.mixedVoltage || q.mixedVoltage }

/-- One resampled instant: its reference entry and its six values. -/
structure Sample where
  k : Nat
  v : Phases
  i : Phases
deriving DecidableEq, Repr

/-- The resampled instants of a window and its window quality, from instant `63 − n` on for n instants left (R96,
R97). -/
def samples (boundary : Pos) (window : List CompositeSet) : Nat → List Sample × Quality
  | 0 => ([], Quality.clear)
  | n + 1 =>
    let rest := samples boundary window n
    let g := instant boundary (63 - n)
    match findPair g window with
    | none => rest
    | some (a, b) =>
      let f := fraction g a.position b.position
      ({ k := pairedEntry g, v := resamplePhases a.v b.v f, i := resamplePhases a.i b.i f } :: rest.1,
       (a.quality.union b.quality).union rest.2)

/-- The in-phase entry C[k] of a reference table (R157). -/
def refC (t : ReferenceTable) (k : Nat) : Int := (t.toList.getD k 0).toInt

/-- The quadrature entry Q[k] of a reference table (R157). -/
def refQ (t : ReferenceTable) (k : Nat) : Int := (t.toList.getD (64 + k) 0).toInt

/-- The phasor of a signal (R98). -/
def phasor (t : ReferenceTable) (xs : List Sample) (signal : Sample → Int) : Phasor :=
  { re := sat16 (roundDiv (xs.foldl (fun acc x => acc + signal x * refC t x.k) 0) 524288),
    im := sat16 (roundDiv (xs.foldl (fun acc x => acc + signal x * refQ t x.k) 0) 524288) }

/-- a·(x + jy), the rotation by +120° (R99). -/
def rotA (p : Phasor) : Phasor :=
  { re := roundDiv (-16384 * p.re - 28378 * p.im) 32768, im := roundDiv (28378 * p.re - 16384 * p.im) 32768 }

/-- a²·(x + jy), the rotation by −120° (R99). -/
def rotA2 (p : Phasor) : Phasor :=
  { re := roundDiv (-16384 * p.re + 28378 * p.im) 32768, im := roundDiv (-28378 * p.re - 16384 * p.im) 32768 }

/-- A sequence component: the exact sum of three terms over 3, rounded and saturated (R100). -/
def third (p q r : Phasor) : Phasor :=
  { re := sat16 (roundDiv (p.re + q.re + r.re) 3), im := sat16 (roundDiv (p.im + q.im + r.im) 3) }

/-- Positive-sequence component of three phasors (R100). -/
def positiveSeq (a b c : Phasor) : Phasor := third a (rotA b) (rotA2 c)

/-- Negative-sequence component of three phasors (R100). -/
def negativeSeq (a b c : Phasor) : Phasor := third a (rotA2 b) (rotA c)

/-- The magnitude of a phasor (R101). -/
def magnitude (p : Phasor) : Nat := isqrt (p.re * p.re + p.im * p.im).toNat

/-- The phase error of V1 with a magnitude of at least 1 (R105). -/
def errorOf (v1 : Phasor) (mag : Nat) : Int :=
  if 0 < v1.re then saturate (-8192) 8192 (roundDiv (v1.im * 10430) mag)
  else if 0 ≤ v1.im then 8192
  else -8192

/-- A current phasor in the frame of V (R106). -/
def rotated (i v : Phasor) (mag : Nat) : Phasor :=
  { re := sat16 (roundDiv (i.re * v.re + i.im * v.im) mag), im := sat16 (roundDiv (i.im * v.re - i.re * v.im) mag) }

/-- The results of the measurement stage. -/
structure Measurement where
  quality : Quality
  v1 : Phasor
  v2 : Phasor
  mag1 : Nat
  mag2 : Nat
  i1q : Int
  x : Int
  y : Int
  /-- The phase error delivered to the tracker; none where the pass delivers no e (R105). -/
  e : Option Int
  voltageInvalid : Bool
  undervoltage : Bool
  rotationFault : Bool
deriving DecidableEq, Repr

/-- The measurement stage from the resampled instants (R98 to R106). -/
def measureSamples (t : ReferenceTable) (xs : List Sample) (quality : Quality) (vMin : Nat) : Measurement :=
  let va := phasor t xs (fun x => x.v.a)
  let vb := phasor t xs (fun x => x.v.b)
  let vc := phasor t xs (fun x => x.v.c)
  let ia := phasor t xs (fun x => x.i.a)
  let ib := phasor t xs (fun x => x.i.b)
  let ic := phasor t xs (fun x => x.i.c)
  let v1 := positiveSeq va vb vc
  let v2 := negativeSeq va vb vc
  let mag1 := magnitude v1
  let mag2 := magnitude v2
  let r1 := rotated (positiveSeq ia ib ic) v1 mag1
  let r2 := rotated (negativeSeq ia ib ic) v1 mag1
  let present := decide (1 ≤ mag1)
  let under := !quality.invalidV && decide (mag1 < vMin)
  { quality := quality, v1 := v1, v2 := v2, mag1 := mag1, mag2 := mag2,
    i1q := if present then -r1.im else 0,
    x := if present then r2.re else 0,
    y := if present then r2.im else 0,
    e := if !quality.invalidV && present then some (errorOf v1 mag1) else none,
    voltageInvalid := quality.invalidV,
    undervoltage := under,
    rotationFault := !quality.invalidV && !under && decide (mag1 < 2 * mag2) }

/-- The measurement stage of a pass (R96 to R106). -/
def measure (t : ReferenceTable) (boundary : Pos) (window : List CompositeSet) (vMin : Nat) : Measurement :=
  let r := samples boundary window 64
  measureSamples t r.1 r.2 vMin

end Sys2Proof.Machine
end

