-- ==== Sys2Proof/Machine/Flags.lean ====
section
/-! DEFINITION. The flags of a pass, of its branches and of its notices (R97, R102, R103, R110, R118, R119, R126), and their words in
the pass record (R124). -/

namespace Sys2Proof.Machine

/-- CURRENT_INVALID of a window quality (R97). -/
def Quality.currentInvalid (q : Quality) : Bool := q.substitutedI || q.feederIncomplete

/-- A branch flag holds on some branch (R118, R119). -/
def anyBranch (bs : Vector BranchResult 3) (f : BranchResult → Bool) : Bool := f bs[0] || f bs[1] || f bs[2]

/-- The demand stage runs (R110). -/
def demandRuns (f : InFlight) (m : Measurement) : Bool :=
  f.angleValid && f.paramsValid && !m.voltageInvalid && !m.undervoltage

/-- The pass flags (R97, R102, R103, R110, R118, R119); the branch flags of a skipped pass are all clear. -/
def passFlags (m : Measurement) (runs : Bool) (bs : Vector BranchResult 3) : PassFlags :=
  { voltageInvalid := m.voltageInvalid, undervoltage := m.undervoltage, rotationFault := m.rotationFault,
    currentInvalid := m.quality.currentInvalid, capLimit := anyBranch bs (fun b => b.capLimit),
    indLimit := anyBranch bs (fun b => b.indLimit), slew := anyBranch bs (fun b => b.slew),
    mixedVoltage := m.quality.mixedVoltage, demandSkipped := !runs }

/-- A record carries CAP_LIMIT or IND_LIMIT (R126). -/
def PassFlags.limited (f : PassFlags) : Bool := f.capLimit || f.indLimit

/-- Three bits, branch AB lowest (R126). -/
def branchBits (bs : Vector BranchResult 3) (f : BranchResult → Bool) : Nat :=
  bit (f bs[0]) + 2 * bit (f bs[1]) + 4 * bit (f bs[2])

/-- The DEMAND_LIMIT detail (R126). -/
def demandLimitDetail (r : PassRecord) : Word :=
  halves r.number.toNat (256 * branchBits r.branches (fun b => b.capLimit) + branchBits r.branches (fun b => b.indLimit))

/-- The window quality word (R124, word 2). -/
def Quality.word (q : Quality) : Word :=
  BitVec.ofNat 32 (bit q.substitutedV + 2 * bit q.substitutedI + 4 * bit q.invalidV + 8 * bit q.feederIncomplete
    + 16 * bit q.overrange + 32 * bit q.mixedVoltage)

/-- The pass flag word (R124, word 3). -/
def PassFlags.word (f : PassFlags) : Word :=
  BitVec.ofNat 32 (bit f.voltageInvalid + 2 * bit f.undervoltage + 4 * bit f.rotationFault + 8 * bit f.currentInvalid
    + 16 * bit f.capLimit + 32 * bit f.indLimit + 64 * bit f.slew + 128 * bit f.mixedVoltage + 256 * bit f.demandSkipped)

/-- The branch flag word (R124). -/
def BranchResult.flagWord (b : BranchResult) : Word :=
  BitVec.ofNat 32 (bit b.capLimit + 2 * bit b.indLimit + 4 * bit b.slew)

end Sys2Proof.Machine
end

