-- ==== Sys2Proof/Machine/Demand.lean ====
section
/-! DEFINITION. The demand stage of the compensation pass, as pure functions (R112 to R121). -/

namespace Sys2Proof.Machine

/-- t of R112. -/
def demandT (x : Int) : Int := roundDiv (56756 * x) 32768

/-- The branch demand D (R112). -/
def branchDemand (b : BranchId) (i1q y t : Int) : Int :=
  match b with
  | 0 => roundDiv (i1q - y + t) 3
  | 1 => roundDiv (i1q + 2 * y) 3
  | 2 => roundDiv (i1q - y - t) 3

/-- Bq: the demand in susceptance counts at the nominal bus voltage (R113). -/
def normalised (d : Int) (vNom mag1 : Nat) : Int := saturate (-65535) 65535 (roundDiv (d * vNom) mag1)

/-- Bk: the branch gain applied (R114). -/
def gained (bq : Int) (kd : Nat) : Int := roundDiv (bq * kd) 256

/-- L_prev saturated to 0 … B_Lmax (R119). -/
def prevWithin (lPrev bLmax : Nat) : Nat := min lPrev bLmax

/-- The delivery case and target source of a pass (R117), the first row whose condition holds. -/
def targetSource (ramp : Bool) (op : OpState) (mode : EngineMode) : TargetSource :=
  if ramp then .ramp
  else if op == .holding then .holding
  else match mode with
    | .hold => .hold
    | .auto => .auto
    | .manual => .manual

/-- The pass is delivered (R117, R122). -/
def TargetSource.delivers : TargetSource → Bool
  | .ramp => true
  | .auto => true
  | .manual => true
  | _ => false

/-- The unclamped target T of a branch (R117). -/
def targetOf (src : TargetSource) (lSafe lPrev' manual : Nat) (bFc : Nat) (bk : Int) : Int :=
  match src with
  | .ramp => lSafe
  | .auto => bFc - bk
  | .manual => manual
  | _ => lPrev'

/-- The clamped target (R118). -/
def clampTarget (t : Int) (bLmax : Nat) : Nat := (saturate 0 bLmax t).toNat

/-- The slew limit (R119): L and the SLEW flag. -/
def slewed (target prev slewMax : Nat) : Nat × Bool :=
  if slewMax < target - prev then (prev + slewMax, true)
  else if slewMax < prev - target then (prev - slewMax, true)
  else (target, false)

/-- b: the conduction fraction (R120). -/
def conductionOf (l bLmax : Nat) : Nat := (roundDiv ((l : Int) * 65536) bLmax).toNat

/-- Entry i of an angle table. -/
def angleEntry (t : AngleTable) (i : Nat) : Nat := (t.toList.getD i 0).toNat

/-- α: the firing angle looked up (R121). -/
def lookupAngle (t : AngleTable) (b : Nat) : Nat :=
  let i := b / 256
  if i = 256 then angleEntry t 256
  else ((angleEntry t i : Int) + roundDiv (((angleEntry t (i + 1) : Int) - angleEntry t i) * (b - 256 * i : Nat)) 256).toNat

/-- What the demand stage reads for one branch at the completion (R111). -/
structure BranchInputs where
  lPrev : Nat
  manual : Nat
deriving DecidableEq, Repr

/-- The demand stage of one branch (R112 to R121). -/
def branchStage (params : ParamRecord) (angle : AngleTable) (i1q y t : Int) (mag1 : Nat) (src : TargetSource)
    (input : BranchInputs) (b : BranchId) : BranchResult :=
  let d := branchDemand b i1q y t
  let bk := gained (normalised d (pVnom params) mag1) (pKd params b)
  let bLmax := pBlmax params b
  let prev := prevWithin input.lPrev bLmax
  let raw := targetOf src (pLsafe params b) prev input.manual (pBfc params b) bk
  let target := clampTarget raw bLmax
  let l := slewed target prev (pSlewMax params b)
  let cond := conductionOf l.1 bLmax
  { demand := d, target := target, reactor := l.1, conduction := cond, alpha := lookupAngle angle cond,
    capLimit := decide (raw < 0), indLimit := decide ((bLmax : Int) < raw), slew := l.2 }

end Sys2Proof.Machine
end

