-- ==== Sys2Proof/Config.lean ====
section
/-! DEFINITION. What an implementation fixes and the values the manual leaves open. -/

namespace Sys2Proof

/-- FREE VALUE (assumption 7). R21 puts "the errored-frame count of the current window in its next byte". The rule does
not say what that byte holds when the count exceeds 255. This constant has no body: nothing can be proved of its values. -/
opaque Config.degradedCountByte : Nat → Byte

/-- The straps ID0 to ID7 behind `State.reset` (assumption 1, DESIGN CHOICE). The spec gives the straps no value: the
command POWER_ON_RESET carries them. -/
def Config.resetStraps : Byte := 0

end Sys2Proof
end

