-- ==== Sys2Proof/Machine/State.lean ====
section
/-! DEFINITION. The whole state of the part, the reasons a step can stop, and the state after power-on reset. -/

namespace Sys2Proof.Machine

/-- The state: the waiting commands, the node id, every counter, and the blocks of 00_scope.md section 3. -/
structure State where
  /-- The commands waiting, first in, first out (the model's own field). -/
  pending : List Instr
  /-- The node id latched at power-on reset (R24). -/
  nodeId : Byte
  /-- Every counter, at its word offset of the counters region (R201); unnamed words hold 0. -/
  counters : Vector Word 297
  pn : Port
  ps : Port
  fwd : Vector FwdEntry 16
  pace : Pace
  merge : Merge
  tracker : Tracker
  engine : Engine
  channels : Vector Channel 6
  tables : Tables
  sup : Supervisor
  agent : Agent
  notices : Vector NoticeEntry 22
deriving DecidableEq, Repr

/-- Reasons a step stops with a fault: there are none. Every command of the table has an effect on every state, and an
access to an address in no region is answered with BAD_ADDRESS (R195), so nothing raises a fault. -/
inductive Fault where
deriving DecidableEq, Repr

/-- Reasons a step is refused. -/
inductive Refusal where
  /-- Raised by an arm of `exec` whose command has no meaning yet; no arm raises it now. Safe: the step has no next
  state, so nothing can be proved of one. -/
  | notModelled (mnemonic : String)
deriving DecidableEq, Repr

/-- The state after power-on reset with the given straps and signal-detector reports, before R11 looks at the signals. -/
def State.powerOn (straps : Byte) (signalN signalS : Bool) : State :=
  { pending := [], nodeId := nodeOfStraps straps, counters := Vector.replicate 297 0, pn := portPowerOn signalN,
    ps := portPowerOn signalS, fwd := Vector.replicate 16 fwdPowerOn, pace := pacePowerOn, merge := mergePowerOn,
    tracker := trackerPowerOn, engine := enginePowerOn,
    channels := #v[channelPowerOn 0, channelPowerOn 1, channelPowerOn 2, channelPowerOn 3, channelPowerOn 4,
      channelPowerOn 5],
    tables := tablesPowerOn, sup := supervisorPowerOn, agent := agentPowerOn,
    notices := Vector.replicate 22 noticePowerOn }

/-- The part right after power-on reset, with no signal at either port (assumption 1). -/
def State.reset : State := State.powerOn Config.resetStraps false false

end Sys2Proof.Machine
end

