-- ==== Sys2Proof/Machine/Ops.lean ====
section
/-! DEFINITION. The named operations over the state that every block uses: ports, counters, the active parameters, the
grid position, the bytes of a built frame, offers to the transmit queues (R31), and events at the notice sources (R204). -/

namespace Sys2Proof.Machine

/-- The port of an id. -/
def State.port (s : State) : PortId → Port
  | .north => s.pn
  | .south => s.ps

/-- The state with one port replaced. -/
def State.setPort (s : State) (p : PortId) (x : Port) : State :=
  match p with
  | .north => { s with pn := x }
  | .south => { s with ps := x }

/-- The state with one port changed. -/
def State.modPort (s : State) (p : PortId) (f : Port → Port) : State := s.setPort p (f (s.port p))

/-- The value of a counter. -/
def State.counter (s : State) (c : Counter) : Word := s.counters[c.offset]

/-- A counter raised by 1; counters wrap (00_scope.md section 5.5). -/
def bump (c : Counter) (s : State) : State :=
  { s with counters := s.counters.set c.offset (s.counters[c.offset] + 1) }

/-- A counter raised by 1 where a condition holds. -/
def bumpIf (b : Bool) (c : Counter) (s : State) : State := if b then bump c s else s

/-- A stream counter by number, an operation of its own so that callers name R51's word. -/
def bumpStream (i : StreamId) (n : Fin 7) (s : State) : State := bump (.stream i n) s

/-- A channel counter by number (R154). -/
def bumpChannel (v : ValveId) (n : Fin 9) (s : State) : State := bump (.channel v n) s

/-- The channel of a valve. -/
def State.channel (s : State) (v : ValveId) : Channel := s.channels[v]

/-- The state with one channel replaced. -/
def State.setChannel (s : State) (v : ValveId) (c : Channel) : State := { s with channels := s.channels.set v c }

/-- The parameter record the blocks read: the active copy, or the defaults of R159 while no active parameter record is
valid (R44, R47, R73, R75, R76, R103, R131, R190). -/
def State.par (s : State) : ParamRecord := if s.tables.paramsValid then s.tables.active else defaultParams

/-- The external grid position G: the upper 32 bits of the internal G (R70). -/
def State.g (s : State) : Pos := s.tracker.g48.extractLsb' 16 32

/-- A port is transmit-ready in UP, or in FAR_FAULT with one-way mode on (R18). -/
def Port.transmitReady (p : Port) : Bool :=
  p.link == .up || (p.link == .farFault && p.oneWay)

/-- The receiver is aligned in ALIGNED, UP and FAR_FAULT (R1). -/
def LinkState.isAligned (l : LinkState) : Bool := l == .aligned || l == .up || l == .farFault

/-- The port receives frames in UP and FAR_FAULT (R5). -/
def LinkState.receives (l : LinkState) : Bool := l == .up || l == .farFault

/-- The mark a port sends next of its own while it sends no frame, by its state (R2, R11 to R16; 01_the_station_link.md, Port
state summary): TRAIN with ready 0 in DOWN and SEEKING, TRAIN with ready 1 in ALIGNED and once on entering UP from there,
IDLE from then on and in FAR_FAULT in either mode, NO_RECEIVE in HOLDOFF. -/
def Port.nextMark (p : Port) : Mark :=
  match p.link with
  | .down => .train false
  | .seeking => .train false
  | .aligned => .train true
  | .up => if p.trainOwed then .train true else .idle
  | .farFault => .idle
  | .holdoff => .noReceive

/-- The port has sent that mark (R2); the TRAIN mark due on entering UP is sent with it (R14). -/
def Port.sendMark (p : Port) : Port := { p with lineMark := some p.nextMark, trainOwed := false }

/-- What goes before any other symbol in UP: the TRAIN mark still to be sent (R14). -/
def Port.sendOwed (p : Port) : Port :=
  if p.trainOwed then { p with lineMark := some (.train true), trainOwed := false } else p

/-- The marks a port sends back to back while it sends no frame (R2); a frame in transmission leaves no place for one. -/
def Port.sendsMarks (p : Port) : Port := if p.tx.isNone then p.sendMark else p

/-- Capacity of a transmit queue, in frames (R30). -/
def capacity : TxClass → Nat
  | .timed => 4 | .access => 8 | .measure => 16 | .pass => 16

/-- The queue of a class. -/
def Port.queue (p : Port) : TxClass → List Frame
  | .timed => p.timed
  | .access => p.access
  | .measure => p.measure
  | .pass => p.pass

/-- The port with the queue of a class replaced. -/
def Port.setQueue (p : Port) (c : TxClass) (q : List Frame) : Port :=
  match c with
  | .timed => { p with timed := q }
  | .access => { p with access := q }
  | .measure => { p with measure := q }
  | .pass => { p with pass := q }

/-- The kind code of a frame (Table 3 of 01_the_station_link.md). -/
def Frame.kind : Frame → Byte
  | .forwarded bs => byteAt bs 1
  | .timemark => 0x21
  | .stampedTimemark _ _ _ _ => 0x21
  | .gate _ => 0x22
  | .reply _ _ _ _ => 0x32
  | .notice _ _ _ _ _ _ => 0x33

/-- The frame bytes of a built frame: header, payload and the check computed over both (R7, Table 2). -/
def buildFrame (kind dest source : Byte) (payload : List Byte) : List Byte :=
  let body := [0xA7, kind, dest, source] ++ bytesOfHalf (BitVec.ofNat 16 payload.length) ++ payload
  body ++ bytesOfWord (crc32 body)

/-- The eight payload bytes of a gate command (Table 3). -/
def GateCommand.bytes (c : GateCommand) : List Byte :=
  [BitVec.ofNat 8 c.valve, BitVec.ofNat 8 (gateCode c.code)] ++ bytesOfHalf (BitVec.ofNat 16 c.pulse)
    ++ bytesOfWord c.position

/-- The frame bytes as sent (R7, Table 3): a forwarded frame unaltered, a built frame with the node id as source. -/
def Frame.bytes (node : Byte) : Frame → List Byte
  | .forwarded bs => bs
  | .timemark => buildFrame 0x21 255 node (List.replicate 10 0)
  | .stampedTimemark g inc tracker rotation =>
    buildFrame 0x21 255 node
      (bytesOfWord g ++ bytesOfWord (BitVec.ofNat 32 inc) ++ [BitVec.ofNat 8 tracker, BitVec.ofNat 8 rotation])
  | .gate cs => buildFrame 0x22 255 node ([BitVec.ofNat 8 cs.length, 0] ++ cs.flatMap GateCommand.bytes)
  | .reply dest tag status data =>
    buildFrame 0x32 dest node
      (bytesOfHalf tag ++ [BitVec.ofNat 8 (statusCode status), BitVec.ofNat 8 data.length] ++ data.flatMap bytesOfWord)
  | .notice dest source vector repeats op detail =>
    buildFrame 0x33 dest node
      ([BitVec.ofNat 8 source, vector, BitVec.ofNat 8 repeats, BitVec.ofNat 8 (opCode op)] ++ bytesOfWord detail)

/-- What becomes of an offered frame (R31). -/
inductive OfferResult where
  | placed
  | notReady
  | full
deriving DecidableEq, Repr

/-- What an offer to the queue of class c at port p meets (R31). -/
def offerOutcome (p : PortId) (c : TxClass) (s : State) : OfferResult :=
  if (s.port p).transmitReady then
    (if ((s.port p).queue c).length < capacity c then .placed else .full)
  else .notReady

/-- An offer as the port takes it, before any event: placed at the tail, counted as a not-ready drop (R19), or counted
as an overflow drop (R31). -/
def offerQuiet (p : PortId) (c : TxClass) (f : Frame) (s : State) : State :=
  match offerOutcome p c s with
  | .placed => s.modPort p (fun x => x.setQueue c (x.queue c ++ [f]))
  | .notReady => bump (.notReady p c) s
  | .full => bump (.overflow p c) s

/-- The NOTICE frame of a source, from its entry (R204). -/
def noticeFrame (n : SourceId) (repeats : Nat) (detail : Word) (s : State) : Frame :=
  .notice s.notices[n].dest n s.notices[n].vector repeats s.sup.state detail

/-- The state with one notice entry replaced. -/
def State.setNotice (s : State) (n : SourceId) (e : NoticeEntry) : State := { s with notices := s.notices.set n e }

/-- A NOTICE frame built and offered (R204): placed, the source is pending with repeat count 0 and this detail; lost, it
is not pending and keeps no detail. -/
def sendNotice (n : SourceId) (repeats : Nat) (detail : Word) (s : State) : State :=
  let e := s.notices[n]
  let f := noticeFrame n repeats detail s
  match offerOutcome e.route .access s with
  | .placed =>
    bump .noticesQueued
      ((offerQuiet e.route .access f s).setNotice n { e with pending := true, repeats := 0, latest := some detail })
  | _ =>
    bump .noticesNotQueued
      ((offerQuiet e.route .access f s).setNotice n { e with pending := false, repeats := 0, latest := none })

/-- An event raised at a notice source (R204). -/
def raise (n : SourceId) (detail : Word) (s : State) : State :=
  let e := s.notices[n]
  if e.enable then
    (if e.pending then s.setNotice n { e with repeats := min 255 (e.repeats + 1), latest := some detail }
     else sendNotice n 0 detail s)
  else s

/-- An event raised where a condition holds. -/
def raiseIf (b : Bool) (n : SourceId) (detail : Word) (s : State) : State := if b then raise n detail s else s

/-- A frame is of kind NOTICE, built by the part or forwarded (Table 3 of 01_the_station_link.md). -/
def Frame.isNotice (f : Frame) : Bool := f.kind == 0x33

/-- A frame offered to a queue (R31): an overflow raises QUEUE_DROP, except where the dropped frame is a NOTICE frame, one that the
switch forwards included. -/
def offer (p : PortId) (c : TxClass) (f : Frame) (s : State) : State :=
  match offerOutcome p c s with
  | .full => raiseIf (!f.isNotice) srcQueueDrop (bytes4 (portCode p) (classCode c) f.kind.toNat 0) (offerQuiet p c f s)
  | _ => offerQuiet p c f s

end Sys2Proof.Machine
end

