-- ==== Sys2Proof/Machine/Channel.lean ====
section
/-! DEFINITION. Gate commands between the firing channels and PS: outcome reports (R138, R151), issue (R35, R36, R136),
block and deblock (R149, R150), and the purge of fire commands (R41). -/

namespace Sys2Proof.Machine

/-- The outcome of a FIRE command as PS reports it (R40, R138). -/
inductive FireReport where
  | sent
  | sentLate
  | skipped
  | notSent
deriving DecidableEq, Repr

/-- The counters an outcome report raises (R138): 0 fired, 1 late, 2 skipped, 3 not-sent. -/
def countReport (v : ValveId) (r : FireReport) (s : State) : State :=
  match r with
  | .sent => bumpChannel v 0 s
  | .sentLate => bumpChannel v 1 (bumpChannel v 0 s)
  | .skipped => bumpChannel v 2 s
  | .notSent => bumpChannel v 3 s

/-- What an outcome report does to a channel whose current command it is about (R138). -/
def Channel.takeReport (ch : Channel) (r : FireReport) (position : Pos) : Channel :=
  match r with
  | .sent => { ch with outcome := .sent, state := .await }
  | .sentLate => { ch with fire := position, outcome := .late, state := .await }
  | .skipped => { ch with outcome := .skipped, state := .idle }
  | .notSent => { ch with outcome := .notSent, state := .idle }

/-- The report is about the channel's current command (R138): the channel is in ISSUED and the named latest fire
position is its own. -/
def Channel.isCurrent (ch : Channel) (latest : Pos) : Bool := ch.state == .issued && ch.latest == latest

/-- PS reports the outcome of a FIRE command to its channel (R138). -/
def reportFire (c : GateCommand) (r : FireReport) (s : State) : State :=
  let ch := s.channel c.valve
  let s1 := if ch.isCurrent c.latest then s.setChannel c.valve (ch.takeReport r c.position) else s
  countReport c.valve r s1

/-- PS reports a gate command as not sent (R36, R19): a FIRE under R138, a BLOCK or DEBLOCK under R151. -/
def reportNotSent (c : GateCommand) (s : State) : State :=
  match c.code with
  | .fire => reportFire c .notSent s
  | _ => bumpChannel c.valve 3 s

/-- Every command of a frame reported as not sent (R19). -/
def reportFrameNotSent (f : Frame) (s : State) : State :=
  match f with
  | .gate cs => cs.foldl (fun s c => reportNotSent c s) s
  | _ => s

/-- The TIMED queue with a command appended to its tail GATE frame, where that frame holds fewer than 6 (R35). -/
def appendToTail (q : List Frame) (c : GateCommand) : Option (List Frame) :=
  match q with
  | [] => none
  | [.gate cs] => if cs.length < 6 then some [.gate (cs ++ [c])] else none
  | [_] => none
  | f :: rest => (appendToTail rest c).map (f :: ·)

/-- PS cannot place the new GATE frame because TIMED is full (R36): R31's drop and event, the report, and SKIPPED_FIRE
with cause 2 for a FIRE command. -/
def gateQueueFull (c : GateCommand) (s : State) : State :=
  raiseIf (c.code == .fire) srcSkippedFire (halves (c.valve.val * 256 + 2) (phaseOf c.position))
    (reportNotSent c (offer .south .timed (.gate [c]) s))

/-- A channel issues a gate command (R35, R36). -/
def issueGate (c : GateCommand) (s : State) : State :=
  match offerOutcome .south .timed s with
  | .notReady => reportNotSent c (offer .south .timed (.gate [c]) s)
  | _ =>
    match appendToTail s.ps.timed c with
    | some q => s.modPort .south (fun x => { x with timed := q })
    | none =>
      match offerOutcome .south .timed s with
      | .placed => offer .south .timed (.gate [c]) s
      | _ => gateQueueFull c s

/-- The FIRE command a channel issues from its half-cycle values (R136). -/
def Channel.fireCommand (ch : Channel) (v : ValveId) : GateCommand :=
  { valve := v, code := .fire,
    pulse := match ch.halfStyle with
      | .pulse => ch.pulse
      | .sustain => (ch.loadPoint + 32768#32 - ch.fire).toNat
    position := ch.fire, latest := ch.latest, style := ch.halfStyle, sustainEnd := ch.loadPoint + 32768#32,
    late := false }

/-- A BLOCK or DEBLOCK command, with pulse length 0 and fire position 0 (R149, R150). -/
def plainCommand (v : ValveId) (code : GateCode) : GateCommand :=
  { valve := v, code := code, pulse := 0, position := 0, latest := 0, style := .pulse, sustainEnd := 0, late := false }

/-- The channel issues its FIRE command and moves to ISSUED (R136). -/
def issueFire (v : ValveId) (s : State) : State :=
  let ch := s.channel v
  let c := ch.fireCommand v
  issueGate c (s.setChannel v { ch with state := .issued, outcome := .none, lastPulse := c.pulse })

/-- A supervisor block reaches a channel (R149). -/
def blockChannel (v : ValveId) (s : State) : State :=
  let ch := s.channel v
  if ch.state == .blocked then s
  else (issueGate (plainCommand v .block) s).setChannel v { ch with state := .blocked }

/-- A supervisor deblock reaches a channel (R150): the DEBLOCK command goes first, then the channel's own state. -/
def deblockChannel (v : ValveId) (s : State) : State :=
  let ch := s.channel v
  if ch.state == .blocked then
    (issueGate (plainCommand v .deblock) s).setChannel v { ch with state := .idle, misses := 0, blockAck := false }
  else s

/-- The block handed to all six channels, in valve order (R186, assumption 6). -/
def blockAll (s : State) : State := valveIds.foldl (fun s v => blockChannel v s) s

/-- The deblock handed to all six channels, in valve order (R186, assumption 6). -/
def deblockAll (s : State) : State := valveIds.foldl (fun s v => deblockChannel v s) s

/-- A command is a FIRE. -/
def GateCommand.isFire (c : GateCommand) : Bool := c.code == .fire

/-- A queued frame with its FIRE commands removed; none for a GATE frame left with no command (R41). -/
def purgeFrame (f : Frame) : Option Frame :=
  match f with
  | .gate cs =>
    let kept := cs.filter (fun c => !c.isFire)
    if kept.isEmpty then none else some (.gate kept)
  | other => some other

/-- The FIRE commands of a frame. -/
def Frame.fires : Frame → List GateCommand
  | .gate cs => cs.filter GateCommand.isFire
  | _ => []

/-- The FIRE commands that a purge of PS's TIMED queue removes (R41). -/
def purgedFires (s : State) : List GateCommand := s.ps.timed.flatMap Frame.fires

/-- PS's TIMED queue with every FIRE command removed (R41). -/
def purgeQueue (s : State) : State :=
  s.modPort .south (fun x => { x with timed := x.timed.filterMap purgeFrame })

/-- The NOT_SENT reports of a purge (R41). -/
def reportPurged (cs : List GateCommand) (s : State) : State := cs.foldl (fun s c => reportFire c .notSent s) s

/-- Leaving RUNNING or HOLDING (R186, R41, R149): the queue is purged, the channels are blocked, and the purged commands
are reported to channels that are BLOCKED by then, so that R149 has the reports taken as about another command. -/
def purgeAndBlock (s : State) : State := reportPurged (purgedFires s) (blockAll (purgeQueue s))

end Sys2Proof.Machine
end

