-- ==== Sys2Proof/Machine/SupervisorCore.lean ====
section
/-! DEFINITION. The supervisor's moves and permissives (R171 to R173, R186, R188): what every other block's event at the
supervisor is built from. -/

namespace Sys2Proof.Machine

/-- The supervisor replaced. -/
def State.setSup (s : State) (u : Supervisor) : State := { s with sup := u }

/-- The permissives hold: all seven items are met (R172). -/
def Permissives.hold (i : Permissives) : Bool :=
  i.angle && i.parameters && i.tracker && i.voltage && i.feeders && i.link && i.notTripped

/-- Firing is permitted in RUNNING and HOLDING (R38). -/
def OpState.fires (o : OpState) : Bool := o == .running || o == .holding

/-- The state alone changes, with the NOT_TRIPPED item (R171, R172). -/
def enterState (new : OpState) (s : State) : State :=
  s.setSup { s.sup with state := new, items := { s.sup.items with notTripped := new != .tripped } }

/-- What a move hands to the channels and to PS (R186). -/
def moveConsequences (old new : OpState) (s : State) : State :=
  match new with
  | .running => if old == .ready || old == .blocked then deblockAll s else s
  | .holding => s
  | _ => if old.fires then purgeAndBlock s else blockAll s

/-- The OPERATING_STATE detail of a move (R188). -/
def moveDetail (old new : OpState) (cause : Cause) (valve : ValveId) : Word :=
  bytes4 (opCode old) (opCode new) (causeCode cause) valve

/-- A change of operating state: the state, its OPERATING_STATE event, and its consequences (R171, R186, R188). The event is
raised before the purge and the channel commands of the move, and so before their QUEUE_DROP events (the model's choice,
assumption 6). -/
def moveTo (new : OpState) (cause : Cause) (valve : ValveId) (s : State) : State :=
  let old := s.sup.state
  moveConsequences old new (raise srcOperatingState (moveDetail old new cause valve) (enterState new s))

/-- From OFF, the move to READY when the permissives hold (R173). -/
def evalOff (s : State) : State :=
  if s.sup.state == .off && s.sup.items.hold then moveTo .ready .permissivesMet 0 s else s

/-- The permissive record changed by an owning block (R172). -/
def setItems (f : Permissives → Permissives) (s : State) : State :=
  s.setSup { s.sup with items := f s.sup.items }

end Sys2Proof.Machine
end

