-- ==== Sys2Proof/Machine/Tables.lean ====
section
/-! DEFINITION. The table store: bank access, the commit check, exchange and activation, and the idle condition (R157 to
R168). -/

namespace Sys2Proof.Machine

/-- The table store replaced. -/
def State.setTables (s : State) (t : Tables) : State := { s with tables := t }

/-- The active angle table (R157). -/
def Tables.angleActive (t : Tables) : AngleTable := if t.angleActiveB then t.angleB else t.angleA

/-- The standby angle table (R157). -/
def Tables.angleStandby (t : Tables) : AngleTable := if t.angleActiveB then t.angleA else t.angleB

/-- The active reference table (R157). -/
def Tables.refActive (t : Tables) : ReferenceTable := if t.refActiveB then t.refB else t.refA

/-- The standby reference table (R157). -/
def Tables.refStandby (t : Tables) : ReferenceTable := if t.refActiveB then t.refA else t.refB

/-- The commit status record of a table (R168). -/
def Tables.commit (t : Tables) : TableId → Commit
  | .angle => t.angleCommit
  | .reference => t.refCommit
  | .parameters => t.paramsCommit

/-- The commit status record of a table replaced. -/
def Tables.setCommit (t : Tables) (id : TableId) (c : Commit) : Tables :=
  match id with
  | .angle => { t with angleCommit := c }
  | .reference => { t with refCommit := c }
  | .parameters => { t with paramsCommit := c }

/-- The words a check covers: the standby bank or the staged record (R161). -/
def Tables.checkedWords (t : Tables) : TableId → List Word
  | .angle => t.angleStandby.toList
  | .reference => t.refStandby.toList
  | .parameters => t.staged.toList

/-- fn and rotation of the staged record equal those in use (R162, condition 4). -/
def sameFnAndRotation (s : State) : Bool :=
  s.tables.staged[0] == s.par[0] && s.tables.staged[1] == s.par[1]

/-- Condition 4 of R162: the supervisor is OFF, or fn and rotation stay as in use. -/
def condition4 (s : State) : Bool := s.sup.state == .off || sameFnAndRotation s

/-- Word i of a checked table lies in its range (R162, condition 2). -/
def wordOk (t : Tables) (id : TableId) (i : Nat) (w : Word) : Bool :=
  match id with
  | .angle => inRange 16384 32768 w
  | .reference => decide (-16384 ≤ w.toInt ∧ w.toInt ≤ 16384)
  | .parameters => paramWordOk t.staged i w

/-- The lowest index, from `i` on, of a word that fails a test. -/
def firstFailing (ok : Nat → Word → Bool) : Nat → List Word → Option Nat
  | _, [] => none
  | i, w :: ws => if ok i w then firstFailing ok (i + 1) ws else some i

/-- The index i + 1 of the first entry that rises, with `i` the index of the list's head (R162, condition 3). -/
def firstRising : Nat → List Word → Option Nat
  | i, a :: b :: ws => if a.toNat < b.toNat then some (i + 1) else firstRising (i + 1) (b :: ws)
  | _, _ => none

/-- The verdict of a check: the failure result with its failing word, or none when every condition holds (R162). -/
def checkVerdict (id : TableId) (s : State) : Option (CommitResult × Nat) :=
  let t := s.tables
  let ws := t.checkedWords id
  if checkOfWords ws ≠ (t.commit id).expected then some (.checkMismatch, 0)
  else
    match firstFailing (wordOk t id) 0 ws with
    | some i => some (.outOfRange, i)
    | none =>
      match id with
      | .angle =>
        match firstRising 0 ws with
        | some i => some (.notMonotonic, i)
        | none => none
      | .reference => none
      | .parameters => if condition4 s then none else some (.state, 0)

/-- A result recorded in the commit status, and its COMMIT_RESULT event (R168). -/
def recordResult (id : TableId) (next : CommitState) (r : CommitResult) (failing : Nat) (s : State) : State :=
  let c := s.tables.commit id
  raise srcCommitResult (BitVec.ofNat 32 (field (tableCode id) 8 24 + field (resultCode r) 8 16 + field c.computed.toNat 16 0))
    (s.setTables (s.tables.setCommit id { c with state := next, timer := 0, result := r, failing := failing }))

/-- The table's active check becomes the computed check, and its activation is counted (R164, R165, R168). -/
def countActivation (id : TableId) (t : Tables) : Tables :=
  let c := t.commit id
  t.setCommit id { c with activeCheck := c.computed, activations := c.activations + 1 }

/-- The pace generator at a change of fn: the previous pace event is the origin, and the next event is event 1 (R44). -/
def Pace.retime (p : Pace) (fn : Nat) : Pace := { p with sinceOrigin := 0, length := paceAt fn 1 }

/-- The first boundary of a passPhase after G (R75): the boundary phases are passPhase and passPhase + 32768. Where a backward
step has put G behind a boundary that it reached already, a new passPhase with the same two boundary phases announces that
boundary a second time (the model's choice, assumption 29). -/
def nextBoundaryAfter (passPhase : Nat) (g : Pos) : Pos :=
  g + BitVec.ofNat 32 (32768 - (phaseOf g + 65536 - passPhase % 65536) % 32768)

/-- The tracker set FREE by an activation that changes fn (R84). -/
def Tracker.setFree (t : Tracker) : Tracker :=
  { t with state := .free, inc := incNominal, gain := 3, lockRun := 0, unlockRun := 0, holdoverRun := 0 }

/-- The tracker replaced. -/
def State.setTracker (s : State) (t : Tracker) : State := { s with tracker := t }

/-- The effect of a change of fn at an activation on the pace generator and the tracker (R44, R84, R85, R172). -/
def applyFnChange (s : State) : State :=
  let old := s.tracker.state
  let s1 := { s with pace := s.pace.retime (pFn s.par), tracker := s.tracker.setFree }
  if old == .free then s1
  else
    evalOff (setItems (fun i => { i with tracker := false })
      (raise srcTrackerState (bytes4 (trackerCode old) (trackerCode .free) 0 0) s1))

/-- The effect of a change of passPhase at an activation (R75). -/
def applyPassPhase (s : State) : State :=
  s.setTracker { s.tracker with nextBoundary := nextBoundaryAfter (pPassPhase s.par) s.g }

/-- What the blocks do when told of an activation, with the record in use before it (R44, R75, R84). -/
def activationEffects (before : ParamRecord) (s : State) : State :=
  let s1 := if pFn before == pFn s.par then s else applyFnChange s
  if pPassPhase before == pPassPhase s1.par then s1 else applyPassPhase s1

/-- The staged record becomes the active copy (R165): COMMIT_RESULT first (R168), then the change of fn with its TRACKER item and
evaluation (R84, R172), then the PARAMETERS item and its evaluation (R173). This order is the model's choice (assumption 6): it
shows in the operating state that COMMIT_RESULT and TRACKER_STATE carry, and in the OPERATING_STATE events. -/
def activateParams (s : State) : State :=
  let before := s.par
  let t := countActivation .parameters s.tables
  let s1 := s.setTables { t with active := t.staged, paramsValid := true }
  let s2 := recordResult .parameters .idle .activated 0 s1
  let s3 := activationEffects before s2
  evalOff (setItems (fun i => { i with parameters := true }) s3)

/-- The exchange of the angle banks (R164). COMMIT_RESULT is raised before the supervisor takes the ANGLE item (R168, R172; the
model's choice, assumption 6: its notice carries OFF where the item makes the part READY). -/
def exchangeAngle (s : State) : State :=
  let t := countActivation .angle s.tables
  let s1 := s.setTables { t with angleActiveB := !t.angleActiveB, angleValid := true }
  evalOff (setItems (fun i => { i with angle := true }) (recordResult .angle .idle .activated 0 s1))

/-- The exchange of the reference banks (R164). -/
def exchangeReference (s : State) : State :=
  let t := countActivation .reference s.tables
  recordResult .reference .idle .activated 0 (s.setTables { t with refActiveB := !t.refActiveB, refValid := true })

/-- The exchange or activation of one table, with the second test of condition 4 for the parameter record (R164,
R165). -/
def activate (id : TableId) (s : State) : State :=
  match id with
  | .angle => exchangeAngle s
  | .reference => exchangeReference s
  | .parameters =>
    if condition4 s then activateParams s else recordResult .parameters .idle .state 0 s

/-- The exchange or activation of a table where it is PENDING. -/
def activateIfPending (id : TableId) (s : State) : State :=
  if (s.tables.commit id).state == .pending then activate id s else s

/-- Every PENDING table exchanged or activated, the parameter record first (R164, R165, R166, assumption 6). -/
def activatePending (s : State) : State :=
  activateIfPending .reference (activateIfPending .angle (activateIfPending .parameters s))

/-- The idle condition (R163): the supervisor is OFF, no pass is in flight, and the quiet timer has expired. -/
def idleCondition (s : State) : Bool :=
  s.sup.state == .off && s.engine.inFlight.isNone && s.tables.quiet.isNone

/-- The test of the idle condition for the PENDING tables (R166). -/
def idleTest (s : State) : State := if idleCondition s then activatePending s else s

/-- A check completion of one table (R162, R163); where none is in flight the event leaves the commit state as it is
(R167). -/
def checkCompletion (id : TableId) (s : State) : State :=
  let c := s.tables.commit id
  if c.state == .checking then
    let s1 := s.setTables (s.tables.setCommit id
      { c with computed := checkOfWords (s.tables.checkedWords id), failing := 0, timer := 0 })
    match checkVerdict id s1 with
    | some (r, failing) => recordResult id .idle r failing s1
    | none => if idleCondition s1 then activate id s1 else recordResult id .pending .passed 0 s1
  else s

end Sys2Proof.Machine
end

