-- ==== Sys2Proof/Machine/Supervisor.lean ====
section
/-! DEFINITION. The supervisor: permissive updates, protective conditions, block entry, pass records, and its three
commands (R172 to R185). -/

namespace Sys2Proof.Machine

/-- An entry into OFF (R173, R187): the move with its purge and channel blocks (R186), the table store's test of its idle condition
(R166), then the evaluation of the permissives (this order is the model's choice, assumption 6: it shows in the order of the
blocks' QUEUE_DROP events and the COMMIT_RESULT of a table taken at the entry). -/
def enterOff (cause : Cause) (s : State) : State := evalOff (idleTest (moveTo .off cause 0 s))

/-- The evaluation of the permissives after an update of the record (R173). -/
def evaluate (s : State) : State :=
  match s.sup.state with
  | .off => evalOff s
  | .ready => if s.sup.items.hold then s else enterOff .permissiveLost s
  | _ => s

/-- An update of the permissive record by an owning block, evaluated (R172, R173). -/
def updateItems (f : Permissives → Permissives) (s : State) : State := evaluate (setItems f s)

/-- The history with an entry appended at the tail; the oldest of 15 goes first (R178). -/
def appendHistory (h : List HistoryEntry) (e : HistoryEntry) : List HistoryEntry :=
  (if h.length ≥ 15 then h.drop (h.length - 14) else h) ++ [e]

/-- The number of unexpired entries (R177). -/
def unexpired (h : List HistoryEntry) : Nat := (h.filter (fun e => !e.expired)).length

/-- The state after a block entry (R177): TRIPPED where the unexpired entries reach tripCount, else BLOCKED. -/
def blockTarget (h : List HistoryEntry) (tripCount : Nat) : OpState :=
  if tripCount ≤ unexpired h then .tripped else .blocked

/-- The entry a block entry appends (R177). -/
def blockHistoryEntry (cause : Cause) (valve : ValveId) (s : State) : HistoryEntry :=
  { pass := s.sup.lastPass, cause := cause, valve := valve, expired := false }

/-- The trip record latched by the entry that tripped (R179). -/
def latchTrip (cause : Cause) (valve : ValveId) (s : State) : State :=
  s.setSup { s.sup with trip := { latched := true, causeCode := causeCode cause, valve := valve, pass := s.sup.lastPass } }

/-- The TRIP detail (R188). -/
def tripDetail (cause : Cause) (valve : ValveId) (pass : Half) : Word :=
  halves (causeCode cause * 256 + valve.val) pass.toNat

/-- The trip: the latched record, its counter, the move with its consequences, and then the TRIP event (R179, R188; that the
event comes last is the model's choice, assumption 6). -/
def trip (cause : Cause) (valve : ValveId) (s : State) : State :=
  raise srcTrip (tripDetail cause valve s.sup.lastPass) (moveTo .tripped cause valve (bump .trips (latchTrip cause valve s)))

/-- A block entry (R177). -/
def blockEntry (cause : Cause) (valve : ValveId) (s : State) : State :=
  let h := appendHistory s.sup.history (blockHistoryEntry cause valve s)
  let s1 := bump .blockEntries
    (s.setSup { s.sup with history := h, holding := 0, ramp := false })
  match blockTarget h (pTripCount s.par) with
  | .tripped => trip cause valve s1
  | _ => moveTo .blocked cause valve (s1.setSup { s1.sup with recovery := 0 })

/-- A protective condition that arrives between pass records (R176): block entry in RUNNING and HOLDING, the recovery
count set to 0 in BLOCKED, no effect on the state elsewhere. -/
def protectiveEvent (cause : Cause) (valve : ValveId) (s : State) : State :=
  match s.sup.state with
  | .running => blockEntry cause valve s
  | .holding => blockEntry cause valve s
  | .blocked => s.setSup { s.sup with recovery := 0 }
  | _ => s

/-- The tracker tells the supervisor of a state change (R172, R176). -/
def trackerChanged (old new : TrackerState) (s : State) : State :=
  let s1 := updateItems (fun i => { i with tracker := new == .locked }) s
  if old == .locked && new != .locked then protectiveEvent .trackerNotLocked 0 s1 else s1

/-- PS tells the supervisor of a state change (R172, R176). -/
def psChanged (old new : LinkState) (s : State) : State :=
  let s1 := updateItems (fun i => { i with link := new == .up }) s
  if old == .up && new != .up then protectiveEvent .psNotUp 0 s1 else s1

/-- A record carries a pass-flag condition: its cause (R174). -/
def flagCause (f : PassFlags) : Option Cause :=
  if f.undervoltage then some .undervoltage
  else if f.voltageInvalid then some .voltageInvalid
  else if f.rotationFault then some .rotationFault
  else none

/-- The protective condition that a record meets in RUNNING or HOLDING, in the order of R175. -/
def recordCause (f : PassFlags) (i : Permissives) : Option Cause :=
  match flagCause f with
  | some c => some c
  | none => if !i.tracker then some .trackerNotLocked else if !i.link then some .psNotUp else none

/-- The age of a history entry at a record, modulo the pass number's wrap (R178). -/
def entryAge (record : Half) (e : HistoryEntry) : Nat := (record - e.pass).toNat

/-- The expiry of history entries at a record (R178). -/
def expireHistory (record : Half) (tripWindow : Nat) (h : List HistoryEntry) : List HistoryEntry :=
  h.map (fun e => if tripWindow ≤ entryAge record e then { e with expired := true } else e)

/-- HOLDING entered from RUNNING (R182). -/
def enterHolding (s : State) : State :=
  let s1 := moveTo .holding .currentInvalid 0 (bump .holdingEntries s)
  s1.setSup { s1.sup with holding := 0, ramp := pHoldingLimit s.par == 0 }

/-- A record with CURRENT_INVALID taken in HOLDING (R182). -/
def countHolding (s : State) : State :=
  let n := min 255 (s.sup.holding + 1)
  s.setSup { s.sup with holding := n, ramp := s.sup.ramp || decide (pHoldingLimit s.par ≤ n) }

/-- HOLDING left for RUNNING (R182). -/
def leaveHolding (s : State) : State :=
  moveTo .running .currentValid 0 (s.setSup { s.sup with holding := 0, ramp := false })

/-- The recovery from BLOCKED (R181). -/
def recover (s : State) : State :=
  let s1 := bump .recoveries s
  if pAutoRecover s.par then moveTo .running .recovered 0 s1
  else if s1.sup.items.hold then moveTo .ready .recovered 0 s1
  else enterOff .permissiveLost s1

/-- A clear record taken in BLOCKED (R180, R181). -/
def countRecovery (s : State) : State :=
  let n := min 255 (s.sup.recovery + 1)
  let s1 := s.setSup { s.sup with recovery := n }
  if pRecoveryDelay s.par ≤ n then recover s1 else s1

/-- The response of the operating state to a record (R175). -/
def respondToRecord (f : PassFlags) (s : State) : State :=
  match s.sup.state with
  | .running =>
    match recordCause f s.sup.items with
    | some c => blockEntry c 0 s
    | none => if f.currentInvalid then enterHolding s else s
  | .holding =>
    match recordCause f s.sup.items with
    | some c => blockEntry c 0 s
    | none => if f.currentInvalid then countHolding s else leaveHolding s
  | .blocked =>
    match recordCause f s.sup.items with
    | some _ => s.setSup { s.sup with recovery := 0 }
    | none => countRecovery s
  | _ => s

/-- The supervisor takes a pass record (R175): the last-pass number, the expiry, the response. -/
def takeRecord (r : PassRecord) (s : State) : State :=
  respondToRecord r.flags
    (s.setSup { s.sup with lastPass := r.number,
                           history := expireHistory r.number (pTripWindow s.par) s.sup.history })

/-- START (R183). -/
def startEffect (s : State) : Status × State :=
  if s.sup.state == .ready then (.ok, moveTo .running .start 0 s) else (.state, s)

/-- STOP (R184). In OFF and READY it changes nothing, as R184 has it; the recovery count that an earlier recovery left is kept
there, though R180 sets it to 0 at STOP (the model's choice, assumption 31). -/
def stopEffect (s : State) : Status × State :=
  match s.sup.state with
  | .off => (.ok, s)
  | .ready => (.ok, s)
  | .tripped => (.state, s)
  | _ =>
    let s1 := s.setSup { s.sup with recovery := 0, holding := 0, ramp := false }
    (.ok, if s1.sup.items.hold then moveTo .ready .stop 0 s1 else enterOff .stop s1)

/-- RESET_TRIP (R185). -/
def resetTripEffect (s : State) : Status × State :=
  if s.sup.state == .tripped then
    (.ok, enterOff .resetTrip
      (s.setSup { s.sup with trip := { s.sup.trip with latched := false },
                             history := s.sup.history.map (fun e => { e with expired := true }) }))
  else (.state, s)

end Sys2Proof.Machine
end

