-- ==== Sys2Proof/Machine/Engine.lean ====
section
/-! DEFINITION. The compensation engine between passes: pending boundaries, the window test, and the pass start (R89 to
R93); and the engine's commands (R115, R116). -/

namespace Sys2Proof.Machine

/-- The engine replaced. -/
def State.setEngine (s : State) (e : Engine) : State := { s with engine := e }

/-- The window of a boundary is complete: the newest set lies after g_63 (R91). -/
def windowComplete (history : List CompositeSet) (boundary : Pos) : Bool :=
  match history.head? with
  | none => false
  | some newest => isAfter newest.position (instant boundary 63)

/-- The window of a complete boundary is formed: the oldest set lies at or before g_0 (R91). -/
def windowFormed (history : List CompositeSet) (boundary : Pos) : Bool :=
  match history.getLast? with
  | none => false
  | some oldest => atOrBefore oldest.position (instant boundary 0)

/-- What a pass started now fixes (R93, R111). -/
def takeFlight (boundary : Pos) (s : State) : InFlight :=
  { boundary := boundary, window := s.merge.history.reverse, reference := s.tables.refActive,
    angle := s.tables.angleActive, angleValid := s.tables.angleValid, params := s.par,
    paramsValid := s.tables.paramsValid, timer := passClocks }

/-- A pass starts (R93): pending exchanges and activations first (R164, R165), the quiet timer restarts (R163), and the
pass takes its tables, parameters and sets. -/
def startPass (boundary : Pos) (s : State) : State :=
  let s1 := activatePending s
  let s2 := s1.setTables { s1.tables with quiet := some quietClocks }
  s2.setEngine { s2.engine with inFlight := some (takeFlight boundary s2), lastBoundary := boundary }

/-- A window-complete event (R92): a pass starts, or is skipped as an overrun. -/
def windowCompleteEvent (boundary : Pos) (s : State) : State :=
  if s.engine.inFlight.isNone then startPass boundary s
  else raise srcPassOverrun boundary (bump .passesOverrun s)

/-- The window test of the oldest pending boundary, and of the next after it (R91), at most `fuel` times. -/
def windowTest : Nat → State → State
  | 0, s => s
  | fuel + 1, s =>
    match s.engine.pendingBoundaries with
    | [] => s
    | b :: rest =>
      if windowComplete s.merge.history b then
        let s1 := s.setEngine { s.engine with pendingBoundaries := rest }
        windowTest fuel
          (if windowFormed s.merge.history b then windowCompleteEvent b s1 else bump .windowsNotFormed s1)
      else s

/-- The window test over every pending boundary. -/
def testWindows (s : State) : State := windowTest s.engine.pendingBoundaries.length s

/-- A boundary is announced (R90): it joins the list, the oldest of 2 leaving first, and the window test follows. -/
def announceBoundary (b : Pos) (s : State) : State :=
  let q := s.engine.pendingBoundaries
  let s1 := bumpIf (decide (2 ≤ q.length)) .windowsNotFormed s
  testWindows (s1.setEngine
    { s1.engine with pendingBoundaries := (if 2 ≤ q.length then q.drop (q.length - 1) else q) ++ [b] })

/-- HOLD (R115). -/
def holdEffect (s : State) : Status × State :=
  match s.engine.mode with
  | .hold => (.ok, s)
  | m => (.ok, s.setEngine { s.engine with mode := .hold, rememberedManual := m == .manual })

/-- The mode that MANUAL or AUTO names. -/
def modeOf (manual : Bool) : EngineMode := if manual then .manual else .auto

/-- RELEASE (R115). -/
def releaseEffect (s : State) : Status × State :=
  match s.engine.mode with
  | .hold => (.ok, s.setEngine { s.engine with mode := modeOf s.engine.rememberedManual })
  | _ => (.state, s)

/-- SET_MODE (R115). -/
def setModeEffect (arg : Word) (s : State) : Status × State :=
  if arg = 0#32 ∨ arg = 1#32 then
    let manual := arg == 1#32
    match s.engine.mode with
    | .hold => (.ok, s.setEngine { s.engine with rememberedManual := manual })
    | _ => (.ok, s.setEngine { s.engine with mode := modeOf manual })
  else (.badArgument, s)

/-- The upper 16 bits of an argument. -/
def argHigh (arg : Word) : Nat := arg.toNat / 65536

/-- The lower 16 bits of an argument. -/
def argLow (arg : Word) : Nat := arg.toNat % 65536

/-- SET_MANUAL_L (R116). -/
def setManualEffect (arg : Word) (s : State) : Status × State :=
  if h : argHigh arg < 3 then
    (.ok, s.setEngine { s.engine with manual := s.engine.manual.set (argHigh arg) (argLow arg) h })
  else (.badArgument, s)

/-- COMMIT of one table (R160): the check starts where the commit state is IDLE. -/
def commitTable (id : TableId) (expected : Nat) (s : State) : Status × State :=
  let c := s.tables.commit id
  if c.state == .idle then
    (.ok, s.setTables (s.tables.setCommit id
      { c with state := .checking, timer := checkClocks, expected := BitVec.ofNat 16 expected }))
  else (.busy, s)

/-- COMMIT (R160): the table id in the upper half of the argument, the expected check in the lower half. -/
def commitEffect (arg : Word) (s : State) : Status × State :=
  match argHigh arg with
  | 0 => commitTable .angle (argLow arg) s
  | 1 => commitTable .reference (argLow arg) s
  | 2 => commitTable .parameters (argLow arg) s
  | _ => (.badArgument, s)

end Sys2Proof.Machine
end

