-- ==== Sys2Proof/Machine/ChannelEvents.lean ====
section
/-! DEFINITION. The events of the firing channels: load points, issue positions, deliveries, valve reports, and the two
channel commands (R131 to R148). -/

namespace Sys2Proof.Machine

/-- The grid position does not lie after G: it is reached (R72). -/
def reached (x : Pos) (s : State) : Bool := !isAfter x s.g

/-- The load-point series advances (R131): Lp, n_v, and the next load point from the active record. -/
def advanceSeries (v : ValveId) (s : State) : State :=
  let ch := s.channel v
  s.setChannel v { ch with loadPoint := ch.nextLoadPoint, cycle := ch.cycle + 1,
                           nextLoadPoint := loadPointOf s.par v (ch.cycle + 1) }

/-- The pending angle taken and the half-cycle values fixed, with F and I computed (R132, R133 stages 1 to 3). -/
def Channel.fixHalfCycle (ch : Channel) (p : ParamRecord) (v : ValveId) : Channel :=
  let alpha := if ch.pendingValid then ch.pendingAlpha else ch.alpha
  { ch with alpha := alpha, pendingValid := false, lead := pLead p v, alphaOff := pAlphaOff p v, pulse := pPulse p v,
            halfStyle := ch.style, latest := ch.loadPoint + BitVec.ofNat 32 (pAlphaOff p v),
            fire := ch.loadPoint + BitVec.ofNat 32 alpha,
            issue := ch.loadPoint + BitVec.ofNat 32 alpha - BitVec.ofNat 32 (pLead p v) }

/-- The issue position watched from now on: where it is already reached the command is issued at once (R72, R130). -/
def watchIssue (v : ValveId) (s : State) : State := if reached (s.channel v).issue s then issueFire v s else s

/-- The load-point action of a channel as from IDLE (R133). -/
def loadPointAction (v : ValveId) (s : State) : State :=
  let ch := (s.channel v).fixHalfCycle s.par v
  if ch.alphaOff ≤ ch.alpha then bumpChannel v 4 (s.setChannel v { ch with state := .suppressed })
  else watchIssue v (s.setChannel v { ch with state := .armed })

/-- MISFIRE detail (R146). -/
def misfireDetail (v : ValveId) (misses : Nat) (fire : Pos) : Word := halves (v.val * 256 + misses) (phaseOf fire)

/-- The miss of a channel in the channel's own state, its counter and its notice (R146), with the misfire it may be. The MISFIRE
event is raised before the supervisor takes the condition (the model's choice, assumption 6). -/
def countMiss (v : ValveId) (s : State) : Bool × State :=
  let ch := s.channel v
  let n := min 15 (ch.misses + 1)
  let s1 := bumpChannel v 6 (s.setChannel v { ch with misses := n })
  if pMissLimit s.par v ≤ n then (true, raise srcMisfire (misfireDetail v n ch.fire) s1) else (false, s1)

/-- MISFIRE at the supervisor, where the miss was one (R146, R176). -/
def misfireEvent (misfired : Bool) (v : ValveId) (s : State) : State :=
  if misfired then protectiveEvent .misfire v s else s

/-- A load point that ends a commanded half-cycle (R135): the miss, the load-point action, and then the supervisor's
event (assumption 6). -/
def missedHalfCycle (v : ValveId) (s : State) : State :=
  let r := countMiss v s
  misfireEvent r.1 v (loadPointAction v r.2)

/-- What a load point does by the channel's state, after the series has advanced (R133 to R135). -/
def loadPointByState (v : ValveId) (s : State) : State :=
  match (s.channel v).state with
  | .blocked => s
  | .idle => loadPointAction v s
  | .suppressed => loadPointAction v s
  | _ => missedHalfCycle v s

/-- A channel still ARMED at its load point has its issue position reached first, since I lies before the next load
point (R133, R72); the steady advance never brings it here (07_valve_firing_channels.md, Channel state summary). -/
def issueIfArmed (v : ValveId) (s : State) : State :=
  if (s.channel v).state == .armed then issueFire v s else s

/-- G reaches the next load point of a channel (R131). -/
def loadPointReached (v : ValveId) (s : State) : State := loadPointByState v (advanceSeries v (issueIfArmed v s))

/-- G reaches the issue position of an ARMED channel (R136); in any other state it is not watched (R130). -/
def issuePositionReached (v : ValveId) (s : State) : State :=
  if (s.channel v).state == .armed then issueFire v s else s

/-- A delivered angle written to the pending slot (R139). -/
def pendAngle (v : ValveId) (alpha : Nat) (s : State) : State :=
  s.setChannel v { s.channel v with pendingAlpha := alpha, pendingValid := true }

/-- A delivered angle that replaces the active angle of an ARMED channel in SINGLE buffering (R140). -/
def replaceAngle (v : ValveId) (alpha : Nat) (s : State) : State :=
  let ch := { s.channel v with alpha := alpha, pendingValid := false }
  if ch.alphaOff ≤ alpha then bumpChannel v 4 (s.setChannel v { ch with state := .suppressed })
  else watchIssue v (s.setChannel v
    { ch with fire := ch.loadPoint + BitVec.ofNat 32 alpha,
              issue := ch.loadPoint + BitVec.ofNat 32 alpha - BitVec.ofNat 32 ch.lead })

/-- A firing angle delivered to a channel (R139, R140). -/
def deliverAngle (v : ValveId) (alpha : Nat) (s : State) : State :=
  if (s.channel v).buffering == .single && (s.channel v).state == .armed then replaceAngle v alpha s
  else pendAngle v alpha s

/-- A VALVE_REPORT as the channel takes it: its flags and its conduction position (Table 3). -/
structure ValveReport where
  conducted : Bool
  noFire : Bool
  fault : Bool
  blockAck : Bool
  flags : Byte
  position : Pos
deriving DecidableEq, Repr

/-- VALVE_FAULT detail (R147). Its flags byte is the whole status byte of the report, with bits 7 to 4, which Table 3 gives to no
flag, as they arrived (the model's choice, assumption 32). -/
def faultDetail (v : ValveId) (r : ValveReport) : Word := halves (v.val * 256 + r.flags.toNat) (phaseOf r.position)

/-- The FIRE_DEVIATION detail (R144). -/
def deviationDetail (v : ValveId) (error : Int) : Word := halves (v.val * 256) (int16 (sat16 error))

/-- A capture in AWAIT (R144): counters 5 confirmed, 8 deviation. -/
def capture (v : ValveId) (position : Pos) (s : State) : State :=
  let ch := s.channel v
  let error := diff position ch.fire
  let s1 := bumpChannel v 5 (s.setChannel v
    { ch with capturePosition := position, captureError := error, misses := 0, state := .idle })
  if pFireTolerance s.par v < error.natAbs then raise srcFireDeviation (deviationDetail v error) (bumpChannel v 8 s1)
  else s1

/-- A NO_FIRE report in AWAIT (R145): a miss, and IDLE. -/
def reportedMiss (v : ValveId) (s : State) : Bool × State :=
  let r := countMiss v s
  (r.1, r.2.setChannel v { r.2.channel v with state := .idle })

/-- The fire outcome of a report (R143): NO_FIRE goes before CONDUCTED; outside AWAIT, and with none of the four flags,
the report is STRAY, counter 7. The first part says whether a MISFIRE goes to the supervisor. -/
def fireOutcome (v : ValveId) (r : ValveReport) (s : State) : Bool × State :=
  if r.conducted || r.noFire then
    (if (s.channel v).state == .await then
      (if r.noFire then reportedMiss v s else (false, capture v r.position s))
     else (false, bumpChannel v 7 s))
  else if r.fault || r.blockAck then (false, s)
  else (false, bumpChannel v 7 s)

/-- BLOCK_ACK in BLOCKED sets the block-acknowledged flag (R148). -/
def takeBlockAck (v : ValveId) (r : ValveReport) (s : State) : State :=
  if r.blockAck && (s.channel v).state == .blocked then s.setChannel v { s.channel v with blockAck := true } else s

/-- A channel takes a VALVE_REPORT (R143): the three parts at the channel, then VALVE_FAULT and MISFIRE at the supervisor. The
VALVE_FAULT and MISFIRE events are raised before the supervisor takes either condition (R146, R147; the model's choice,
assumption 6: it shows in the operating state that their notices carry). -/
def takeReport (v : ValveId) (r : ValveReport) (s : State) : State :=
  let s1 := raiseIf r.fault srcValveFault (faultDetail v r) s
  let out := fireOutcome v r (takeBlockAck v r s1)
  misfireEvent out.1 v (if r.fault then protectiveEvent .valveFault v out.2 else out.2)

/-- A valve id and a value of 0 or 1 from an argument (R137, R141). -/
def valveArgument (arg : Word) : Option (ValveId × Bool) :=
  if h : argHigh arg < 6 then
    (if argLow arg = 0 then some (⟨argHigh arg, h⟩, false)
     else if argLow arg = 1 then some (⟨argHigh arg, h⟩, true)
     else none)
  else none

/-- SET_STYLE (R137). -/
def setStyleEffect (arg : Word) (s : State) : Status × State :=
  match valveArgument arg with
  | some (v, one) => (.ok, s.setChannel v { s.channel v with style := if one then .sustain else .pulse })
  | none => (.badArgument, s)

/-- SET_BUFFERING (R141). -/
def setBufferingEffect (arg : Word) (s : State) : Status × State :=
  match valveArgument arg with
  | some (v, one) => (.ok, s.setChannel v { s.channel v with buffering := if one then .single else .double })
  | none => (.badArgument, s)

end Sys2Proof.Machine
end

