-- ==== Sys2Proof/Machine/Link.lean ====
section
/-! DEFINITION. The port state machine: moves between the six states, the not-ready flush, the training timers, link
quality, and the action of marks and line events (R1 to R4, R10 to R21). -/

namespace Sys2Proof.Machine

/-- The not-ready drops of a queue, one for each frame (R19). -/
def countDrops (p : PortId) (c : TxClass) (q : List Frame) (s : State) : State :=
  q.foldl (fun s _ => bump (.notReady p c) s) s

/-- The four queues and the frame in transmission removed, and the effective priorities at their initial values (R19,
R34). -/
def Port.flushed (p : Port) : Port :=
  { p with timed := [], access := [], measure := [], pass := [], tx := none, effAccess := p.accessPriority,
           effMeasure := 4, effPass := 6 }

/-- The frames a flush removes from a port, the abandoned one first. -/
def Port.frames (p : Port) : List Frame :=
  (p.tx.map TxFrame.frame).toList ++ p.timed ++ p.access ++ p.measure ++ p.pass

/-- What a port does when it stops being transmit-ready (R19, R34): drops counted, gate commands reported not sent. -/
def flush (p : PortId) (s : State) : State :=
  let x := s.port p
  let s1 := s.modPort p Port.flushed
  let s2 := match x.tx with
    | some t => bump (.notReady p t.cls) s1
    | none => s1
  let s3 := countDrops p .pass x.pass (countDrops p .measure x.measure (countDrops p .access x.access
    (countDrops p .timed x.timed s2)))
  x.frames.foldl (fun s f => reportFrameNotSent f s) s3

/-- The flush, where the port was transmit-ready and no longer is. -/
def flushIfLost (wasReady : Bool) (p : PortId) (s : State) : State :=
  if wasReady && !(s.port p).transmitReady then flush p s else s

/-- The detail of a DEGRADED event: the new value, and the errored-frame count of the current window in the next byte
(R21). A count above 255 leaves that byte open: a free value. -/
def degradedDetail (value : Bool) (errors : Nat) : Word :=
  bytes4 0 0 (if errors < 256 then errors else (Config.degradedCountByte errors).toNat) (bit value)

/-- DEGRADED cleared or set, with its event (R20, R21). -/
def setDegraded (p : PortId) (value : Bool) (s : State) : State :=
  if (s.port p).degraded == value then s
  else raise (srcPortDegraded p) (degradedDetail value (s.port p).windowErrors)
    (s.modPort p (fun x => { x with degraded := value }))

/-- The port leaves UP and FAR_FAULT: windowing stops and DEGRADED is cleared (R20). The unsent PACE request and the
frame in reception end with those states (R3, R5). -/
def leaveWorking (p : PortId) (s : State) : State :=
  (setDegraded p false s).modPort p
    (fun x => { x with windowTimer := none, rx := none, paceRequest := none })

/-- The state code change of a port state event (R21). -/
def linkDetail (old new : LinkState) : Word := halves (linkCode old) (linkCode new)

/-- The state of the port alone, with the timers of R10 as given; a timer is cancelled on leaving its state. A TRAIN mark that is
still owed is dropped (R14 does not say what becomes of it; the model's choice, assumption 27). -/
def Port.enter (x : Port) (new : LinkState) : Port :=
  { x with link := new, trainOwed := false,
           seekTimer := if new = .seeking then some seekClocks else none,
           alignTimer := if new = .aligned then some alignClocks else none,
           holdoffTimer := if new = .holdoff then some holdoffClocks else none }

/-- A change of a port's state with all that follows from the change itself: timers (R10), the not-ready flush (R19), the
state event (R21), the end of windowing (R20), and PS's report to the supervisor (R172, R176). -/
def changeLink (p : PortId) (new : LinkState) (s : State) : State :=
  let old := (s.port p).link
  let ready := (s.port p).transmitReady
  let s1 := flushIfLost ready p (s.modPort p (fun x => x.enter new))
  let s2 := raiseIf (old != new) (srcPortState p) (linkDetail old new) s1
  let s3 := if old.receives && !new.receives then leaveWorking p s2 else s2
  if p = .south && old != new then psChanged old new s3 else s3

/-- The move to SEEKING from DOWN: seek timer, valid-mark run, training-attempts counter (R11). -/
def seekFromDown (p : PortId) (s : State) : State :=
  bump (.trainingAttempts p) ((changeLink p .seeking s).modPort p (fun x => { x with validRun := 0 }))

/-- R11 applied in DOWN: with signal present, on to SEEKING. -/
def applyR11 (p : PortId) (s : State) : State :=
  if (s.port p).link == .down && (s.port p).signal then seekFromDown p s else s

/-- The move to DOWN, where R11 applies at once. -/
def goDown (p : PortId) (s : State) : State := applyR11 p (changeLink p .down s)

/-- A failed attempt (R12, R13): the count rises, and the port moves to DOWN, or to HOLDOFF at 8. -/
def failAttempt (p : PortId) (s : State) : State :=
  let s1 := s.modPort p (fun x => { x with attempts := x.attempts + 1 })
  if 8 ≤ (s1.port p).attempts then changeLink p .holdoff s1 else goDown p s1

/-- The move to SEEKING on loss of alignment: the seek timer is started and the valid-mark run cleared (R13, R14). -/
def seekAgain (p : PortId) (s : State) : State :=
  (changeLink p .seeking s).modPort p (fun x => { x with validRun := 0 })

/-- The entry into UP from ALIGNED: attempt count 0, one TRAIN mark due, a fresh monitoring window (R13, R14, R20). -/
def enterUp (p : PortId) (s : State) : State :=
  (changeLink p .up (s.modPort p (fun x =>
    { x with attempts := 0, windowTimer := some windowClocks, windowErrors := 0, cleanRun := 0 }))).modPort p
    (fun x => { x with trainOwed := true })

/-- An errored frame in the current monitoring window (R20). -/
def countErrored (p : PortId) (s : State) : State :=
  let s1 := s.modPort p (fun x => { x with windowErrors := x.windowErrors + 1 })
  let x := s1.port p
  if x.hiErrThreshold ≤ x.windowErrors then
    setDegraded p true (s1.modPort p (fun x => { x with cleanRun := 0 }))
  else s1

/-- A monitoring window ends (R20); an expiry with windowing stopped has nothing to act on. -/
def windowExpiry (p : PortId) (s : State) : State :=
  if (s.port p).windowTimer.isSome then
    let s1 := s.modPort p (fun x =>
      { x with cleanRun := if x.windowErrors < x.hiErrThreshold then min 8 (x.cleanRun + 1) else 0 })
    let s2 := if (s1.port p).degraded && decide (8 ≤ (s1.port p).cleanRun) then setDegraded p false s1 else s1
    s2.modPort p (fun x => { x with windowErrors := 0, windowTimer := some windowClocks })
  else s

/-- The symbols of a run counted by R1 and received by R5: an SF starts a frame and empties the buffer, a data symbol is
one frame byte, and bytes past 506 are counted and not stored. -/
def receiveRun (run : LineRun) (x : Port) : Port :=
  let rx := if x.link.receives then (if run.start then some { bytes := [], count := 0 } else x.rx) else none
  { x with
    invalidRun := if run.start || !run.data.isEmpty then 0 else x.invalidRun,
    rx := rx.map (fun r => { bytes := (r.bytes ++ run.data).take 506, count := r.count + run.data.length }) }

/-- The frame in reception, if there is one, ends cut (R5, R6): a cut frame fails check 1 or check 2. -/
def cutArrival (p : PortId) (s : State) : State :=
  match (s.port p).rx with
  | none => s
  | some r =>
    let cause : Fin 5 := if byteAt r.bytes 0 = 0xA7#8 && decide (0 < r.count) then 1 else 0
    countErrored p (bump (.error p cause) (s.modPort p (fun x => { x with rx := none })))

/-- The frame symbols since the previous line event are received (R5); an SF inside a frame cuts that frame first. -/
def receiveSymbols (p : PortId) (run : LineRun) (s : State) : State :=
  let s1 := if run.start then cutArrival p s else s
  s1.modPort p (receiveRun run)

/-- The valid-mark run of SEEKING counts a valid mark; the fourth moves the port to ALIGNED (R12). -/
def seekMark (p : PortId) (s : State) : State :=
  let s1 := s.modPort p (fun x => { x with validRun := x.validRun + 1 })
  if 4 ≤ (s1.port p).validRun then changeLink p .aligned s1 else s1

/-- The state rules for a valid mark outside a frame (R4, R12 to R15). -/
def markByState (p : PortId) (m : Mark) (s : State) : State :=
  match (s.port p).link, m with
  | .seeking, _ => seekMark p s
  | .aligned, .train true => enterUp p s
  | .up, .noReceive => changeLink p .farFault s
  | .up, .train false => changeLink p .aligned s
  | .farFault, .idle => changeLink p .up s
  | .farFault, .train false => changeLink p .aligned s
  | _, _ => s

/-- A valid mark is received (R4): PACE marks are counted while the receiver is aligned and cut nothing; any other mark
cuts a frame in reception, and then acts by the state rules. -/
def receiveMark (p : PortId) (m : Mark) (s : State) : State :=
  let s1 := s.modPort p (fun x => { x with invalidRun := 0 })
  match m with
  | .pace _ => markByState p m (bumpIf (s1.port p).link.isAligned (.paceSeen p) s1)
  | _ => markByState p m (cutArrival p s1)

/-- The run of invalid symbols after the four symbols of a mark: MK sets it to 0, then each symbol counts (R1, R2). -/
def markInvalidRun (s1 s2 s3 : LineSymbol) : Nat :=
  [s1, s2, s3].foldl (fun n x => if x = .invalid then n + 1 else 0) 0

/-- An ill-formed mark is received (R4, R5, R12): it cuts a frame in reception and breaks the run of valid marks. -/
def receiveIllFormed (p : PortId) (s1 s2 s3 : LineSymbol) (s : State) : State :=
  (cutArrival p s).modPort p (fun x =>
    { x with invalidRun := markInvalidRun s1 s2 s3,
             validRun := if x.link = .seeking then 0 else x.validRun })

/-- The port has lost alignment (R1, R13, R14, R15): the frame in reception arrives cut, then the state changes. -/
def loseAlignment (p : PortId) (s : State) : State :=
  if (s.port p).link.isAligned then seekAgain p (cutArrival p s) else s

/-- An invalid symbol is received (R1, R5, R12): it cuts a frame in reception, sets the valid-mark run of SEEKING to 0,
and at a run of 16 in ALIGNED, UP or FAR_FAULT the port has lost alignment. -/
def receiveInvalid (p : PortId) (s : State) : State :=
  let s1 := (cutArrival p s).modPort p (fun x =>
    { x with invalidRun := min 16 (x.invalidRun + 1),
             validRun := if x.link = .seeking then 0 else x.validRun })
  if (s1.port p).invalidRun = 16 then loseAlignment p s1 else s1

/-- The signal detector reports loss of signal (R1, R12 to R15). -/
def loseSignal (p : PortId) (s : State) : State :=
  let s1 := (cutArrival p s).modPort p (fun x => { x with signal := false })
  match (s1.port p).link with
  | .seeking => failAttempt p s1
  | .aligned => failAttempt p s1
  | .up => goDown p s1
  | .farFault => goDown p s1
  | _ => s1

/-- The signal detector reports signal present (R1, R11). -/
def findSignal (p : PortId) (s : State) : State :=
  applyR11 p (s.modPort p (fun x => { x with signal := true }))

/-- RETRAIN (R17): timers cancelled, attempt count 0, the frame in reception discarded uncounted, DOWN, then R11. -/
def retrainPort (p : PortId) (s : State) : State :=
  goDown p (s.modPort p (fun x =>
    { x with attempts := 0, rx := none, seekTimer := none, alignTimer := none, holdoffTimer := none }))

/-- One-way mode written (R15, R23): off in FAR_FAULT ends transmit readiness at once. -/
def setOneWay (p : PortId) (on : Bool) (s : State) : State :=
  let ready := (s.port p).transmitReady
  flushIfLost ready p (s.modPort p (fun x => { x with oneWay := on }))

end Sys2Proof.Machine
end

