-- ==== Sys2Proof/Machine/Merge.lean ====
section
/-! DEFINITION. The merge unit: stream states, placement, row close, and the deadline check (R49 to R67). -/

namespace Sys2Proof.Machine

/-- The merge unit replaced. -/
def State.setMerge (s : State) (m : Merge) : State := { s with merge := m }

/-- The status record of a stream replaced. -/
def State.setStatus (s : State) (i : StreamId) (x : StreamStatus) : State :=
  s.setMerge { s.merge with status := s.merge.status.set i x }

/-- A stream is enabled and LOCKED. -/
def Merge.lockedStream (m : Merge) (i : StreamId) : Bool := m.table[i].enable && m.status[i].state == .locked

/-- The enabled FEEDER entries. -/
def Merge.isFeeder (m : Merge) (i : StreamId) : Bool := m.table[i].enable && m.table[i].role == .feeder

/-- The FEEDERS item (R172). -/
def Merge.feedersMet (m : Merge) : Bool := streamIds.all (fun i => !m.isFeeder i || m.lockedStream i)

/-- The enabled entry of a voltage role, if there is one. -/
def Merge.roleEntry (m : Merge) (r : Role) : Option StreamId :=
  streamIds.find? (fun i => m.table[i].enable && m.table[i].role == r)

/-- The enabled entry that the selection names, if there is one (R59). -/
def Merge.selected (m : Merge) : Option StreamId :=
  match m.selection with
  | .none => none
  | .main => m.roleEntry .voltageMain
  | .standby => m.roleEntry .voltageStandby

/-- FEEDERS updated and evaluated (R172, R173). -/
def updateFeeders (s : State) : State := updateItems (fun i => { i with feeders := s.merge.feedersMet }) s

/-- STREAM_STATE detail (R53). -/
def streamDetail (i : StreamId) (old new : StreamState) : Word := bytes4 i (streamCode old) (streamCode new) 0

/-- A stream's status set, with the event and then the FEEDERS update where its state changes (R53, R172; the order is the
model's choice, assumption 16). -/
def putStatus (i : StreamId) (x : StreamStatus) (s : State) : State :=
  let old := s.merge.status[i].state
  let s1 := s.setStatus i x
  if old = x.state then s1 else updateFeeders (raise srcStreamState (streamDetail i old x.state) s1)

/-- A stream that stays enabled is restarted SILENT by a write (R50): one event, from its previous state, which may be SILENT
itself, to SILENT (R53), and the FEEDERS update (R172). -/
def restartStream (i : StreamId) (x : StreamStatus) (s : State) : State :=
  updateFeeders (raise srcStreamState (streamDetail i s.merge.status[i].state x.state) (s.setStatus i x))

/-- A stream's counts saturate at 65535 (R51). -/
def countUp (n : Nat) : Nat := min 65535 (n + 1)

/-- An accepted set at a stream's state (R52). -/
def StreamStatus.onAccept (x : StreamStatus) : StreamStatus :=
  match x.state with
  | .silent => { x with state := .acquiring, filled := 0, missing := 0 }
  | .lost => { x with state := .acquiring, filled := 0, missing := 0 }
  | _ => x

/-- A row close with the stream's slot filled (R52, R62). -/
def StreamStatus.onFilled (x : StreamStatus) (values : Phases) : StreamStatus :=
  let n := countUp x.filled
  let counted := { x with filled := n, missing := 0, last := values }
  match x.state with
  | .acquiring => if 16 ≤ n then { counted with state := .locked } else counted
  | .locked => counted
  | .lost => counted
  | _ => { x with last := values }

/-- A row close with the stream's slot unfilled (R52, R62). -/
def StreamStatus.onUnfilled (x : StreamStatus) (holdLimit : Nat) : StreamStatus :=
  let n := countUp x.missing
  match x.state with
  | .disabled => x
  | .silent => { x with missing := n }
  | .lost => { x with missing := n }
  | _ => { x with filled := 0, missing := n, state := if holdLimit ≤ n then .lost else x.state }

/-- What a stream gives a closing row (R62). -/
structure RowValue where
  values : Phases
  overrange : Bool
  held : Bool
deriving DecidableEq, Repr

/-- The values a stream uses for a closing row (R62): its slot's, or its last real values held, or none. -/
def rowValue (m : Merge) (r : Row) (i : StreamId) : Option RowValue :=
  match r.slots[i] with
  | some slot => some { values := slot.values, overrange := slot.overrange, held := false }
  | none =>
    let x := m.status[i]
    if x.state == .locked && decide (countUp x.missing < m.table[i].holdLimit.toNat) then
      some { values := x.last, overrange := false, held := true }
    else none

/-- Stage 1 of a close for one stream (R61, R62): counters 5 held rows, 6 missing rows. -/
def closeStream (m : Merge) (r : Row) (s : State) (i : StreamId) : State :=
  if m.table[i].enable then
    match r.slots[i] with
    | some slot => putStatus i (m.status[i].onFilled slot.values) s
    | none =>
      let held := (rowValue m r i).isSome
      putStatus i (m.status[i].onUnfilled m.table[i].holdLimit.toNat)
        (bumpStream i 6 (if held then bumpStream i 5 s else s))
  else s

/-- The voltage selection decided at stage 2 of a close (R63). -/
def selectVoltage (before : Selection) (mainLocked standbyLocked : Bool) (mainRun : Nat) : Selection :=
  let fallback : Selection := if mainLocked then .main else if standbyLocked then .standby else .none
  match before with
  | .standby => if 256 ≤ mainRun then .main else if standbyLocked then .standby else fallback
  | _ => fallback

/-- The entry of a role is LOCKED; where there is none it counts as not LOCKED (R63). -/
def Merge.roleLocked (m : Merge) (r : Role) : Bool :=
  match m.roleEntry r with
  | some i => m.lockedStream i
  | none => false

/-- The VOLTAGE_SELECT detail (R64). -/
def selectDetail (old new : Selection) (index : Word) : Word :=
  BitVec.ofNat 32 (field (selectionCode old) 8 24 + field (selectionCode new) 8 16 + field index.toNat 16 0)

/-- Stage 2 of a close (R63, R64, R172): the main-locked run, the selection, its event and then the VOLTAGE item (this order is
the model's choice, assumption 16). -/
def closeSelection (index : Word) (s : State) : State :=
  let m := s.merge
  let run := if m.roleLocked .voltageMain then countUp m.mainRun else 0
  let new := selectVoltage m.selection (m.roleLocked .voltageMain) (m.roleLocked .voltageStandby) run
  let s1 := s.setMerge { m with mainRun := run, selection := new }
  if m.selection = new then s1
  else updateItems (fun i => { i with voltage := new != .none })
    (raise srcVoltageSelect (selectDetail m.selection new index) s1)

/-- Phase by phase, the exact sum of two triples. -/
def Phases.add (p q : Phases) : Phases := { a := p.a + q.a, b := p.b + q.b, c := p.c + q.c }

/-- Phase by phase, saturated (R65). -/
def Phases.sat (p : Phases) : Phases := { a := sat16 p.a, b := sat16 p.b, c := sat16 p.c }

/-- Stage 3 of a close (R65, R66), from the values taken at stage 1 (`before`) and the states and selection after stage
2 (`after`). -/
def compositeOf (before after : Merge) (r : Row) : CompositeSet :=
  let value := rowValue before r
  let voltage := match after.selected with
    | some i => value i
    | none => none
  let feeders := (streamIds.filter (fun i => after.isFeeder i && after.lockedStream i)).filterMap value
  { index := r.index, position := r.position,
    v := match voltage with
      | some x => x.values
      | none => Phases.zero
    i := (feeders.foldl (fun acc x => acc.add x.values) Phases.zero).sat,
    quality :=
      { substitutedV := match voltage with
          | some x => x.held
          | none => false
        substitutedI := feeders.any (fun x => x.held),
        invalidV := after.selection == .none,
        feederIncomplete := streamIds.any (fun i => after.isFeeder i && !after.lockedStream i),
        overrange := (match voltage with
          | some x => x.overrange
          | none => false) || feeders.any (fun x => x.overrange),
        mixedVoltage := before.selection != after.selection } }

/-- The history ring with a set appended, the oldest of 256 leaving (R67). -/
def appendSet (c : CompositeSet) (h : List CompositeSet) : List CompositeSet := (c :: h).take 256

/-- Stage 4 of a close: the append, the last closed index, the freed place, and the engine's window test (R61, R67,
R91). -/
def closeAppend (c : CompositeSet) (s : State) : State :=
  testWindows (s.setMerge { s.merge with history := appendSet c s.merge.history, lastClosed := c.index,
                                         rows := s.merge.rows.tail })

/-- The close of a row, the oldest open one (R61). Stage 1 takes the streams in the order of their entries, each with its event
and its FEEDERS update (R62, R173; the model's choice, assumption 16). -/
def closeRow (r : Row) (s : State) : State :=
  let before := s.merge
  let s1 := streamIds.foldl (closeStream before r) s
  let s2 := closeSelection r.index s1
  closeAppend (compositeOf before s2.merge r) s2

/-- The required slots of a row (R59). -/
def Merge.required (m : Merge) : List StreamId :=
  streamIds.filter (fun i => m.selected == some i || (m.isFeeder i && m.lockedStream i))

/-- A row is complete: it has a required slot and every required slot is filled (R59). -/
def Merge.rowComplete (m : Merge) (r : Row) : Bool :=
  !m.required.isEmpty && m.required.all (fun i => r.slots[i].isSome)

/-- A row has reached its deadline under a mergeDelay (R60). -/
def pastDeadline (delay : Nat) (s : State) (r : Row) : Bool := decide ((delay : Int) ≤ diff s.pace.count r.index)

/-- A row closes in turn (R59, R61): it is complete, or inside a deadline check, which has a mergeDelay, past its deadline. -/
def closesInTurn (check : Option Nat) (s : State) (r : Row) : Bool :=
  check.any (fun delay => pastDeadline delay s r) || s.merge.rowComplete r

/-- The oldest open row tested after a fill, a close or a table write, and closed in turn (R59, R61), at most `fuel`
rows. -/
def closeCascade (check : Option Nat) : Nat → State → State
  | 0, s => s
  | fuel + 1, s =>
    match s.merge.rows with
    | [] => s
    | r :: _ => if closesInTurn check s r then closeCascade check fuel (closeRow r s) else s

/-- The completion test of the oldest open row, and the cascade it may start (R59, R61). -/
def completionTest (s : State) : State := closeCascade none s.merge.rows.length s

/-- The deadline check of a pace event under one mergeDelay (R60). -/
def deadlineCheckWith (delay : Nat) (s : State) : State :=
  match s.merge.rows with
  | [] => s
  | r :: _ => if pastDeadline delay s r then closeCascade (some delay) s.merge.rows.length s else s

/-- The deadline check of a pace event (R60): the mergeDelay of the record in use when it begins holds for the whole check,
since a record that one of its closes activates acts from the check of the next pace event on (R47). -/
def deadlineCheck (s : State) : State := deadlineCheckWith (pMergeDelay s.par) s

/-- Row P opens with every slot empty and G as its recorded position (R45, R58). -/
def openRow (s : State) : State :=
  s.setMerge { s.merge with
    rows := s.merge.rows ++ [{ index := s.pace.count, position := s.g, slots := Vector.replicate 8 none }] }

/-- A mapped and scaled channel value (R57). -/
def scaledValue (raw : Half) (invert : Bool) (gain : Half) : Int :=
  sat16 (roundDiv ((if invert then -raw.toInt else raw.toInt) * gain.toNat) 32768)

/-- One set of a MEASURE frame: its tag, its quality, and its channel values in order. -/
structure MeasuredSet where
  tag : Byte
  quality : Half
  channels : List Half
deriving DecidableEq, Repr

/-- The three values placed in a slot (R57); in rotation ACB phases b and c are exchanged. -/
def slotValues (e : StreamEntry) (acb : Bool) (x : MeasuredSet) : Phases :=
  let value (m : ChannelMap) : Int := scaledValue (x.channels.getD m.index 0) m.invert e.gain
  if acb then { a := value e.mapA, b := value e.mapC, c := value e.mapB }
  else { a := value e.mapA, b := value e.mapB, c := value e.mapC }

/-- The age of a set (R55). -/
def setAge (p : Word) (tag : Byte) : Nat := (p.toNat % 256 + 256 - tag.toNat) % 256

/-- The rows with a stream's slot of one row replaced. -/
def setSlot (rows : List Row) (index : Word) (i : StreamId) (slot : Option Slot) : List Row :=
  rows.map (fun r => if r.index = index then { r with slots := r.slots.set i slot } else r)

/-- A set accepted into its slot (R56, row 5): the slot, the accepted-sets counter, the stream's state, and the
completion test (R54, R59). -/
def acceptSet (i : StreamId) (index : Word) (slot : Slot) (s : State) : State :=
  let s1 := s.setMerge { s.merge with rows := setSlot s.merge.rows index i (some slot) }
  completionTest (putStatus i s1.merge.status[i].onAccept (bumpStream i 0 s1))

/-- The disposition of a set with index E (R56): counters 1 LATE, 3 DUPLICATE. -/
def disposeSet (i : StreamId) (index : Word) (x : MeasuredSet) (s : State) : State :=
  let e := s.merge.table[i]
  if !isAfter index s.merge.lastClosed then bumpStream i 1 s
  else if x.quality.getLsbD 0 then s
  else if x.quality.getLsbD 2 && !e.acceptTest then s
  else
    match s.merge.rows.find? (fun r => r.index == index) with
    | none => s
    | some r =>
      if r.slots[i].isSome then bumpStream i 3 s
      else acceptSet i index { values := slotValues e (pAcb s.par) x, overrange := x.quality.getLsbD 1 } s

/-- Index extension of a set, then its disposition (R55): counter 2 FUTURE. -/
def placeSet (i : StreamId) (s : State) (x : MeasuredSet) : State :=
  let age := setAge s.pace.count x.tag
  if age ≤ 255 - pFutureGuard s.par then disposeSet i (s.pace.count - BitVec.ofNat 32 age) x s
  else bumpStream i 2 s

/-- The channel map points beyond the frame's m channels (R54). -/
def StreamEntry.beyond (e : StreamEntry) (m : Nat) : Bool :=
  decide (m ≤ e.mapA.index) || decide (m ≤ e.mapB.index) || decide (m ≤ e.mapC.index)

/-- A MEASURE frame placed for a stream (R54): counter 4 FORMAT. -/
def placeFrame (i : StreamId) (m : Nat) (sets : List MeasuredSet) (s : State) : State :=
  if s.merge.table[i].beyond m then bumpStream i 4 s else sets.foldl (placeSet i) s

/-- The slots of a stream emptied in every open row (R50). -/
def emptySlots (i : StreamId) (rows : List Row) : List Row :=
  rows.map (fun r => { r with slots := r.slots.set i none })

/-- A stream restarted SILENT, with its counts and last real values 0 (R50). -/
def silentStatus : StreamStatus := { state := .silent, filled := 0, missing := 0, last := Phases.zero }

/-- The effect of an accepted write on one entry, comparing it before and after (R50). -/
def entryEffect (before : Vector StreamEntry 8) (s : State) (i : StreamId) : State :=
  let old := before[i]
  let new := s.merge.table[i]
  let emptied := s.setMerge { s.merge with rows := emptySlots i s.merge.rows }
  if !old.enable && new.enable then putStatus i silentStatus s
  else if old.enable && !new.enable then putStatus i { s.merge.status[i] with state := .disabled } emptied
  else if old.enable && (old.source != new.source || old.role != new.role) then restartStream i silentStatus emptied
  else s

/-- The number of entries that satisfy a test. -/
def countEntries (t : Vector StreamEntry 8) (f : StreamEntry → Bool) : Nat := (streamIds.filter (fun i => f t[i])).length

/-- The table as it would stand is admitted (R49), but for role code 3, which no entry can hold. -/
def streamTableOk (t : Vector StreamEntry 8) : Bool :=
  streamIds.all (fun i => t[i].holdLimit != 0)
    && decide (countEntries t (fun e => e.enable && e.role == .voltageMain) ≤ 1)
    && decide (countEntries t (fun e => e.enable && e.role == .voltageStandby) ≤ 1)
    && decide (countEntries t (fun e => e.enable && e.role == .feeder) ≤ 6)
    && streamIds.all (fun i => decide (countEntries t
        (fun e => t[i].enable && e.enable && e.source == t[i].source) ≤ 1))

/-- An accepted stream-table write (R50): the table, the effects in the order of the entries, each with its event and its
FEEDERS update (R53, R173; the model's choice, assumption 16), FEEDERS, and the completion test. -/
def applyStreamTable (t : Vector StreamEntry 8) (s : State) : State :=
  let before := s.merge.table
  completionTest (updateFeeders (streamIds.foldl (entryEffect before) (s.setMerge { s.merge with table := t })))

end Sys2Proof.Machine
end

