-- ==== Sys2Proof/Machine/Operands.lean ====
section
/-! DEFINITION. The operands of arrivals and requests: the receive checks of a frame (R6, R8), the fields of the frames the part consumes
(Table 3 of 01_the_station_link.md), and a command row's request as the access agent holds it. -/

namespace Sys2Proof.Machine

/-- MEASURE (0x11). -/
def kindMeasure : Byte := 0x11#8
/-- VALVE_REPORT (0x23). -/
def kindValveReport : Byte := 0x23#8
/-- ACCESS_REQUEST (0x31). -/
def kindAccessRequest : Byte := 0x31#8

/-- The good-frame counter of a kind: one for each of the seven kinds of R8, one for all others (R9, R22). -/
def kindIndex (kind : Byte) : Fin 8 :=
  if kind = 0x11#8 then 0
  else if kind = 0x21#8 then 1
  else if kind = 0x22#8 then 2
  else if kind = 0x23#8 then 3
  else if kind = 0x31#8 then 4
  else if kind = 0x32#8 then 5
  else if kind = 0x33#8 then 6
  else 7

/-- The kind minimum of check 4 (R8). -/
def kindMinimum (kind : Byte) : Nat :=
  if kind = 0x11#8 then 8
  else if kind = 0x21#8 then 10
  else if kind = 0x22#8 then 10
  else if kind = 0x23#8 then 6
  else if kind = 0x31#8 then 8
  else if kind = 0x32#8 then 4
  else if kind = 0x33#8 then 8
  else 0

/-- The length field of a header (Table 2). -/
def lengthField (bytes : List Byte) : Nat := (halfAt bytes 4).toNat

/-- The payload of a frame of payload length L (Table 2). -/
def payloadOf (bytes : List Byte) : List Byte := (bytes.drop 6).take (lengthField bytes)

/-- The size rule of an ACCESS_REQUEST by its operation and count (R8). -/
def requestSizeOk (op count : Byte) (len : Nat) : Bool :=
  if op = 1#8 then len == 8
  else if op = 2#8 ∨ op = 3#8 then len == 8 + 4 * count.toNat
  else if op = 4#8 then len == 12
  else true

/-- The size rule of check 5 (R8). The count of an ACCESS_REPLY is payload byte 1, as the rule's own words say (assumption 8). -/
def sizeRule (kind : Byte) (payload : List Byte) (len : Nat) : Bool :=
  let b (i : Nat) : Nat := (byteAt payload i).toNat
  if kind = 0x11#8 then
    decide (1 ≤ b 1 ∧ b 1 ≤ 4 ∧ 1 ≤ b 2 ∧ b 2 ≤ 8 ∧ len = 4 + b 1 * (2 + 2 * b 2))
  else if kind = 0x21#8 then len == 10
  else if kind = 0x22#8 then decide (1 ≤ b 0 ∧ b 0 ≤ 6 ∧ len = 2 + 8 * b 0)
  else if kind = 0x23#8 then len == 6
  else if kind = 0x31#8 then requestSizeOk (byteAt payload 0) (byteAt payload 1) len
  else if kind = 0x32#8 then len == 4 || len == 4 + 4 * b 1
  else if kind = 0x33#8 then len == 8
  else true

/-- Receive errors by number (R6, R22). -/
def causeDelimiter : Fin 5 := 0
/-- TRUNCATED (R6). -/
def causeTruncated : Fin 5 := 1
/-- LENGTH_IN (R6). -/
def causeLengthIn : Fin 5 := 2
/-- LENGTH_OUT (R6). -/
def causeLengthOut : Fin 5 := 3
/-- CHECK (R6). -/
def causeCheck : Fin 5 := 4

/-- The six receive checks of a frame ended by EF, in order (R6): the failure cause, or none for a good frame. A cut frame
fails check 1 or check 2 (`cutArrival`). -/
def receiveChecks (r : RxFrame) : Option (Fin 5) :=
  let kind := byteAt r.bytes 1
  let len := lengthField r.bytes
  if r.count = 0 ∨ byteAt r.bytes 0 ≠ 0xA7#8 then some causeDelimiter
  else if r.count < 6 ∨ r.count ≠ 10 + len then some causeLengthIn
  else if 496 < len ∨ len < kindMinimum kind then some causeLengthOut
  else if !sizeRule kind (payloadOf r.bytes) len then some causeLengthIn
  else if wordAt r.bytes (6 + len) ≠ crc32 (r.bytes.take (6 + len)) then some causeCheck
  else none

/-- Set j of a MEASURE payload with m channels per set (Table 3, R54). -/
def measuredSet (payload : List Byte) (m j : Nat) : MeasuredSet :=
  { tag := byteAt payload 0 + BitVec.ofNat 8 j, quality := halfAt payload (4 + j * (2 + 2 * m)),
    channels := (List.range m).map (fun n => halfAt payload (6 + j * (2 + 2 * m) + 2 * n)) }

/-- The sets of a MEASURE payload, in order (Table 3, R54). -/
def measuredSets (payload : List Byte) : List MeasuredSet :=
  (List.range (byteAt payload 1).toNat).map (measuredSet payload (byteAt payload 2).toNat)

/-- The report of a VALVE_REPORT payload (Table 3). -/
def valveReport (payload : List Byte) : ValveReport :=
  let flags := byteAt payload 1
  { conducted := flags.getLsbD 0, noFire := flags.getLsbD 1, fault := flags.getLsbD 2, blockAck := flags.getLsbD 3,
    flags := flags, position := wordAt payload 2 }

/-- The request of an ACCESS_REQUEST payload, from its source node and arrival port (Table 3). -/
def requestOf (payload : List Byte) (source : Byte) (p : PortId) : Request :=
  { operation := byteAt payload 0, count := byteAt payload 1, tag := halfAt payload 2, address := wordAt payload 4,
    data := (List.range ((payload.length - 8) / 4)).map (fun i => wordAt payload (8 + 4 * i)), source := source, port := p }

/-- The request of a COMMAND row: its code stands in the address, its argument is its one data word. -/
def commandRequest (code : Word) (c : CommandRequest) : Request :=
  { operation := 4, count := c.count, tag := c.tag, address := code, data := [c.argument], source := c.source,
    port := c.port }

/-- The request of a write row. -/
def writeRequest (w : WriteRequest) : Request :=
  { operation := if w.posted then 3 else 2, count := w.count, tag := w.tag, address := w.address, data := w.data,
    source := w.source, port := w.port }

end Sys2Proof.Machine
end

