-- ==== Sys2Proof/Machine/Readout.lean ====
section
/-! DEFINITION. The access address map and the words every region returns (10_access_requests_and_notices.md, The access address
map; R23, R25, R48, R51, R124, R153, R157 to R159, R196, R199 to R201, R203). -/

namespace Sys2Proof.Machine

/-- The regions of the access address map. -/
inductive Region where
  | ident
  | passRecord
  | channels
  | streamStatus
  | counters
  | portConfig
  | forwarding
  | streamTable
  | windows
  | vectors
  | staged
  | angleStandby
  | refStandby
  | angleActive
  | refActive
deriving DecidableEq, Repr

/-- The regions in the map's order. -/
def regionIds : List Region :=
  [.ident, .passRecord, .channels, .streamStatus, .counters, .portConfig, .forwarding, .streamTable, .windows, .vectors,
   .staged, .angleStandby, .refStandby, .angleActive, .refActive]

/-- Base word address of a region. -/
def Region.base : Region → Nat
  | .ident => 0x0000 | .passRecord => 0x1000 | .channels => 0x2000 | .streamStatus => 0x3000 | .counters => 0x4000
  | .portConfig => 0x10000 | .forwarding => 0x11000 | .streamTable => 0x12000 | .windows => 0x13000 | .vectors => 0x14000
  | .staged => 0x20000 | .angleStandby => 0x21000 | .refStandby => 0x22000 | .angleActive => 0x29000
  | .refActive => 0x2A000

/-- Words of a region. -/
def Region.words : Region → Nat
  | .ident => 64 | .passRecord => 64 | .channels => 96 | .streamStatus => 128 | .counters => 512 | .portConfig => 16
  | .forwarding => 64 | .streamTable => 32 | .windows => 32 | .vectors => 44 | .staged => 64 | .angleStandby => 257
  | .refStandby => 128 | .angleActive => 257 | .refActive => 128

/-- The region allows writing: it is marked RW, or it is the counters region (R195 test 6, R199). -/
def Region.writable : Region → Bool
  | .ident => false | .passRecord => false | .channels => false | .streamStatus => false | .counters => true
  | .portConfig => true | .forwarding => true | .streamTable => true | .windows => true | .vectors => true | .staged => true
  | .angleStandby => true | .refStandby => true | .angleActive => false | .refActive => false

/-- A word address lies in a region. -/
def Region.holds (r : Region) (a : Nat) : Bool := decide (r.base ≤ a ∧ a < r.base + r.words)

/-- The region of a word address, if it lies in one. -/
def regionOf (a : Nat) : Option Region := regionIds.find? (fun r => r.holds a)

/-- Words of a record, by place; unnamed words read 0 (R199). -/
def wordOf (ws : List Word) (i : Nat) : Word := ws.getD i 0

/-- A sum of fields as a word. -/
def pack (n : Nat) : Word := BitVec.ofNat 32 n

/-- The permissive items in bits 14 to 8 (R200, word 1). -/
def Permissives.bits (i : Permissives) : Nat :=
  field (bit i.angle) 1 8 + field (bit i.parameters) 1 9 + field (bit i.tracker) 1 10 + field (bit i.voltage) 1 11
    + field (bit i.feeders) 1 12 + field (bit i.link) 1 13 + field (bit i.notTripped) 1 14

/-- Words 1 and 2: the supervisor (R189, R200). -/
def supervisorWords (u : Supervisor) : List Word :=
  [pack (field (opCode u.state) 3 0 + field (bit u.ramp) 1 4 + u.items.bits + field u.recovery 8 16 + field u.holding 8 24),
   pack (u.lastPass.toNat + field u.history.length 4 16 + field (u.history.filter (fun e => !e.expired)).length 4 24)]

/-- Word 3: the trip record (R200). -/
def tripWord (t : TripRecord) : Word :=
  pack (t.pass.toNat + field t.causeCode 4 16 + field t.valve 4 20 + field (bit t.latched) 1 24)

/-- A word of the block-entry history (R200, words 4 to 18). -/
def historyWord (e : HistoryEntry) : Word :=
  pack (e.pass.toNat + field (causeCode e.cause) 4 16 + field e.valve 4 20 + field (bit e.expired) 1 24)

/-- Word i of the 15 words of the history; those past the last entry read 0. -/
def historyWords (h : List HistoryEntry) : List Word := (h.map historyWord ++ List.replicate 15 0).take 15

/-- The two words of a port (R200, words 19 to 22). -/
def portWords (p : Port) : List Word :=
  [pack (field (linkCode p.link) 3 0 + field p.attempts 4 4 + field (bit p.degraded) 1 8 + field p.timed.length 3 12
     + field p.access.length 4 16 + field p.measure.length 5 20 + field p.pass.length 5 25),
   pack (field p.effAccess 4 0 + field p.effMeasure 4 8 + field p.effPass 4 16)]

/-- The index of the newest history set, 0 while the ring is empty (R67). -/
def newestIndex (m : Merge) : Word :=
  match m.history with
  | [] => 0
  | c :: _ => c.index

/-- Words 23 to 26: pacing and merging (R200). -/
def mergeWords (s : State) : List Word :=
  [s.pace.count, pack (field (selectionCode s.merge.selection) 2 0 + field s.merge.history.length 9 16),
   pack (field s.merge.mainRun 16 0), newestIndex s.merge]

/-- Words 27 to 32: the tracker (R86, R200). -/
def trackerWords (s : State) : List Word :=
  let t := s.tracker
  [s.g, pack t.inc,
   pack (field (trackerCode t.state) 2 0 + field t.gain 2 4 + field t.lockRun 4 8 + field t.unlockRun 2 12
     + field t.holdoverRun 16 16),
   pack (field (int16 t.lastE) 16 0 + field (int16 t.lastStep) 16 16), t.nextTimemark, t.nextBoundary]

/-- Words 33 to 41: the engine (R107, R127, R200). -/
def engineWords (e : Engine) : List Word :=
  [pack (field (bit e.inFlight.isSome) 1 0 + field e.pendingBoundaries.length 2 4 + field (modeCode e.mode) 2 8
     + field (bit e.rememberedManual) 2 12 + field e.passNumber.toNat 16 16),
   e.lastBoundary, e.pendingBoundaries.headD 0, pack e.manual[0], pack e.manual[1], pack e.manual[2], pack e.lPrev[0],
   pack e.lPrev[1], pack e.lPrev[2]]

/-- The three words of a commit status (R168, R200). -/
def commitWords (c : Commit) (bankB valid : Bool) : List Word :=
  [pack (field (commitCode c.state) 2 0 + field (resultCode c.result) 3 4 + field (bit bankB) 1 8 + field (bit valid) 1 9
     + field c.failing 9 16),
   halves c.expected.toNat c.computed.toNat, halves c.activeCheck.toNat c.activations.toNat]

/-- Words 42 to 50: the three commit status records (R168, R200). -/
def tableWords (t : Tables) : List Word :=
  commitWords t.angleCommit t.angleActiveB t.angleValid ++ commitWords t.refCommit t.refActiveB t.refValid
    ++ commitWords t.paramsCommit false t.paramsValid

/-- The 52 named words of the identification and operating status region (R200). -/
def identWords (s : State) : List Word :=
  [pack (field 0x3160 16 16 + field s.nodeId.toNat 8 0)] ++ supervisorWords s.sup ++ [tripWord s.sup.trip]
    ++ historyWords s.sup.history ++ portWords s.pn ++ portWords s.ps ++ mergeWords s ++ trackerWords s
    ++ engineWords s.engine ++ tableWords s.tables ++ [pack (field s.agent.queue.length 3 0)]

/-- The eight words of a branch in the pass record (R124). -/
def branchWords (b : BranchResult) : List Word :=
  [int32 b.demand, int32 b.target, pack b.reactor, pack b.conduction, pack b.alpha, b.flagWord, 0, 0]

/-- The named words of the pass record (R124). -/
def recordWords (r : PassRecord) : List Word :=
  [pack r.number.toNat, r.boundary, r.quality.word, r.flags.word, int32 r.v1.re, int32 r.v1.im, int32 r.v2.re,
   int32 r.v2.im, pack r.mag1, pack r.mag2, int32 r.i1q, int32 r.x, int32 r.y, int32 r.e, int32 r.t,
   pack (field (modeCode r.mode) 8 0 + field (targetCode r.target) 8 8)]
    ++ branchWords r.branches[0] ++ branchWords r.branches[1] ++ branchWords r.branches[2]

/-- The named words of a channel record (R153). -/
def channelWords (c : Channel) : List Word :=
  [pack (channelCode c.state), pack c.alpha, pack (field c.pendingAlpha 16 0 + field (bit c.pendingValid) 1 16),
   pack (bit (c.buffering == .single) + 2 * bit (c.style == .sustain) + 4 * bit (c.halfStyle == .sustain)
     + field (bit c.blockAck) 1 8),
   c.loadPoint, c.nextLoadPoint, c.fire, c.issue, c.latest, pack c.lastPulse, c.capturePosition, int32 c.captureError,
   pack c.misses, pack (outcomeCode c.outcome)]

/-- The seven counters of a stream (R51, words 6 to 12). -/
def streamCounters (s : State) (i : StreamId) : List Word :=
  [s.counter (.stream i 0), s.counter (.stream i 1), s.counter (.stream i 2), s.counter (.stream i 3),
   s.counter (.stream i 4), s.counter (.stream i 5), s.counter (.stream i 6)]

/-- The named words of a stream status record (R51). -/
def streamWords (s : State) (i : StreamId) : List Word :=
  let x := s.merge.status[i]
  [pack (streamCode x.state), pack x.filled, pack x.missing, int32 x.last.a, int32 x.last.b, int32 x.last.c]
    ++ streamCounters s i

/-- The named words of a port configuration record (R23). -/
def portConfigWords (p : Port) : List Word := [pack (bit p.oneWay), pack p.hiErrThreshold, pack p.accessPriority]

/-- Arrival port code (R25). -/
def arrivalCode : ArrivalMatch → Nat
  | .north => 0 | .south => 1 | .either => 2

/-- Action code (R25). -/
def actionCode : FwdAction → Nat
  | .consume => 0 | .forward => 1 | .copy => 2 | .drop => 3

/-- Destination mode code (R25). -/
def destCode : DestMode → Nat
  | .own => 0 | .given => 1 | .broadcast => 2 | .any => 3

/-- The four words of a forwarding entry (R25). -/
def fwdWords (e : FwdEntry) : List Word :=
  [pack (bit e.enable + field (arrivalCode e.arrival) 2 1 + field (actionCode e.action) 2 4 + field (bit e.classPass) 1 6),
   pack (e.kind.toNat + field (bit e.kindAny) 1 8), pack (e.dest.toNat + field (destCode e.destMode) 2 8),
   pack (e.source.toNat + field (bit e.sourceAny) 1 8)]

/-- One phase of a channel map in the bits from `shift` on (R48). -/
def mapBits (m : ChannelMap) (shift : Nat) : Nat := field m.index 3 shift + field (bit m.invert) 1 (shift + 3)

/-- The four words of a stream entry (R48). -/
def streamEntryWords (e : StreamEntry) : List Word :=
  [pack (bit e.enable + field (roleCode e.role) 2 1 + field (bit e.acceptTest) 1 3 + field e.source.toNat 8 8),
   pack (mapBits e.mapA 0 + mapBits e.mapB 4 + mapBits e.mapC 8), pack e.gain.toNat, pack e.holdLimit.toNat]

/-- The four words of a window entry (R196). -/
def windowWords (w : Window) : List Word :=
  [pack (bit w.enable + 2 * bit w.translate + 4 * bit w.readOnly + 8 * bit w.forcePosted), w.base, w.mask, w.value]

/-- The two words of a notice vector entry (R203). -/
def noticeWords (e : NoticeEntry) : List Word :=
  [pack (bit e.enable + 2 * bit (e.route == .south) + field e.vector.toNat 8 8 + field e.dest.toNat 8 16),
   pack (bit e.pending + field e.repeats 8 8)]

/-- Word i of a region of records of `size` words each, the records given by number. -/
def recordWord {n : Nat} (records : Fin n → List Word) (size i : Nat) : Word :=
  if h : i / size < n then wordOf (records ⟨i / size, h⟩) (i % size) else 0

/-- Word i of a region, as it stands (R199). -/
def readWord (r : Region) (i : Nat) (s : State) : Word :=
  match r with
  | .ident => wordOf (identWords s) i
  | .passRecord => wordOf (recordWords s.engine.record) i
  | .channels => recordWord (fun v : Fin 6 => channelWords s.channels[v]) 16 i
  | .streamStatus => recordWord (fun k : Fin 8 => streamWords s k) 16 i
  | .counters => if h : i < 297 then s.counters[i] else 0
  | .portConfig => recordWord (fun p : Fin 2 => portConfigWords (if p = 0 then s.pn else s.ps)) 8 i
  | .forwarding => recordWord (fun k : Fin 16 => fwdWords s.fwd[k]) 4 i
  | .streamTable => recordWord (fun k : Fin 8 => streamEntryWords s.merge.table[k]) 4 i
  | .windows => recordWord (fun k : Fin 8 => windowWords s.agent.windows[k]) 4 i
  | .vectors => recordWord (fun k : Fin 22 => noticeWords s.notices[k]) 2 i
  | .staged => if h : i < 64 then s.tables.staged[i] else 0
  | .angleStandby => if h : i < 257 then s.tables.angleStandby[i] else 0
  | .refStandby => if h : i < 128 then s.tables.refStandby[i] else 0
  | .angleActive => if h : i < 257 then s.tables.angleActive[i] else 0
  | .refActive => if h : i < 128 then s.tables.refActive[i] else 0

/-- `count` words of a region from word `i` on, in address order (R198). -/
def readWords (r : Region) (s : State) : Nat → Nat → List Word
  | _, 0 => []
  | i, n + 1 => readWord r i s :: readWords r s (i + 1) n

end Sys2Proof.Machine
end

