-- ==== Sys2Proof/Machine/RegionWrite.lean ====
section
/-! DEFINITION. What the owning rule of each writable region does with a write request (R23, R25, R34, R48 to R50, R158, R159, R196,
R199, R203). Each takes the request whole or refuses it whole. -/

namespace Sys2Proof.Machine

/-- Bits `shift` to `shift + w − 1` of a word. -/
def bitsOf (x : Word) (shift w : Nat) : Nat := x.toNat / 2 ^ shift % 2 ^ w

/-- Words of a request with their places in the region, from place `i` on. -/
def placed : Nat → List Word → List (Nat × Word)
  | _, [] => []
  | i, w :: ws => (i, w) :: placed (i + 1) ws

/-- A word of the port configuration region lies in its range (R23). -/
def portWordOk (x : Nat × Word) : Bool :=
  match x.1 % 8 with
  | 0 => inRange 0 1 x.2
  | 1 => inRange 1 255 x.2
  | 2 => inRange 1 15 x.2
  | _ => true

/-- ACCESS initial priority written (R34): the effective priority keeps what credit it has. -/
def setAccessPriority (p : PortId) (n : Nat) (s : State) : State :=
  s.modPort p (fun x => { x with accessPriority := n, effAccess := min x.effAccess n })

/-- The port of a word of the port configuration region: PN at words 0 to 7, PS at words 8 to 15. -/
def portOfWord (i : Nat) : PortId := if i < 8 then .north else .south

/-- One word of an accepted write to the port configuration region (R15, R23, R34). -/
def applyPortWord (s : State) (x : Nat × Word) : State :=
  match x.1 % 8 with
  | 0 => setOneWay (portOfWord x.1) (x.2 == 1) s
  | 1 => s.modPort (portOfWord x.1) (fun p => { p with hiErrThreshold := x.2.toNat })
  | 2 => setAccessPriority (portOfWord x.1) x.2.toNat s
  | _ => s

/-- A write to the port configuration region (R23, R199), its words applied in address order (R34; the model's choice, assumption
25: a word 0 that ends readiness goes before a word 2 with a new priority). -/
def writePortConfig (i : Nat) (ws : List Word) (s : State) : Status × State :=
  if (placed i ws).all portWordOk then (.ok, (placed i ws).foldl applyPortWord s) else (.badArgument, s)

/-- Arrival port of a code (R25); code 3 is refused. -/
def arrivalOf (n : Nat) : ArrivalMatch := if n = 0 then .north else if n = 1 then .south else .either

/-- Action of a code (R25). -/
def actionOf (n : Nat) : FwdAction := if n = 0 then .consume else if n = 1 then .forward else if n = 2 then .copy else .drop

/-- Destination mode of a code (R25). -/
def destModeOf (n : Nat) : DestMode := if n = 0 then .own else if n = 1 then .given else if n = 2 then .broadcast else .any

/-- A forwarding entry with word k written (R25). -/
def FwdEntry.write (e : FwdEntry) (k : Nat) (w : Word) : FwdEntry :=
  match k with
  | 0 => { e with enable := w.getLsbD 0, arrival := arrivalOf (bitsOf w 1 2), action := actionOf (bitsOf w 4 2),
                  classPass := w.getLsbD 6 }
  | 1 => { e with kind := w.extractLsb' 0 8, kindAny := w.getLsbD 8 }
  | 2 => { e with dest := w.extractLsb' 0 8, destMode := destModeOf (bitsOf w 8 2) }
  | _ => { e with source := w.extractLsb' 0 8, sourceAny := w.getLsbD 8 }

/-- A word of the forwarding region is admitted: word 0 of an entry with an arrival port code of 3 is refused (R25). -/
def fwdWordOk (x : Nat × Word) : Bool := x.1 % 4 != 0 || bitsOf x.2 1 2 != 3

/-- One word of an accepted write to the forwarding table (R25). -/
def applyFwdWord (s : State) (x : Nat × Word) : State :=
  if h : x.1 / 4 < 16 then { s with fwd := s.fwd.set (x.1 / 4) (s.fwd[x.1 / 4].write (x.1 % 4) x.2) h } else s

/-- A write to the forwarding table (R25). -/
def writeForwarding (i : Nat) (ws : List Word) (s : State) : Status × State :=
  if (placed i ws).all fwdWordOk then (.ok, (placed i ws).foldl applyFwdWord s) else (.badArgument, s)

/-- Role of a code (R48); code 3 is refused. -/
def roleOf (n : Nat) : Role := if n = 0 then .feeder else if n = 1 then .voltageMain else .voltageStandby

/-- A phase of a channel map from the bits of word 1 (R48). -/
def mapOf (w : Word) (shift : Nat) : ChannelMap :=
  { index := ⟨bitsOf w shift 3, Nat.mod_lt _ (by decide)⟩, invert := w.getLsbD (shift + 3) }

/-- A stream entry with word k written (R48). -/
def StreamEntry.write (e : StreamEntry) (k : Nat) (w : Word) : StreamEntry :=
  match k with
  | 0 => { e with enable := w.getLsbD 0, role := roleOf (bitsOf w 1 2), acceptTest := w.getLsbD 3,
                  source := w.extractLsb' 8 8 }
  | 1 => { e with mapA := mapOf w 0, mapB := mapOf w 4, mapC := mapOf w 8 }
  | 2 => { e with gain := w.extractLsb' 0 16 }
  | _ => { e with holdLimit := w.extractLsb' 0 8 }

/-- Word 0 of a stream entry with role code 3 is refused (R49). -/
def streamWordOk (x : Nat × Word) : Bool := x.1 % 4 != 0 || bitsOf x.2 1 2 != 3

/-- One word of a write to the stream table. -/
def applyStreamWord (t : Vector StreamEntry 8) (x : Nat × Word) : Vector StreamEntry 8 :=
  if h : x.1 / 4 < 8 then t.set (x.1 / 4) (t[x.1 / 4].write (x.1 % 4) x.2) h else t

/-- The stream table as it would stand after a write (R49). -/
def streamTableAfter (i : Nat) (ws : List Word) (t : Vector StreamEntry 8) : Vector StreamEntry 8 :=
  (placed i ws).foldl applyStreamWord t

/-- A write to the stream table (R49, R50). -/
def writeStreamTable (i : Nat) (ws : List Word) (s : State) : Status × State :=
  let t := streamTableAfter i ws s.merge.table
  if (placed i ws).all streamWordOk && streamTableOk t then (.ok, applyStreamTable t s) else (.badArgument, s)

/-- A window entry with word k written (R196). -/
def Window.write (e : Window) (k : Nat) (w : Word) : Window :=
  match k with
  | 0 => { e with enable := w.getLsbD 0, translate := w.getLsbD 1, readOnly := w.getLsbD 2, forcePosted := w.getLsbD 3 }
  | 1 => { e with base := w }
  | 2 => { e with mask := w }
  | _ => { e with value := w }

/-- One word of a write to the window table (R196). -/
def applyWindowWord (s : State) (x : Nat × Word) : State :=
  if h : x.1 / 4 < 8 then
    { s with agent := { s.agent with
        windows := s.agent.windows.set (x.1 / 4) (s.agent.windows[x.1 / 4].write (x.1 % 4) x.2) h } }
  else s

/-- A write to the window table: every value is accepted (R196). -/
def writeWindows (i : Nat) (ws : List Word) (s : State) : Status × State :=
  (.ok, (placed i ws).foldl applyWindowWord s)

/-- A vector entry with word 0 written (R203): a change of enable from 1 to 0 clears the pending flag, the repeat count and
the latest detail. -/
def NoticeEntry.write (e : NoticeEntry) (w : Word) : NoticeEntry :=
  let e1 := { e with enable := w.getLsbD 0, route := if w.getLsbD 1 then .south else .north, vector := w.extractLsb' 8 8,
                     dest := w.extractLsb' 16 8 }
  if e.enable && !e1.enable then { e1 with pending := false, repeats := 0, latest := none } else e1

/-- One word of a write to the vector table (R203): word 1 of an entry takes no effect. -/
def applyVectorWord (s : State) (x : Nat × Word) : State :=
  if h : x.1 / 2 < 22 then
    (if x.1 % 2 = 0 then s.setNotice ⟨x.1 / 2, h⟩ (s.notices[x.1 / 2].write x.2) else s)
  else s

/-- A write to the vector table: every value is accepted (R203). -/
def writeVectors (i : Nat) (ws : List Word) (s : State) : Status × State :=
  (.ok, (placed i ws).foldl applyVectorWord s)

/-- One word of an accepted write of zeros to the counters region (R199). -/
def clearCounterWord (s : State) (x : Nat × Word) : State :=
  if h : x.1 < 297 then { s with counters := s.counters.set x.1 0 h } else s

/-- A write to the counters region (R199). -/
def writeCounters (i : Nat) (ws : List Word) (s : State) : Status × State :=
  if ws.all (fun w => w == 0) then (.ok, (placed i ws).foldl clearCounterWord s) else (.badArgument, s)

/-- A vector of words with one word written where it lies inside. -/
def setWord {n : Nat} (t : Vector Word n) (x : Nat × Word) : Vector Word n := if h : x.1 < n then t.set x.1 x.2 h else t

/-- A vector of words with a request's words written. -/
def setWords {n : Nat} (t : Vector Word n) (i : Nat) (ws : List Word) : Vector Word n := (placed i ws).foldl setWord t

/-- The staged record with one word written; the unnamed words are not stored (R158, R159). -/
def setStagedWord (t : ParamRecord) (x : Nat × Word) : ParamRecord := if paramUnnamed x.1 then t else setWord t x

/-- The staged record with a request's words written. -/
def setStagedWords (t : ParamRecord) (i : Nat) (ws : List Word) : ParamRecord := (placed i ws).foldl setStagedWord t

/-- The standby or staged content of a table with a request's words written (R158). -/
def Tables.writeStandby (t : Tables) (id : TableId) (i : Nat) (ws : List Word) : Tables :=
  match id with
  | .angle => if t.angleActiveB then { t with angleA := setWords t.angleA i ws } else { t with angleB := setWords t.angleB i ws }
  | .reference => if t.refActiveB then { t with refA := setWords t.refA i ws } else { t with refB := setWords t.refB i ws }
  | .parameters => { t with staged := setStagedWords t.staged i ws }

/-- A write to a standby bank or the staged record (R158). -/
def writeStandby (id : TableId) (i : Nat) (ws : List Word) (s : State) : Status × State :=
  if (s.tables.commit id).state == .idle then (.ok, s.setTables (s.tables.writeStandby id i ws)) else (.busy, s)

/-- A write handed whole to the owning rule of its region (R199). The read-only regions never reach it (R195, test 6). -/
def writeRegion (r : Region) (i : Nat) (ws : List Word) (s : State) : Status × State :=
  match r with
  | .portConfig => writePortConfig i ws s
  | .forwarding => writeForwarding i ws s
  | .streamTable => writeStreamTable i ws s
  | .windows => writeWindows i ws s
  | .vectors => writeVectors i ws s
  | .counters => writeCounters i ws s
  | .staged => writeStandby .parameters i ws s
  | .angleStandby => writeStandby .angle i ws s
  | .refStandby => writeStandby .reference i ws s
  | .ident => (.readOnly, s)
  | .passRecord => (.readOnly, s)
  | .channels => (.readOnly, s)
  | .streamStatus => (.readOnly, s)
  | .angleActive => (.readOnly, s)
  | .refActive => (.readOnly, s)

end Sys2Proof.Machine
end

