-- ==== Sys2Proof/Machine/Reset.lean ====
section
/-! DEFINITION. The two resets of the running part: power-on reset as a command (R24, R42, R68, R87, R108, R128, R155, R169, R191,
R207) and the warm-reset state of every block (R43, R69, R88, R109, R129, R156, R170, R192, R207). -/

namespace Sys2Proof.Machine

/-- Power-on reset of the running part: every block takes its power-on state, the commands still waiting and the signal
detectors stay what the outside makes them, and R11 looks at the signals (assumption 9). -/
def powerOnReset (straps : Byte) (s : State) : State :=
  applyR11 .south (applyR11 .north { State.powerOn straps s.pn.signal s.ps.signal with pending := s.pending })

/-- The transmit scheduling of a port after a warm reset (R43): ACCESS kept, the other three queues emptied uncounted, the
effective priorities initial. -/
def Port.warmReset (p : Port) : Port :=
  { p with timed := [], measure := [], pass := [], effAccess := p.accessPriority, effMeasure := 4, effPass := 6 }

/-- A stream's status after a warm reset (R69). -/
def StreamStatus.warmReset (x : StreamStatus) (enable : Bool) : StreamStatus :=
  { x with state := if enable then .silent else .disabled, filled := 0, missing := 0 }

/-- A stream's status record replaced by its warm-reset one. -/
def warmResetStream (m : Merge) (i : StreamId) : Merge :=
  { m with status := m.status.set i (m.status[i].warmReset m.table[i].enable) }

/-- The merge unit after a warm reset at pace count P (R69). -/
def Merge.warmReset (m : Merge) (p : Word) : Merge :=
  { streamIds.foldl warmResetStream m with rows := [], lastClosed := p, selection := .none, mainRun := 0, history := [] }

/-- The engine after a warm reset (R109, R129). -/
def Engine.warmReset (e : Engine) : Engine :=
  { e with inFlight := none, pendingBoundaries := [], mode := .auto, rememberedManual := false }

/-- A channel after a warm reset, before its BLOCK command (R156). The pending angle becomes invalid, and the value that bits 15
to 0 of channel word 2 read for it stays the old one (R153; the model's choice, assumption 30). -/
def Channel.warmReset (c : Channel) : Channel :=
  { c with state := .blocked, alpha := 32768, pendingValid := false, misses := 0, blockAck := false }

/-- A commit after a warm reset (R170): a check or a pending exchange is cancelled. -/
def Commit.warmReset (c : Commit) : Commit :=
  match c.state with
  | .idle => c
  | _ => { c with state := .idle, timer := 0, result := .cancelled, failing := 0 }

/-- The table store after a warm reset (R170). -/
def Tables.warmReset (t : Tables) : Tables :=
  { t with angleCommit := t.angleCommit.warmReset, refCommit := t.refCommit.warmReset,
           paramsCommit := t.paramsCommit.warmReset }

/-- The supervisor after a warm reset (R192): TRIPPED stays, every other state moves to OFF without an event, and the
permissive record follows the other blocks' reset states. With TRACKER not met the permissives do not hold, so the entry
into OFF goes no further. -/
def Supervisor.warmReset (u : Supervisor) (feeders : Bool) : Supervisor :=
  { u with state := if u.state = .tripped then .tripped else .off, recovery := 0, holding := 0, ramp := false,
           items := { u.items with tracker := false, voltage := false, feeders := feeders,
                                   notTripped := u.state != .tripped } }

/-- A notice source after a warm reset (R207). -/
def NoticeEntry.warmReset (e : NoticeEntry) : NoticeEntry := { e with pending := false, repeats := 0, latest := none }

/-- One channel takes the warm reset (R156): BLOCKED, and a BLOCK command where PS is in UP. -/
def warmResetChannel (s : State) (v : ValveId) : State :=
  let s1 := s.setChannel v (s.channel v).warmReset
  if s1.ps.link == .up then issueGate (plainCommand v .block) s1 else s1

/-- The notice sources, in order. -/
def sourceIds : List SourceId := [0, 1, 2, 3, 4, 5, 6, 7, 8, 9, 10, 11, 12, 13, 14, 15, 16, 17, 18, 19, 20, 21]

/-- One notice source takes the warm reset (R207). -/
def warmResetNotice (s : State) (n : SourceId) : State := s.setNotice n s.notices[n].warmReset

/-- Every block but the channels, the supervisor and the notice unit takes its warm-reset state. -/
def warmResetBlocks (s : State) : State :=
  { s with pn := s.pn.warmReset, ps := s.ps.warmReset, merge := s.merge.warmReset s.pace.count,
           tracker := s.tracker.setFree, engine := s.engine.warmReset, tables := s.tables.warmReset }

/-- Stage 1 of a warm reset (R202): the queues are emptied, the blocks take their states, the channels issue their BLOCK commands
in valve order, and the supervisor and the notice unit follow. -/
def warmResetAll (s : State) : State :=
  let s1 := valveIds.foldl warmResetChannel (warmResetBlocks s)
  sourceIds.foldl warmResetNotice (s1.setSup (s1.sup.warmReset s1.merge.feedersMet))

end Sys2Proof.Machine
end

