-- ==== Sys2Proof/Machine/Agent.lean ====
section
/-! DEFINITION. The access agent and the commands (R193 to R199, R202, R205). -/

namespace Sys2Proof.Machine

/-- The access agent replaced. -/
def State.setAgent (s : State) (a : Agent) : State := { s with agent := a }

/-- ACCESS_ERROR detail (R197). -/
def accessErrorDetail (r : Request) (status : Status) : Word :=
  BitVec.ofNat 32 (field r.tag.toNat 16 16 + field r.operation.toNat 8 8 + field (statusCode status) 8 0)

/-- The reply of a request offered to the ACCESS queue of its arrival port (R198). -/
def sendReply (r : Request) (status : Status) (data : List Word) (s : State) : State :=
  offer r.port .access (.reply r.source r.tag status data) s

/-- What the requester is told (R197, R198): a posted request gets no reply, and raises ACCESS_ERROR where its status is not OK. -/
def answer (posted : Bool) (r : Request) (status : Status) (data : List Word) (s : State) : State :=
  if posted then raiseIf (status != .ok) srcAccessError (accessErrorDetail r status) s else sendReply r status data s

/-- A request reaches the access agent (R193). -/
def queueRequest (r : Request) (s : State) : State :=
  if s.agent.queue.length < 4 then s.setAgent { s.agent with queue := s.agent.queue ++ [r] }
  else answer (r.operation == 3#8) r .busy [] (bump .refusedAtArrival s)

/-- An address hits an enabled window (R196). -/
def Window.hit (w : Window) (a : Word) : Bool := w.enable && (a &&& w.mask == w.base &&& w.mask)

/-- The first window hit, in index order (R196). -/
def firstHit (a : Word) (ws : Vector Window 8) : Option Window :=
  (streamIds.map (fun i => ws[i])).find? (fun w => w.hit a)

/-- The translated address (R196). -/
def Window.translated (w : Window) (a : Word) : Word := if w.translate then w.value ||| (a &&& ~~~ w.mask) else a

/-- The region and first word of an access whose first and last words lie in one region (R195, test 5). -/
def regionSpan (first : Word) (count : Nat) : Option (Region × Nat) :=
  match regionOf first.toNat with
  | none => none
  | some r => if r.holds (first.toNat + count - 1) then some (r, first.toNat - r.base) else none

/-- The operation is a write (R195, tests 4 and 6). -/
def Request.isWrite (r : Request) : Bool := r.operation == 2#8 || r.operation == 3#8

/-- What a request meets before its region (R195, tests 1 to 6): the status that decides it, or the region and word. -/
def accessTarget (r : Request) (s : State) : Except Status (Region × Nat) :=
  if !(r.operation == 1#8 || r.isWrite) then .error .badArgument
  else if r.count.toNat < 1 ∨ 32 < r.count.toNat then .error .badCount
  else
    match firstHit r.address s.agent.windows with
    | none => .error .noWindow
    | some w =>
      if r.isWrite && w.readOnly then .error .readOnly
      else
        match regionSpan (w.translated r.address) r.count.toNat with
        | none => .error .badAddress
        | some (g, i) => if r.isWrite && !g.writable then .error .readOnly else .ok (g, i)

/-- The outcome of a READ, WRITE or WRITE_POSTED (R195, R199): its status, the words read, and the state after its effect. -/
structure AccessResult where
  status : Status
  data : List Word
  state : State
deriving DecidableEq, Repr

/-- A READ, WRITE or WRITE_POSTED takes effect, or is refused (R195, R199). -/
def accessOutcome (r : Request) (s : State) : AccessResult :=
  match accessTarget r s with
  | .error e => { status := e, data := [], state := s }
  | .ok (g, i) =>
    if r.isWrite then
      let w := writeRegion g i r.data s
      { status := w.1, data := [], state := w.2 }
    else { status := .ok, data := readWords g s i r.count.toNat, state := s }

/-- A WRITE is taken as posted from test 3 on where its window forces it (R197). -/
def forcedPosted (r : Request) (s : State) : Bool :=
  match firstHit r.address s.agent.windows with
  | none => false
  | some w => r.operation == 2#8 && w.forcePosted && decide (1 ≤ r.count.toNat ∧ r.count.toNat ≤ 32)

/-- A request gets no reply (R197). -/
def isPosted (r : Request) (s : State) : Bool := r.operation == 3#8 || forcedPosted r s

/-- The request leaves the queue where it stands at its head (R194). -/
def dequeue (r : Request) (s : State) : State :=
  if s.agent.queue.head? = some r then s.setAgent { s.agent with queue := s.agent.queue.tail } else s

/-- The service of a READ, WRITE, WRITE_POSTED or of an unknown operation (R194, R195). -/
def serveAccess (r : Request) (s : State) : State :=
  let posted := isPosted r s
  let o := accessOutcome r s
  dequeue r (answer posted r o.status o.data (bump .requestsServed o.state))

/-- The service of a COMMAND with the effect of its command (R194, R202). -/
def serveCommand (r : Request) (effect : State → Status × State) (s : State) : State :=
  let o := effect s
  dequeue r (sendReply r o.1 [] (bump .requestsServed o.2))

/-- RETRAIN (R17, R202). -/
def retrainEffect (arg : Word) (s : State) : Status × State :=
  if arg = 0#32 then (.ok, retrainPort .north s)
  else if arg = 1#32 then (.ok, retrainPort .south s)
  else (.badArgument, s)

/-- A pending source cleared (R205). -/
def clearSource (n : SourceId) (s : State) : State :=
  let e := s.notices[n]
  if e.pending then
    (if e.repeats = 0 then s.setNotice n { e with pending := false, latest := none }
     else sendNotice n e.repeats (e.latest.getD 0) s)
  else s

/-- CLEAR_NOTICE (R205). -/
def clearNoticeEffect (arg : Word) (s : State) : Status × State :=
  if h : arg.toNat < 22 then (.ok, clearSource ⟨arg.toNat, h⟩ s) else (.badArgument, s)

/-- The requests behind a WARM_RESET (R202): those after it where it stands at the head, and every one where it does not. -/
def behind (r : Request) (q : List Request) : List Request := if q.head? = some r then q.tail else q

/-- Each discarded request is counted (R202). -/
def countDiscarded (q : List Request) (s : State) : State := q.foldl (fun s _ => bump .discardedByReset s) s

/-- The service of a WARM_RESET (R202): reset, reply, discard. -/
def serveWarmReset (r : Request) (s : State) : State :=
  let s1 := sendReply r .ok [] (bump .requestsServed (warmResetAll s))
  countDiscarded (behind r s1.agent.queue) (s1.setAgent { s1.agent with queue := [] })

/-- The argument of a COMMAND request: its one data word. -/
def Request.argument (r : Request) : Word := r.data.headD 0

/-- The effect of a command code other than WARM_RESET (R202); a code that R202 does not name has the status BAD_ADDRESS
(R195). -/
def commandEffect (code arg : Word) (s : State) : Status × State :=
  if code = 0x01#32 then startEffect s
  else if code = 0x02#32 then stopEffect s
  else if code = 0x03#32 then holdEffect s
  else if code = 0x04#32 then releaseEffect s
  else if code = 0x05#32 then setModeEffect arg s
  else if code = 0x06#32 then setManualEffect arg s
  else if code = 0x07#32 then commitEffect arg s
  else if code = 0x08#32 then resetTripEffect s
  else if code = 0x0A#32 then retrainEffect arg s
  else if code = 0x0B#32 then clearNoticeEffect arg s
  else if code = 0x0C#32 then setBufferingEffect arg s
  else if code = 0x0D#32 then setStyleEffect arg s
  else (.badAddress, s)

/-- The service of a request (R194). -/
def serveRequest (r : Request) (s : State) : State :=
  if r.operation = 4#8 then
    (if r.address = 0x09#32 then serveWarmReset r s else serveCommand r (commandEffect r.address r.argument) s)
  else serveAccess r s

end Sys2Proof.Machine
end

