-- ==== Sys2Proof/Machine/Commands.lean ====
section
/-! DEFINITION. The meanings of the thirteen commands of R202: each row is the service of a COMMAND request with the row's code (R194,
R198). -/

namespace Sys2Proof.Machine

/-- START (R183). -/
def execStart (r : CommandRequest) (s : State) : Host.Outcome State Fault Refusal :=
  .next (serveCommand (commandRequest 0x01 r) startEffect s)

/-- STOP (R184). -/
def execStop (r : CommandRequest) (s : State) : Host.Outcome State Fault Refusal :=
  .next (serveCommand (commandRequest 0x02 r) stopEffect s)

/-- HOLD (R115). -/
def execHold (r : CommandRequest) (s : State) : Host.Outcome State Fault Refusal :=
  .next (serveCommand (commandRequest 0x03 r) holdEffect s)

/-- RELEASE (R115). -/
def execRelease (r : CommandRequest) (s : State) : Host.Outcome State Fault Refusal :=
  .next (serveCommand (commandRequest 0x04 r) releaseEffect s)

/-- SET_MODE (R115). -/
def execSetMode (r : CommandRequest) (s : State) : Host.Outcome State Fault Refusal :=
  .next (serveCommand (commandRequest 0x05 r) (setModeEffect r.argument) s)

/-- SET_MANUAL_L (R116). -/
def execSetManualL (r : CommandRequest) (s : State) : Host.Outcome State Fault Refusal :=
  .next (serveCommand (commandRequest 0x06 r) (setManualEffect r.argument) s)

/-- COMMIT (R160). -/
def execCommit (r : CommandRequest) (s : State) : Host.Outcome State Fault Refusal :=
  .next (serveCommand (commandRequest 0x07 r) (commitEffect r.argument) s)

/-- RESET_TRIP (R185). -/
def execResetTrip (r : CommandRequest) (s : State) : Host.Outcome State Fault Refusal :=
  .next (serveCommand (commandRequest 0x08 r) resetTripEffect s)

/-- RETRAIN (R17). -/
def execRetrain (r : CommandRequest) (s : State) : Host.Outcome State Fault Refusal :=
  .next (serveCommand (commandRequest 0x0A r) (retrainEffect r.argument) s)

/-- CLEAR_NOTICE (R205). -/
def execClearNotice (r : CommandRequest) (s : State) : Host.Outcome State Fault Refusal :=
  .next (serveCommand (commandRequest 0x0B r) (clearNoticeEffect r.argument) s)

/-- SET_BUFFERING (R141). -/
def execSetBuffering (r : CommandRequest) (s : State) : Host.Outcome State Fault Refusal :=
  .next (serveCommand (commandRequest 0x0C r) (setBufferingEffect r.argument) s)

/-- SET_STYLE (R137). -/
def execSetStyle (r : CommandRequest) (s : State) : Host.Outcome State Fault Refusal :=
  .next (serveCommand (commandRequest 0x0D r) (setStyleEffect r.argument) s)

/-- WARM_RESET (R202). -/
def execWarmReset (r : CommandRequest) (s : State) : Host.Outcome State Fault Refusal :=
  .next (serveWarmReset (commandRequest 0x09 r) s)

end Sys2Proof.Machine
end

