-- ==== Sys2Proof/Machine/Tracker.lean ====
section
/-! DEFINITION. The grid tracker: positions reached, phase steps, the per-pass update, and the advance of G (R71 to
R85). -/

namespace Sys2Proof.Machine

/-- G reaches the next TIMEMARK position (R74). -/
def timemarkReached (s : State) : State :=
  (offer .south .timed .timemark s).setTracker
    { s.tracker with nextTimemark := s.tracker.nextTimemark + 32768#32 }

/-- G reaches the next pass boundary (R75): the boundary rises by 32768 and the reached one is announced, in this order (the
model's choice, assumption 6: it shows where the pass start activates another passPhase). -/
def boundaryReached (s : State) : State :=
  announceBoundary s.tracker.nextBoundary
    (s.setTracker { s.tracker with nextBoundary := s.tracker.nextBoundary + 32768#32 })

/-- A watched position and its holder (R72). -/
inductive Watched where
  | timemark
  | boundary
  | loadPoint (v : ValveId)
  | issue (v : ValveId)
deriving DecidableEq, Repr

/-- The positions watched now (R72, R130): the issue position only of a channel that is ARMED. -/
def watchedPositions (s : State) : List (Watched × Pos) :=
  [(.timemark, s.tracker.nextTimemark), (.boundary, s.tracker.nextBoundary)]
    ++ valveIds.map (fun v => (.loadPoint v, (s.channel v).nextLoadPoint))
    ++ (valveIds.filter (fun v => (s.channel v).state == .armed)).map (fun v => (.issue v, (s.channel v).issue))

/-- The first of the reached positions in order of position; holders of equal positions in the list's order (R80,
assumption 6). -/
def earliestReached (s : State) : Option Watched :=
  ((watchedPositions s).foldl (fun (best : Option (Watched × Pos)) w =>
    if reached w.2 s then
      match best with
      | none => some w
      | some b => if isBefore w.2 b.2 then some w else some b
    else best) none).map Prod.fst

/-- The holder of a reached position acts (R74, R75, R131, R136). -/
def reach (w : Watched) (s : State) : State :=
  match w with
  | .timemark => timemarkReached s
  | .boundary => boundaryReached s
  | .loadPoint v => loadPointReached v s
  | .issue v => issuePositionReached v s

/-- Every watched position that a forward step has reached, in order of position (R80), at most `fuel` of them. -/
def reachAll : Nat → State → State
  | 0, s => s
  | fuel + 1, s =>
    match earliestReached s with
    | none => s
    | some w => reachAll fuel (reach w s)

/-- Positions a forward step may reach: each of the 14 series holds one next position and a step is at most 364 gu. -/
def reachFuel : Nat := 32

/-- The internal G moved by a signed number of grid units; the sub-fraction is kept (R79). -/
def moveG (g : BitVec 48) (gu : Int) : BitVec 48 := g + BitVec.ofInt 48 (gu * 65536)

/-- The divisor of the phase correction at a gain step: 16, 8, 4, 2 (R79). -/
def phaseDivisor (gain : Nat) : Nat := 2 ^ (4 - gain)

/-- The factor of the frequency correction at a gain step: 64, 128, 256, 512 (R81). -/
def frequencyFactor (gain : Nat) : Nat := 64 * 2 ^ gain

/-- The phase correction before saturation (R79). -/
def phaseCorrection (gain : Nat) (e : Int) : Int := roundDiv e (phaseDivisor gain)

/-- The tracker's state and runs after a completion that delivers e, stage 1 (R77). -/
def Tracker.withE (t : Tracker) (p : ParamRecord) (e : Int) : Tracker :=
  let small := decide (e.natAbs ≤ pLockThreshold p)
  let large := decide (pUnlockThreshold p < e.natAbs)
  match t.state with
  | .free => { t with state := .pullIn, gain := 3, lockRun := bit small, lastE := e }
  | .holdover => { t with state := .pullIn, holdoverRun := 0, lockRun := bit small, lastE := e }
  | .pullIn =>
    if small then
      (if 8 ≤ t.lockRun + 1 then { t with state := .locked, lockRun := t.lockRun + 1, unlockRun := 0, lastE := e }
       else { t with lockRun := t.lockRun + 1, lastE := e })
    else { t with lockRun := 0, lastE := e }
  | .locked =>
    if large then
      (if 2 ≤ t.unlockRun + 1 then { t with state := .pullIn, unlockRun := t.unlockRun + 1, lockRun := 0, lastE := e }
       else { t with unlockRun := t.unlockRun + 1, lastE := e })
    else { t with unlockRun := 0, lastE := e }

/-- TRACKER_STATE detail (R85). -/
def trackerDetail (old new : TrackerState) (e : Int) : Word :=
  BitVec.ofNat 32 (field (trackerCode old) 8 24 + field (trackerCode new) 8 16 + field (int16 e) 16 0)

/-- A change of the tracker state told: its event first, then the supervisor's taking of it (R85, R172, R176; the order is the
model's choice, assumption 6). The supervisor takes it at once, with the block entry, the purge and the channel blocks that may
follow, and so before the later stages of the same completion (the model's choice too, assumption 6). -/
def tellTracker (old new : TrackerState) (e : Int) (s : State) : State :=
  if old = new then s else trackerChanged old new (raise srcTrackerState (trackerDetail old new e) s)

/-- Stage 1 of a completion with e (R77, R83). The supervisor takes a change of the tracker state inside this stage, before the phase
step, FREQ_LIMIT and the gain step of the same completion (the model's choice, assumption 6): a channel that the change blocks no
longer issues at an issue position that the step passes. -/
def stageState (e : Int) (s : State) : State :=
  let t := s.tracker.withE s.par e
  tellTracker s.tracker.state t.state e (s.setTracker t)

/-- G is stepped by the saturated correction (R79). A correction of 0 is no step, and the last phase step then becomes 0 (the
model's choice, assumption 28). -/
def stepG (e : Int) (s : State) : State :=
  let raw := phaseCorrection s.tracker.gain e
  let step := saturate (-364) 364 raw
  let s1 := bumpIf (decide (step ≠ raw)) .saturatedSteps s
  s1.setTracker { s1.tracker with g48 := moveG s1.tracker.g48 step, lastStep := step }

/-- What a step reaches (R80): a forward step reaches the positions it passes, any other reaches nothing. -/
def stepReaches (step : Int) (s : State) : State := if 0 < step then reachAll reachFuel s else s

/-- Stage 2 of a completion with e (R83): the step of R79, and the positions it reaches (R80). -/
def stagePhase (e : Int) (s : State) : State :=
  let s1 := stepG e s
  stepReaches s1.tracker.lastStep s1

/-- inc after a frequency correction, before the clamp (R81). -/
def incSum (inc gain : Nat) (e : Int) : Int := inc + e * frequencyFactor gain

/-- inc clamped to 30,198,989 … 36,909,875 (R81). -/
def incClamped (x : Int) : Nat := (saturate incMin incMax x).toNat

/-- FREQ_LIMIT detail (R81). -/
def freqDetail (upper : Bool) (t : TrackerState) (e : Int) : Word :=
  BitVec.ofNat 32 (field (bit upper) 8 24 + field (trackerCode t) 8 16 + field (int16 e) 16 0)

/-- Stage 3 of a completion with e (R81), with the gain step in force after stage 1. -/
def stageFrequency (gain : Nat) (e : Int) (s : State) : State :=
  let sum := incSum s.tracker.inc gain e
  let s1 := s.setTracker { s.tracker with inc := incClamped sum }
  if sum < incMin ∨ (incMax : Int) < sum then
    raise srcFreqLimit (freqDetail (decide ((incMax : Int) < sum)) s.tracker.state e) (bump .incClamps s1)
  else s1

/-- The gain step adapted to e (R82). -/
def gainAfter (p : ParamRecord) (gain : Nat) (e : Int) : Nat :=
  if pStepUp p < e.natAbs then min 3 (gain + 1)
  else if e.natAbs < pStepDown p then gain - 1
  else gain

/-- Stage 4 of a completion with e (R82), under the record in use when the completion reached the tracker (R76). -/
def stageGain (p : ParamRecord) (e : Int) (s : State) : State :=
  s.setTracker { s.tracker with gain := gainAfter p s.tracker.gain e }

/-- A pass completion that delivers e, at the tracker: the four stages in order (R83). Stage 1 fixes the gain step of stages 2
and 3. A record that stage 2 activates, where its step reaches a pass boundary, acts from the next completion on
(R76, assumption 26). -/
def completionWithE (e : Int) (s : State) : State :=
  let s1 := stageState e (bump .passesWithE s)
  stageGain s.par e (stageFrequency s1.tracker.gain e (stagePhase e s1))

/-- The move of the tracker to FREE out of holdover (R78). -/
def giveUpHoldover (old : TrackerState) (s : State) : State :=
  tellTracker old .free 0 (s.setTracker s.tracker.setFree)

/-- In HOLDOVER the run is tested, and at holdoverLimit the tracker moves on to FREE (R78). -/
def testHoldover (s : State) : State :=
  if s.tracker.state == .holdover && decide (pHoldoverLimit s.par ≤ s.tracker.holdoverRun) then giveUpHoldover .holdover s
  else s

/-- PULL_IN or LOCKED loses e (R78): HOLDOVER with a run of 1. -/
def enterHoldover (s : State) : State :=
  let old := s.tracker.state
  testHoldover (tellTracker old .holdover 0
    (s.setTracker { s.tracker with state := .holdover, holdoverRun := 1, lockRun := 0, unlockRun := 0 }))

/-- A pass completion that delivers no e, at the tracker (R78). -/
def completionWithoutE (s : State) : State :=
  let s1 := bump .passesWithoutE s
  match s1.tracker.state with
  | .free => s1
  | .pullIn => enterHoldover s1
  | .locked => enterHoldover s1
  | .holdover => testHoldover (s1.setTracker { s1.tracker with holdoverRun := min 65535 (s1.tracker.holdoverRun + 1) })

/-- G moved forward to a position it has not reached, as the occurrence of the event says it has. The holders of other watched
positions that G passes so are told on later steps with an empty queue (the model's choice, assumption 4). -/
def arriveAt (x : Pos) (s : State) : State :=
  if isAfter x s.g then s.setTracker { s.tracker with g48 := x.append 0#16 } else s

/-- The advance of the internal G over the clocks j + 1 to k of a pace period of n clocks (R71). -/
def advance (inc n j k : Nat) : Nat := inc * k / n - inc * j / n

end Sys2Proof.Machine
end

