-- ==== Sys2Proof/Decode.lean ====
section
/-! DEFINITION. The decoding of received marks and the symbols of sent ones (R2), and the host's decoding of a table word. The part has no instruction decoder: no row of
spec/opcode_table.json gives a command any bits, so no word spells a command. -/

namespace Sys2Proof

/-- A data symbol's byte; none for a control or an invalid symbol. -/
def LineSymbol.byte? : LineSymbol → Option Byte
  | .data b => some b
  | _ => none

/-- The valid mark that three symbols after MK stand for, if they do (R2, Table 1). -/
def Mark.ofBytes (type arg check : Byte) : Option Mark :=
  if check ≠ ~~~arg then none
  else if type = 0x1E#8 then (if arg = 0 then some .idle else none)
  else if type = 0x2D#8 then some (.pace arg)
  else if type = 0x3C#8 then
    (if arg = 0 then some (.train false) else if arg = 1 then some (.train true) else none)
  else if type = 0x4B#8 then (if arg = 0 then some .noReceive else none)
  else none

/-- The three symbols after MK as a mark; none when the mark is ill-formed (R2). -/
def Mark.ofSymbols (s1 s2 s3 : LineSymbol) : Option Mark :=
  match s1.byte?, s2.byte?, s3.byte? with
  | some t, some a, some c => Mark.ofBytes t a c
  | _, _, _ => none

/-- The type and the argument of a mark (R2, Table 1). -/
def Mark.typeArg : Mark → Byte × Byte
  | .idle => (0x1E, 0)
  | .pace tag => (0x2D, tag)
  | .train false => (0x3C, 0)
  | .train true => (0x3C, 1)
  | .noReceive => (0x4B, 0)

/-- The four symbols of a mark as sent: MK, the type, the argument, and the complement of the argument (R2). -/
def Mark.symbols (m : Mark) : List LineSymbol :=
  [.markLead, .data m.typeArg.1, .data m.typeArg.2, .data (~~~m.typeArg.2)]

/-- The command that a word spells by the table's bits. Every row of the table has an empty list of fields and no fixed
bits: none. -/
def decodeTableWord (_nbits _w : Nat) : Option Instr := none

end Sys2Proof
end

