-- ==== Sys2Proof/WellFormed.lean ====
section
/-! DEFINITION. When a command's operands can arise: the operands of an ill-formed mark are not a valid mark (R2), a
write request carries as many data words as its count says (R8, check 5), and the order of a completion names each of the
four outputs once (R94). Every other operand is admitted at every value of its type. -/

namespace Sys2Proof

/-- The four outputs of a completion, in the order the model takes them where nothing else says (assumption 5). -/
def PassOutput.all : List PassOutput := [.notices, .tracker, .delivery, .supervisor]

/-- The order names each output once (R94). -/
def PassOutput.isOrder (order : List PassOutput) : Bool :=
  order.length == 4 && PassOutput.all.all (fun o => order.contains o)

/-- A write request carries as many data words as its count (R8, check 5). -/
def WriteRequest.wellFormed (w : WriteRequest) : Bool := w.data.length == w.count.toNat

/-- The operands of the command can arise. -/
def Instr.wellFormed : Instr → Bool
  | .powerOnReset _ => true
  | .signalPresent _ => true
  | .lossOfSignal _ _ => true
  | .lossOfAlignment _ _ => true
  | .validMarkReceived _ _ _ => true
  | .illFormedMarkReceived _ _ s1 s2 s3 => (Mark.ofSymbols s1 s2 s3).isNone
  | .frameArrival _ _ _ => true
  | .seekTimerExpiry _ => true
  | .alignTimerExpiry _ => true
  | .holdoffTimerExpiry _ => true
  | .monitoringWindowExpiry _ => true
  | .transmitStart _ => true
  | .transmitEnd _ => true
  | .paceMarkSent => true
  | .paceEvent => true
  | .timemarkPositionReached => true
  | .passBoundaryReached => true
  | .loadPointReached _ => true
  | .issuePositionReached _ => true
  | .passCompletion order => PassOutput.isOrder order
  | .checkCompletion _ => true
  | .quietTimerExpiry => true
  | .start _ => true
  | .stop _ => true
  | .hold _ => true
  | .release _ => true
  | .setMode _ => true
  | .setManualL _ => true
  | .commit _ => true
  | .resetTrip _ => true
  | .warmReset _ => true
  | .retrain _ => true
  | .clearNotice _ => true
  | .setBuffering _ => true
  | .setStyle _ => true
  | .portConfigurationWrite w => w.wellFormed
  | .forwardingTableWrite w => w.wellFormed
  | .streamTableWrite w => w.wellFormed
  | .accessWindowWrite w => w.wellFormed
  | .noticeVectorWrite w => w.wellFormed
  | .counterClear w => w.wellFormed
  | .standbyOrStagedWrite w => w.wellFormed
  | .readOnlyRegionWrite w => w.wellFormed
  | .invalidSymbolReceived _ _ => true

end Sys2Proof
end

