-- ==== Sys2Proof/Machine/Completion.lean ====
section
/-! DEFINITION. The completion of a compensation pass: the record it writes, its counters, and its four outputs (R94, R104, R110,
R111, R122 to R126). -/

namespace Sys2Proof.Machine

/-- What the demand stage reads for a branch at the completion (R111). -/
def branchInputs (e : Engine) (b : BranchId) : BranchInputs := { lPrev := e.lPrev[b], manual := e.manual[b] }

/-- The demand stage of a branch of the completing pass (R110 to R121). -/
def demandBranch (f : InFlight) (m : Measurement) (src : TargetSource) (e : Engine) (b : BranchId) : BranchResult :=
  branchStage f.params f.angle m.i1q m.y (demandT m.x) m.mag1 src (branchInputs e b) b

/-- The branch results of the completing pass; a skipped pass has none (R110). -/
def completionBranches (runs : Bool) (f : InFlight) (m : Measurement) (src : TargetSource) (e : Engine) :
    Vector BranchResult 3 :=
  if runs then #v[demandBranch f m src e 0, demandBranch f m src e 1, demandBranch f m src e 2]
  else Vector.replicate 3 BranchResult.zero

/-- The measurement stage of the pass in flight (R96 to R106). -/
def measureFlight (f : InFlight) : Measurement := measure f.reference f.boundary f.window (pVmin f.params)

/-- The target source selected at the completion (R117). -/
def completionSource (s : State) : TargetSource := targetSource s.sup.ramp s.sup.state s.engine.mode

/-- The record of the completing pass (R124), decided from the state as it stands before any output (R111). -/
def completionRecord (f : InFlight) (s : State) : PassRecord :=
  let m := measureFlight f
  let runs := demandRuns f m
  let src := completionSource s
  let bs := completionBranches runs f m src s.engine
  { number := s.engine.passNumber + 1, boundary := f.boundary, quality := m.quality, flags := passFlags m runs bs,
    v1 := m.v1, v2 := m.v2, mag1 := m.mag1, mag2 := m.mag2, i1q := m.i1q, x := m.x, y := m.y, e := m.e.getD 0,
    t := if runs then demandT m.x else 0, mode := s.engine.mode, target := if runs then src else .none, branches := bs }

/-- The completing pass is delivered (R110, R117, R122). -/
def completionDelivers (r : PassRecord) : Bool := r.target.delivers

/-- The engine after the completion (R94, R122): no pass in flight, the new number and record, and L_prev of a delivered pass. -/
def Engine.complete (e : Engine) (r : PassRecord) : Engine :=
  { e with inFlight := none, passNumber := r.number, record := r,
           lPrev := if completionDelivers r then
               #v[r.branches[0].reactor, r.branches[1].reactor, r.branches[2].reactor]
             else e.lPrev }

/-- The limit counters of one branch (R125): 0 CAP_LIMIT, 1 IND_LIMIT, 2 SLEW. -/
def countBranch (r : PassRecord) (s : State) (b : BranchId) : State :=
  bumpIf r.branches[b].slew (.branch b 2) (bumpIf r.branches[b].indLimit (.branch b 1)
    (bumpIf r.branches[b].capLimit (.branch b 0) s))

/-- The engine's counters at a completion (R94, R110, R125). -/
def countCompletion (r : PassRecord) (s : State) : State :=
  branchIds.foldl (countBranch r) (bumpIf r.flags.demandSkipped .demandSkipped (bump .passesCompleted s))

/-- The notices of a completion, against the record it overwrites (R104, R126): UNDERVOLTAGE, then ROTATION_FAULT, then
DEMAND_LIMIT (the order is the model's choice, assumption 6). -/
def completionNotices (old r : PassRecord) (s : State) : State :=
  raiseIf (r.flags.limited && !old.flags.limited) srcDemandLimit (demandLimitDetail r)
    (raiseIf (r.flags.rotationFault && !old.flags.rotationFault) srcRotationFault (halves r.mag2 r.mag1)
      (raiseIf (r.flags.undervoltage && !old.flags.undervoltage) srcUndervoltage (halves r.number.toNat r.mag1) s))

/-- e or "no e" handed to the tracker (R94, R105). -/
def completionTracker (e : Option Int) (s : State) : State :=
  match e with
  | some e => completionWithE e s
  | none => completionWithoutE s

/-- The firing angles handed to the channels of a delivered pass, in valve order (R122, assumption 6). -/
def completionDelivery (r : PassRecord) (s : State) : State :=
  if completionDelivers r then valveIds.foldl (fun s v => deliverAngle v r.branches[branchOf v].alpha s) s else s

/-- One output of a completion. -/
def completionOutput (old r : PassRecord) (e : Option Int) (s : State) (o : PassOutput) : State :=
  match o with
  | .notices => completionNotices old r s
  | .tracker => completionTracker e s
  | .delivery => completionDelivery r s
  | .supervisor => takeRecord r s

/-- The order a completion takes its outputs in: the one given, or the default where it is no order of the four
(assumption 5). -/
def completionOrder (order : List PassOutput) : List PassOutput :=
  if PassOutput.isOrder order then order else PassOutput.all

/-- The completion of the pass in flight (R94), its outputs in the given order, and the table store's test of its idle condition
(R166). Without a pass in flight there is none to complete. -/
def passCompletion (order : List PassOutput) (s : State) : State :=
  match s.engine.inFlight with
  | none => s
  | some f =>
    let r := completionRecord f s
    let s1 := countCompletion r (s.setEngine (s.engine.complete r))
    idleTest ((completionOrder order).foldl (completionOutput s.engine.record r (measureFlight f).e) s1)

end Sys2Proof.Machine
end

