-- ==== Sys2Proof/Machine/Switch.lean ====
section
/-! DEFINITION. The frame switch and the arrival of frames (R5, R6, R9, R15, R24 to R29). -/

namespace Sys2Proof.Machine

/-- Destination node of a frame (Table 2). -/
def destOf (bytes : List Byte) : Byte := byteAt bytes 2

/-- Source node of a frame (Table 2). -/
def sourceOf (bytes : List Byte) : Byte := byteAt bytes 3

/-- The arrival port condition of an entry (R26). -/
def ArrivalMatch.admits (a : ArrivalMatch) (p : PortId) : Bool :=
  match a, p with
  | .either, _ => true
  | .north, .north => true
  | .south, .south => true
  | _, _ => false

/-- The destination condition of an entry (R26). -/
def FwdEntry.destMatches (e : FwdEntry) (node dest : Byte) : Bool :=
  match e.destMode with
  | .own => dest == node
  | .given => dest == e.dest
  | .broadcast => dest == 255#8
  | .any => true

/-- An entry matches a frame (R26). -/
def FwdEntry.matches (e : FwdEntry) (node : Byte) (p : PortId) (bytes : List Byte) : Bool :=
  e.enable && e.arrival.admits p && (e.kindAny || byteAt bytes 1 == e.kind) && e.destMatches node (destOf bytes)
    && (e.sourceAny || sourceOf bytes == e.source)

/-- The first matching entry (R26). -/
def matchingEntry (p : PortId) (bytes : List Byte) (s : State) : Option (Fin 16) :=
  entryIds.find? (fun i => s.fwd[i].matches s.nodeId p bytes)

/-- The enabled stream entry of a source node; enabled source nodes differ (R28, R49). -/
def streamOf (source : Byte) (s : State) : Option StreamId :=
  streamIds.find? (fun i => s.merge.table[i].enable && s.merge.table[i].source == source)

/-- The merge unit takes a MEASURE frame (R54). -/
def consumeMeasure (i : StreamId) (bytes : List Byte) (s : State) : State :=
  let payload := payloadOf bytes
  placeFrame i (byteAt payload 2).toNat (measuredSets payload) s

/-- The valve id of a VALVE_REPORT taken at PS, if it names a channel (R28). -/
def reportValve (p : PortId) (bytes : List Byte) : Option ValveId :=
  let v := (byteAt (payloadOf bytes) 0).toNat
  if h : v < 6 then (if p = .south then some ⟨v, h⟩ else none) else none

/-- A consumed frame goes to the block of its kind (R28). -/
def consume (p : PortId) (bytes : List Byte) (s : State) : State :=
  if byteAt bytes 1 = kindMeasure then
    match streamOf (sourceOf bytes) s with
    | some i => consumeMeasure i bytes (bump (.consumed p) s)
    | none => bump (.unclaimed p) s
  else if byteAt bytes 1 = kindValveReport then
    match reportValve p bytes with
    | some v => takeReport v (valveReport (payloadOf bytes)) (bump (.consumed p) s)
    | none => bump (.unclaimed p) s
  else bump (.unclaimed p) s

/-- A frame offered to the other port in its forward class (R27). -/
def forward (p : PortId) (classPass : Bool) (bytes : List Byte) (s : State) : State :=
  offer (otherPort p) (if classPass then .pass else .measure) (.forwarded bytes) (bump (.forwarded p) s)

/-- The deciding action of a frame (R27); a COPY is consumed first (assumption 6). -/
def act (action : FwdAction) (classPass : Bool) (p : PortId) (bytes : List Byte) (s : State) : State :=
  match action with
  | .consume => consume p bytes s
  | .forward => forward p classPass bytes s
  | .copy => forward p classPass bytes (consume p bytes s)
  | .drop => bump (.tableDrop p) s

/-- A good frame at the frame switch (R24, R26): the built-in test, the forwarding table, the defaults. -/
def switchFrame (p : PortId) (bytes : List Byte) (s : State) : State :=
  if byteAt bytes 1 = kindAccessRequest ∧ destOf bytes = s.nodeId then
    queueRequest (requestOf (payloadOf bytes) (sourceOf bytes) p) (bump (.consumed p) s)
  else
    match matchingEntry p bytes s with
    | some i => act s.fwd[i].action s.fwd[i].classPass p bytes (bump (.hit i) s)
    | none => if destOf bytes = s.nodeId then act .consume false p bytes s else act .forward true p bytes s

/-- A frame ended by EF, checked and handed on (R6, R9). -/
def completeFrame (p : PortId) (r : RxFrame) (s : State) : State :=
  match receiveChecks r with
  | some cause => countErrored p (bump (.error p cause) s)
  | none => switchFrame p r.bytes (bump (.good p (kindIndex (byteAt r.bytes 1))) s)

/-- A complete frame returns a port in FAR_FAULT to UP, whatever its check outcome (R15, assumption 10). -/
def returnFromFarFault (p : PortId) (s : State) : State :=
  if (s.port p).link == .farFault then changeLink p .up s else s

/-- An EF is received (R5): the frame in reception, if there is one, arrives complete. -/
def receiveEnd (p : PortId) (s : State) : State :=
  let s1 := s.modPort p (fun x => { x with invalidRun := 0 })
  match (s1.port p).rx with
  | none => s1
  | some r => completeFrame p r (returnFromFarFault p (s1.modPort p (fun x => { x with rx := none })))

/-- A frame ends at a port (R5), after the symbols received before its end: by EF, or cut, where a second SF that cuts it starts a
new frame. -/
def frameArrival (p : PortId) (run : LineRun) (ending : FrameEnd) (s : State) : State :=
  let s1 := receiveSymbols p run s
  match ending with
  | .complete => receiveEnd p s1
  | .cut newFrame => receiveSymbols p { start := newFrame, data := [] } (cutArrival p s1)

end Sys2Proof.Machine
end

