-- ==== Sys2Proof/Machine/Transmit.lean ====
section
/-! DEFINITION. Transmission: the arbiter, contents processing at transmit start, the late check, and transmit end (R18,
R32, R33, R37 to R40). -/

namespace Sys2Proof.Machine

/-- The effective priority of an aged class (R33). -/
def Port.eff (p : Port) : TxClass → Nat
  | .timed => 0
  | .access => p.effAccess
  | .measure => p.effMeasure
  | .pass => p.effPass

/-- A nonempty aged class with no nonempty aged class of lower value, earlier classes winning ties (R32). -/
def Port.agedWinner (p : Port) : Option TxClass :=
  [TxClass.access, .measure, .pass].foldl (fun best c =>
    if (p.queue c).isEmpty then best
    else match best with
      | none => some c
      | some b => if p.eff c < p.eff b then some c else some b) none

/-- The arbiter's choice (R32): TIMED first, then the aged winner. -/
def Port.choice (p : Port) : Option TxClass := if p.timed.isEmpty then p.agedWinner else some .timed

/-- An aged class's effective priority after an opportunity (R33): the winner's returns to its initial priority, a
nonempty loser's falls by 1 to no lower than 0, an empty class keeps its own. -/
def agedAfter (winner c : TxClass) (nonempty : Bool) (initial eff : Nat) : Nat :=
  if winner = .timed then eff
  else if winner = c then initial
  else if nonempty then eff - 1
  else eff

/-- The chosen class's head frame leaves its queue, and the effective priorities change (R32, R33). -/
def Port.take (p : Port) (c : TxClass) : Port :=
  { p.setQueue c (p.queue c).tail with
    effAccess := agedAfter c .access (!p.access.isEmpty) p.accessPriority p.effAccess,
    effMeasure := agedAfter c .measure (!p.measure.isEmpty) 4 p.effMeasure,
    effPass := agedAfter c .pass (!p.pass.isEmpty) 6 p.effPass }

/-- The outcome of the late check for one FIRE command at position g (R38). -/
inductive LateCheck where
  | asIs
  | moved (units : Nat)
  | tooLate
deriving DecidableEq, Repr

/-- The late check of one FIRE command (R38). -/
def lateCheck (g : Pos) (margin : Nat) (c : GateCommand) : LateCheck :=
  if (margin : Int) ≤ diff c.position g then .asIs
  else if isAfter (g + BitVec.ofNat 32 margin) c.latest then .tooLate
  else .moved (diff (g + BitVec.ofNat 32 margin) c.position).toNat

/-- A command rewritten by the late check (R38, R39): a SUSTAIN pulse still ends at the sustain end. -/
def GateCommand.rewritten (c : GateCommand) (units : Nat) : GateCommand :=
  { c with position := c.position + BitVec.ofNat 32 units, late := true,
           pulse := match c.style with
             | .pulse => c.pulse
             | .sustain => c.pulse - units }

/-- LATE_FIRE detail (R38). -/
def lateDetail (c : GateCommand) (units : Nat) : Word := halves (c.valve.val * 256) units

/-- SKIPPED_FIRE detail of the late check, cause 1 (R38). -/
def skippedDetail (c : GateCommand) : Word := halves (c.valve.val * 256 + 1) (phaseOf c.position)

/-- One command of a GATE frame at its transmit start (R38, R40): what remains of it, and the state after its reports and
notices. -/
def checkCommand (firing : Bool) (c : GateCommand) (s : State) : Option GateCommand × State :=
  if c.isFire then
    (if firing then
      match lateCheck s.g (pLateMargin s.par c.valve) c with
      | .asIs => (some c, s)
      | .moved units => (some (c.rewritten units), raise srcLateFire (lateDetail c units) s)
      | .tooLate => (none, raise srcSkippedFire (skippedDetail c) (reportFire c .skipped s))
     else (none, reportFire c .notSent s))
  else (some c, s)

/-- The commands of a GATE frame at its transmit start, in their order; those that remain close up (R38, R39). -/
def checkCommands (firing : Bool) : List GateCommand → State → List GateCommand × State
  | [], s => ([], s)
  | c :: cs, s =>
    let r := checkCommand firing c s
    let rest := checkCommands firing cs r.2
    (match r.1 with
     | some c' => c' :: rest.1
     | none => rest.1, rest.2)

/-- Contents processing of a frame at its transmit start (R37, R38, R39): the frame as sent, or none for a GATE frame
left with no command. -/
def processFrame (f : Frame) (s : State) : Option Frame × State :=
  match f with
  | .timemark =>
    (some (.stampedTimemark s.g s.tracker.inc (trackerCode s.tracker.state) (bit (pAcb s.par))), s)
  | .gate cs =>
    let r := checkCommands (s.sup.state == .running || s.sup.state == .holding) cs s
    if r.1.isEmpty then (none, r.2) else (some (.gate r.1), r.2)
  | other => (some other, s)

/-- The transmit start of the chosen frame (R18): the frame is in transmission from here on, after a TRAIN mark still due
(R14). -/
def beginFrame (p : PortId) (c : TxClass) (f : Frame) (s : State) : State :=
  s.modPort p (fun x => { x.sendOwed with tx := some { cls := c, frame := f, bytes := f.bytes s.nodeId } })

/-- A transmit opportunity (R18, R32): the arbiter's choice leaves its queue and is processed; where a GATE frame is left
with no command the arbiter chooses again at once (R39), at most `fuel` times. -/
def opportunity (p : PortId) : Nat → State → State
  | 0, s => s
  | fuel + 1, s =>
    match (s.port p).choice with
    | none => s
    | some c =>
      match (s.port p).queue c with
      | [] => s
      | f :: _ =>
        let r := processFrame f (s.modPort p (fun x => x.take c))
        match r.1 with
        | some f' => beginFrame p c f' r.2
        | none => opportunity p fuel r.2

/-- The port has a transmit opportunity: it is transmit-ready, has not begun a frame, and has a frame queued (R18). -/
def Port.hasOpportunity (p : Port) : Bool := p.transmitReady && p.tx.isNone && p.choice.isSome

/-- TRANSMIT_START at a port (R18); without an opportunity there is no frame to begin. -/
def startTransmit (p : PortId) (s : State) : State :=
  if (s.port p).hasOpportunity then opportunity p ((s.port p).timed.length + 1) s else s

/-- The sent reports of a frame at its transmit end (R40). -/
def reportSent (f : Frame) (s : State) : State :=
  f.fires.foldl (fun s c => reportFire c (if c.late then .sentLate else .sent) s) s

/-- TRANSMIT_END at a port (R18, R40); without a frame in transmission there is none to end. -/
def endTransmit (p : PortId) (s : State) : State :=
  match (s.port p).tx with
  | none => s
  | some t =>
    reportSent t.frame (bump (.sent p t.cls) (s.modPort p (fun x => { x with tx := none })))

end Sys2Proof.Machine
end

