-- ==== Sys2Proof/Machine/Clock.lean ====
section
/-! DEFINITION. The pace event (R44, R45), the PACE mark (R3), the timers' expiries, and what the part does on an empty queue: the
event that is due, the service of the head request, or one reference clock (R71, R194; assumption 3). -/

namespace Sys2Proof.Machine

/-- The pace generator replaced. -/
def State.setPace (s : State) (p : Pace) : State := { s with pace := p }

/-- G advanced over the clocks j + 1 to k of the current pace period (R71). -/
def advanceG (j k : Nat) (s : State) : State :=
  s.setTracker { s.tracker with
    g48 := s.tracker.g48 + BitVec.ofNat 48 (advance s.tracker.inc s.pace.length j k) }

/-- The clocks of the period that a commanded PACE_EVENT brings to its end have passed. The holders of watched positions that G
passes so are told on later steps with an empty queue (the model's choice, assumption 4). -/
def endPeriod (s : State) : State := advanceG s.pace.clock (max s.pace.clock s.pace.length) s

/-- The pace generator after a pace event: P counted, and the next event in its place counted from the origin, a late event's lateness
taken from its period (R44, R45). -/
def Pace.next (p : Pace) (fn : Nat) : Pace :=
  let late := p.clock - p.length
  let k := p.sinceOrigin + 1
  { count := p.count + 1, sinceOrigin := k, clock := 0, length := paceAt fn (k + 1) - paceAt fn k - late }

/-- PN takes the request for a PACE mark in UP and FAR_FAULT; a new tag replaces an unsent one (R3). -/
def Port.requestPace (p : Port) (tag : Byte) : Port := if p.link.receives then { p with paceRequest := some tag } else p

/-- The tag of a pace count: P mod 256 (R45). -/
def paceTag (count : Word) : Byte := count.extractLsb' 0 8

/-- The stages of a pace event (R45): count, mark, sample and open, and the deadline check (R60). -/
def paceStages (s : State) : State :=
  let s1 := s.setPace (s.pace.next (pFn s.par))
  deadlineCheck (openRow (s1.modPort .north (fun x => x.requestPace (paceTag s1.pace.count))))

/-- The pace period elapses (R44, R45). -/
def paceEvent (s : State) : State := paceStages (endPeriod s)

/-- PN has put the PACE mark of a tag on the line (R3), after a TRAIN mark still due (R14). -/
def Port.sendPace (p : Port) (tag : Byte) : Port :=
  { p.sendOwed with paceRequest := none, lastPaceSent := some tag, lineMark := some (.pace tag) }

/-- PN sends the requested PACE mark (R3); without a request there is none to send. -/
def paceMarkSent (s : State) : State :=
  match s.pn.paceRequest with
  | none => s
  | some tag => s.modPort .north (fun x => x.sendPace tag)

/-- The seek timer expires (R12); a timer not running expires in no state. -/
def seekExpiry (p : PortId) (s : State) : State := if (s.port p).seekTimer.isSome then failAttempt p s else s

/-- The align timer expires (R13). -/
def alignExpiry (p : PortId) (s : State) : State := if (s.port p).alignTimer.isSome then failAttempt p s else s

/-- The holdoff timer expires (R16). -/
def holdoffExpiry (p : PortId) (s : State) : State :=
  if (s.port p).holdoffTimer.isSome then goDown p (s.modPort p (fun x => { x with attempts := 0 })) else s

/-- The quiet timer expires (R163, R166): the idle condition is tested. -/
def quietExpiry (s : State) : State :=
  if s.tables.quiet.isSome then idleTest (s.setTables { s.tables with quiet := none }) else s

/-- The command of a reached position. -/
def Watched.command : Watched → Instr
  | .timemark => .timemarkPositionReached
  | .boundary => .passBoundaryReached
  | .loadPoint v => .loadPointReached v
  | .issue v => .issuePositionReached v

/-- A timer that has run out. -/
def runOut (t : Option Nat) : Bool := t == some 0

/-- The timer events due at a port, in the model's order (assumption 6). -/
def portDue (p : PortId) (x : Port) : List Instr :=
  (if runOut x.seekTimer then [.seekTimerExpiry p] else []) ++ (if runOut x.alignTimer then [.alignTimerExpiry p] else [])
    ++ (if runOut x.holdoffTimer then [.holdoffTimerExpiry p] else [])
    ++ (if runOut x.windowTimer then [.monitoringWindowExpiry p] else [])

/-- A check in flight has run its 20 µs. -/
def Commit.due (c : Commit) : Bool := c.state == .checking && c.timer == 0

/-- The check completions due (R160). -/
def checksDue (t : Tables) : List Instr :=
  (if t.angleCommit.due then [.checkCompletion .angle] else []) ++ (if t.refCommit.due then [.checkCompletion .reference] else [])
    ++ (if t.paramsCommit.due then [.checkCompletion .parameters] else [])

/-- The pass in flight has run its 48 µs (R94). -/
def Engine.due (e : Engine) : Bool :=
  match e.inFlight with
  | none => false
  | some f => f.timer == 0

/-- The events due now, in the order the model takes events of one clock (assumption 6): positions, the pace event, a PACE mark
requested and not yet sent (R3: it goes out at the next place between marks), the pass completion, check completions,
timers. -/
def dueCommands (s : State) : List Instr :=
  ((earliestReached s).map Watched.command).toList ++ (if s.pace.length ≤ s.pace.clock then [.paceEvent] else [])
    ++ (if s.pn.paceRequest.isSome then [.paceMarkSent] else [])
    ++ (if s.engine.due then [.passCompletion PassOutput.all] else []) ++ checksDue s.tables ++ portDue .north s.pn
    ++ portDue .south s.ps ++ (if runOut s.tables.quiet then [.quietTimerExpiry] else [])

/-- A timer one clock on. -/
def tickTimer (t : Option Nat) : Option Nat := t.map (fun n => n - 1)

/-- A port one clock on: its timers (R10, R20), and its mark on the line while it sends no frame (R2; assumption 18). -/
def Port.tick (p : Port) : Port :=
  { p.sendsMarks with
    seekTimer := tickTimer p.seekTimer, alignTimer := tickTimer p.alignTimer,
    holdoffTimer := tickTimer p.holdoffTimer, windowTimer := tickTimer p.windowTimer }

/-- A check in flight one clock on (R160). -/
def Commit.tick (c : Commit) : Commit := { c with timer := c.timer - 1 }

/-- The table store's timers one clock on (R160, R163). -/
def Tables.tick (t : Tables) : Tables :=
  { t with angleCommit := t.angleCommit.tick, refCommit := t.refCommit.tick, paramsCommit := t.paramsCommit.tick,
           quiet := tickTimer t.quiet }

/-- The pass in flight one clock on (R94). -/
def Engine.tick (e : Engine) : Engine := { e with inFlight := e.inFlight.map (fun f => { f with timer := f.timer - 1 }) }

/-- One reference clock (R71): G advances, and every timer runs. -/
def tick (s : State) : State :=
  let s1 := advanceG s.pace.clock (s.pace.clock + 1) s
  { s1 with pace := { s1.pace with clock := s1.pace.clock + 1 }, pn := s1.pn.tick, ps := s1.ps.tick,
            tables := s1.tables.tick, engine := s1.engine.tick }

/-- The part on an empty command queue (assumption 3): the first event due joins the queue; otherwise the access agent serves its head
request; otherwise one reference clock passes. -/
def idle (s : State) : State :=
  match dueCommands s with
  | c :: _ => { s with pending := s.pending ++ [c] }
  | [] =>
    match s.agent.queue with
    | r :: _ => serveRequest r s
    | [] => tick s

end Sys2Proof.Machine
end

