-- ==== Sys2Proof/Machine/Events.lean ====
section
/-! DEFINITION. The meanings of the timed events: timer expiries, transmission, pacing, grid positions, pass and check completions (R3,
R12, R13, R16, R18, R20, R45, R74, R75, R94, R131, R136, R162, R166). Each event commanded where it has nothing to act on leaves the
state as it is (assumption 4). -/

namespace Sys2Proof.Machine

/-- G at the issue position of an ARMED channel, and the issue (R136). -/
def issueCommanded (v : ValveId) (s : State) : State :=
  if (s.channel v).state == .armed then issuePositionReached v (arriveAt (s.channel v).issue s) else s

/-- SEEK_TIMER_EXPIRY (R12). -/
def execSeekTimerExpiry (p : PortId) (s : State) : Host.Outcome State Fault Refusal :=
  .next (seekExpiry p s)

/-- ALIGN_TIMER_EXPIRY (R13). -/
def execAlignTimerExpiry (p : PortId) (s : State) : Host.Outcome State Fault Refusal :=
  .next (alignExpiry p s)

/-- HOLDOFF_TIMER_EXPIRY (R16). -/
def execHoldoffTimerExpiry (p : PortId) (s : State) : Host.Outcome State Fault Refusal :=
  .next (holdoffExpiry p s)

/-- MONITORING_WINDOW_EXPIRY (R20). -/
def execMonitoringWindowExpiry (p : PortId) (s : State) : Host.Outcome State Fault Refusal :=
  .next (windowExpiry p s)

/-- TRANSMIT_START (R18). -/
def execTransmitStart (p : PortId) (s : State) : Host.Outcome State Fault Refusal :=
  .next (startTransmit p s)

/-- TRANSMIT_END (R18). -/
def execTransmitEnd (p : PortId) (s : State) : Host.Outcome State Fault Refusal :=
  .next (endTransmit p s)

/-- PACE_MARK_SENT (R3). -/
def execPaceMarkSent (s : State) : Host.Outcome State Fault Refusal :=
  .next (paceMarkSent s)

/-- PACE_EVENT (R45). -/
def execPaceEvent (s : State) : Host.Outcome State Fault Refusal :=
  .next (paceEvent s)

/-- TIMEMARK_POSITION_REACHED (R74). -/
def execTimemarkPositionReached (s : State) : Host.Outcome State Fault Refusal :=
  .next (timemarkReached (arriveAt s.tracker.nextTimemark s))

/-- PASS_BOUNDARY_REACHED (R75). -/
def execPassBoundaryReached (s : State) : Host.Outcome State Fault Refusal :=
  .next (boundaryReached (arriveAt s.tracker.nextBoundary s))

/-- LOAD_POINT_REACHED (R131). -/
def execLoadPointReached (v : ValveId) (s : State) : Host.Outcome State Fault Refusal :=
  .next (loadPointReached v (arriveAt (s.channel v).nextLoadPoint s))

/-- ISSUE_POSITION_REACHED (R136). -/
def execIssuePositionReached (v : ValveId) (s : State) : Host.Outcome State Fault Refusal :=
  .next (issueCommanded v s)

/-- PASS_COMPLETION (R94). -/
def execPassCompletion (order : List PassOutput) (s : State) : Host.Outcome State Fault Refusal :=
  .next (passCompletion order s)

/-- CHECK_COMPLETION (R162). -/
def execCheckCompletion (id : TableId) (s : State) : Host.Outcome State Fault Refusal :=
  .next (checkCompletion id s)

/-- QUIET_TIMER_EXPIRY (R166). -/
def execQuietTimerExpiry (s : State) : Host.Outcome State Fault Refusal :=
  .next (quietExpiry s)

end Sys2Proof.Machine
end

