-- ==== Sys2Proof/Machine/Line.lean ====
section
/-! DEFINITION. The meanings of the reset and line commands: POWER_ON_RESET, the signal detector's two reports, the loss of alignment,
marks, invalid symbols and frame arrivals (R1 to R5, R11 to R15, R24). -/

namespace Sys2Proof.Machine

/-- The run of invalid symbols has reached 16 (R1): in ALIGNED, UP and FAR_FAULT the port has lost alignment. -/
def alignmentLost (p : PortId) (s : State) : State :=
  if (s.port p).link.isAligned then loseAlignment p (s.modPort p (fun x => { x with invalidRun := 16 })) else s

/-- Four symbols from MK on, as an ill-formed mark or as the valid mark they make (R2). -/
def receiveFour (p : PortId) (s1 s2 s3 : LineSymbol) (s : State) : State :=
  match Mark.ofSymbols s1 s2 s3 with
  | some m => receiveMark p m s
  | none => receiveIllFormed p s1 s2 s3 s

/-- POWER_ON_RESET (R24). -/
def execPowerOnReset (straps : Byte) (s : State) : Host.Outcome State Fault Refusal :=
  .next (powerOnReset straps s)

/-- SIGNAL_PRESENT (R11). -/
def execSignalPresent (p : PortId) (s : State) : Host.Outcome State Fault Refusal :=
  .next (findSignal p s)

/-- LOSS_OF_SIGNAL (R12 to R15). -/
def execLossOfSignal (p : PortId) (run : LineRun) (s : State) : Host.Outcome State Fault Refusal :=
  .next (loseSignal p (receiveSymbols p run s))

/-- LOSS_OF_ALIGNMENT (R1, R13). -/
def execLossOfAlignment (p : PortId) (run : LineRun) (s : State) : Host.Outcome State Fault Refusal :=
  .next (alignmentLost p (receiveSymbols p run s))

/-- VALID_MARK_RECEIVED (R4). -/
def execValidMarkReceived (p : PortId) (run : LineRun) (m : Mark) (s : State) : Host.Outcome State Fault Refusal :=
  .next (receiveMark p m (receiveSymbols p run s))

/-- ILL_FORMED_MARK_RECEIVED (R2). -/
def execIllFormedMarkReceived (p : PortId) (run : LineRun) (s1 s2 s3 : LineSymbol) (s : State) : Host.Outcome State Fault Refusal :=
  .next (receiveFour p s1 s2 s3 (receiveSymbols p run s))

/-- FRAME_ARRIVAL (R5). -/
def execFrameArrival (p : PortId) (run : LineRun) (ending : FrameEnd) (s : State) : Host.Outcome State Fault Refusal :=
  .next (frameArrival p run ending s)

/-- INVALID_SYMBOL_RECEIVED (R1). -/
def execInvalidSymbolReceived (p : PortId) (run : LineRun) (s : State) : Host.Outcome State Fault Refusal :=
  .next (receiveInvalid p (receiveSymbols p run s))

end Sys2Proof.Machine
end

