-- ==== Sys2Proof/Machine/Writes.lean ====
section
/-! DEFINITION. The meanings of the write rows: each is the service of a WRITE or WRITE_POSTED request (R194 to R199). The region that a
write acts on is the one its address reaches through the windows (R196), whichever row names it (assumption 2). -/

namespace Sys2Proof.Machine

/-- PORT_CONFIGURATION_WRITE (R23). -/
def execPortConfigurationWrite (w : WriteRequest) (s : State) : Host.Outcome State Fault Refusal :=
  .next (serveAccess (writeRequest w) s)

/-- FORWARDING_TABLE_WRITE (R25). -/
def execForwardingTableWrite (w : WriteRequest) (s : State) : Host.Outcome State Fault Refusal :=
  .next (serveAccess (writeRequest w) s)

/-- STREAM_TABLE_WRITE (R49). -/
def execStreamTableWrite (w : WriteRequest) (s : State) : Host.Outcome State Fault Refusal :=
  .next (serveAccess (writeRequest w) s)

/-- ACCESS_WINDOW_WRITE (R196). -/
def execAccessWindowWrite (w : WriteRequest) (s : State) : Host.Outcome State Fault Refusal :=
  .next (serveAccess (writeRequest w) s)

/-- NOTICE_VECTOR_WRITE (R203). -/
def execNoticeVectorWrite (w : WriteRequest) (s : State) : Host.Outcome State Fault Refusal :=
  .next (serveAccess (writeRequest w) s)

/-- COUNTER_CLEAR (R199). -/
def execCounterClear (w : WriteRequest) (s : State) : Host.Outcome State Fault Refusal :=
  .next (serveAccess (writeRequest w) s)

/-- STANDBY_OR_STAGED_WRITE (R158). -/
def execStandbyOrStagedWrite (w : WriteRequest) (s : State) : Host.Outcome State Fault Refusal :=
  .next (serveAccess (writeRequest w) s)

/-- READ_ONLY_REGION_WRITE (R199). -/
def execReadOnlyRegionWrite (w : WriteRequest) (s : State) : Host.Outcome State Fault Refusal :=
  .next (serveAccess (writeRequest w) s)

end Sys2Proof.Machine
end

