-- ==== Sys2Proof/Machine/Dispatch.lean ====
section
/-! DEFINITION. One arm per command. -/

namespace Sys2Proof.Machine

def exec (i : Instr) (s : State) : Host.Outcome State Fault Refusal :=
  match i with
  | .powerOnReset straps => Sys2Proof.Machine.execPowerOnReset straps s
  | .signalPresent port => Sys2Proof.Machine.execSignalPresent port s
  | .lossOfSignal port run => Sys2Proof.Machine.execLossOfSignal port run s
  | .lossOfAlignment port run => Sys2Proof.Machine.execLossOfAlignment port run s
  | .validMarkReceived port run mark => Sys2Proof.Machine.execValidMarkReceived port run mark s
  | .illFormedMarkReceived port run s1 s2 s3 => Sys2Proof.Machine.execIllFormedMarkReceived port run s1 s2 s3 s
  | .frameArrival port run ending => Sys2Proof.Machine.execFrameArrival port run ending s
  | .seekTimerExpiry port => Sys2Proof.Machine.execSeekTimerExpiry port s
  | .alignTimerExpiry port => Sys2Proof.Machine.execAlignTimerExpiry port s
  | .holdoffTimerExpiry port => Sys2Proof.Machine.execHoldoffTimerExpiry port s
  | .monitoringWindowExpiry port => Sys2Proof.Machine.execMonitoringWindowExpiry port s
  | .transmitStart port => Sys2Proof.Machine.execTransmitStart port s
  | .transmitEnd port => Sys2Proof.Machine.execTransmitEnd port s
  | .paceMarkSent => Sys2Proof.Machine.execPaceMarkSent s
  | .paceEvent => Sys2Proof.Machine.execPaceEvent s
  | .timemarkPositionReached => Sys2Proof.Machine.execTimemarkPositionReached s
  | .passBoundaryReached => Sys2Proof.Machine.execPassBoundaryReached s
  | .loadPointReached valve => Sys2Proof.Machine.execLoadPointReached valve s
  | .issuePositionReached valve => Sys2Proof.Machine.execIssuePositionReached valve s
  | .passCompletion order => Sys2Proof.Machine.execPassCompletion order s
  | .checkCompletion table => Sys2Proof.Machine.execCheckCompletion table s
  | .quietTimerExpiry => Sys2Proof.Machine.execQuietTimerExpiry s
  | .start request => Sys2Proof.Machine.execStart request s
  | .stop request => Sys2Proof.Machine.execStop request s
  | .hold request => Sys2Proof.Machine.execHold request s
  | .release request => Sys2Proof.Machine.execRelease request s
  | .setMode request => Sys2Proof.Machine.execSetMode request s
  | .setManualL request => Sys2Proof.Machine.execSetManualL request s
  | .commit request => Sys2Proof.Machine.execCommit request s
  | .resetTrip request => Sys2Proof.Machine.execResetTrip request s
  | .warmReset request => Sys2Proof.Machine.execWarmReset request s
  | .retrain request => Sys2Proof.Machine.execRetrain request s
  | .clearNotice request => Sys2Proof.Machine.execClearNotice request s
  | .setBuffering request => Sys2Proof.Machine.execSetBuffering request s
  | .setStyle request => Sys2Proof.Machine.execSetStyle request s
  | .portConfigurationWrite request => Sys2Proof.Machine.execPortConfigurationWrite request s
  | .forwardingTableWrite request => Sys2Proof.Machine.execForwardingTableWrite request s
  | .streamTableWrite request => Sys2Proof.Machine.execStreamTableWrite request s
  | .accessWindowWrite request => Sys2Proof.Machine.execAccessWindowWrite request s
  | .noticeVectorWrite request => Sys2Proof.Machine.execNoticeVectorWrite request s
  | .counterClear request => Sys2Proof.Machine.execCounterClear request s
  | .standbyOrStagedWrite request => Sys2Proof.Machine.execStandbyOrStagedWrite request s
  | .readOnlyRegionWrite request => Sys2Proof.Machine.execReadOnlyRegionWrite request s
  | .invalidSymbolReceived port run => Sys2Proof.Machine.execInvalidSymbolReceived port run s

end Sys2Proof.Machine
end

