-- ==== Sys2Proof/Safety.lean ====
section
/-! DEFINITION. The terms that statements about the part are made of: runs, what an event may leave changed (frames), what a served request
leaves, and the invariants of the part. -/

namespace Sys2Proof.Machine

/-- One step of the part that answers a next state. -/
def Steps (s t : State) : Prop := step s = .next t

/-- A state that some run from another reaches. -/
inductive Reaches : State → State → Prop where
  | refl (s : State) : Reaches s s
  | tail (s t u : State) : Reaches s t → Steps t u → Reaches s u

/-- A step that ends neither in a fault nor in a refusal. -/
def Safe (s : State) : Prop := ∃ t, step s = .next t

/-- The counters that lost offers and notices raise (R19, R31, R206). -/
def Counter.byNotices : Counter → Bool
  | .overflow _ _ => true
  | .notReady _ _ => true
  | .noticesQueued => true
  | .noticesNotQueued => true
  | _ => false

/-- The counters that gate commands and their reports raise besides: fired, late, skipped and not-sent of each channel (R138, R151). -/
def Counter.byGates : Counter → Bool
  | .channel _ n => n.val < 4
  | c => c.byNotices

/-- The counters that the supervisor's moves raise besides (R190). -/
def Counter.bySupervisor : Counter → Bool
  | .blockEntries => true
  | .trips => true
  | .recoveries => true
  | .holdingEntries => true
  | c => c.byGates

/-- t differs from s at most in the counters of the supervisor, of gate commands and of notices, the notice unit, the ACCESS queues, PS's TIMED queue, the channels, the supervisor, the table
store, the tracker and the pace generator. -/
structure SupFrame (s t : State) : Prop where
  pending : t.pending = s.pending
  nodeId : t.nodeId = s.nodeId
  fwd : t.fwd = s.fwd
  merge : t.merge = s.merge
  engine : t.engine = s.engine
  agent : t.agent = s.agent
  pn : { t.pn with access := [] } = { s.pn with access := [] }
  ps : { t.ps with access := [], timed := [] } = { s.ps with access := [], timed := [] }
  counts : ∀ c : Counter, c.bySupervisor = false → t.counter c = s.counter c

/-- t differs from s at most in the counters of gate commands and notices, the notice unit, the ACCESS queues, PS's TIMED queue and the
channels. -/
structure GateFrame (s t : State) : Prop extends SupFrame s t where
  sup : t.sup = s.sup
  tables : t.tables = s.tables
  tracker : t.tracker = s.tracker
  pace : t.pace = s.pace
  gates : ∀ c : Counter, c.byGates = false → t.counter c = s.counter c

/-- t differs from s at most in the counters of notices, the notice unit and the ACCESS queues: what notices and replies may do. -/
structure QuietFrame (s t : State) : Prop extends GateFrame s t where
  channels : t.channels = s.channels
  timed : t.ps.timed = s.ps.timed
  notes : ∀ c : Counter, c.byNotices = false → t.counter c = s.counter c

/-- The counters that line events at port p raise of themselves: receive errors, training attempts and PACE marks (R22). -/
def Counter.ofLine (p : PortId) : Counter → Bool
  | .error q _ => q == p
  | .trainingAttempts q => q == p
  | .paceSeen q => q == p
  | _ => false

/-- t differs from s at most in port p, in its line counters, and as `SupFrame` allows: what a line event at p may do. An event at PN leaves
the supervisor, the table store, the tracker and the pace generator as they are. -/
structure LinkFrame (p : PortId) (s t : State) : Prop where
  frame : SupFrame { s.setPort p (t.port p) with counters := t.counters } t
  counts : ∀ c : Counter, c.bySupervisor = false → c.ofLine p = false → t.counter c = s.counter c
  north : p = .north → t.sup = s.sup ∧ t.tables = s.tables ∧ t.tracker = s.tracker ∧ t.pace = s.pace

/-- The request left the queue where it stood at its head (R194). -/
def Dequeued (r : Request) (s t : State) : Prop :=
  t.agent = { s.agent with queue := if s.agent.queue.head? = some r then s.agent.queue.tail else s.agent.queue }

/-- The reply of a request at its arrival port (R198, R31): at the tail of the ACCESS queue where the port is transmit-ready and the queue
has room, and otherwise lost, counted by the port. -/
def ReplyGiven (r : Request) (status : Status) (data : List Word) (s t : State) : Prop :=
  if (s.port r.port).transmitReady = true then
    (if (s.port r.port).access.length < 8 then
      (t.port r.port).access = (s.port r.port).access ++ [Frame.reply r.source r.tag status data]
     else (t.port r.port).access = (s.port r.port).access)
  else
    (t.port r.port).access = (s.port r.port).access
      ∧ t.counter (.notReady r.port .access) = s.counter (.notReady r.port .access) + 1

/-- t is u after the agent has answered a request that gets a reply: nothing but the queue, counters, ACCESS queues and the notice unit
differs, the service is counted, and the reply is given. -/
structure Served (r : Request) (status : Status) (data : List Word) (u t : State) : Prop where
  frame : QuietFrame { bump .requestsServed u with agent := t.agent } t
  dequeued : Dequeued r u t
  reply : ReplyGiven r status data u t

/-- The port y is x but for what receiving symbols changes: the frame in reception, the invalid-symbol run, the errored-frame count, the
clean-window run and DEGRADED; the ACCESS queue may have taken notices. -/
def Port.lineKept (x y : Port) : Prop :=
  y = { x with rx := y.rx, invalidRun := y.invalidRun, windowErrors := y.windowErrors, cleanRun := y.cleanRun,
               degraded := y.degraded, access := y.access }

/-- The frame in reception at port p in x, if there is one, has been cut in t, and counted once by its cause: TRUNCATED where its first
byte is A7, and DELIMITER otherwise (R5, R6, R8). It is one errored frame more of its window, and DEGRADED follows while the port stays in
UP or FAR_FAULT (R20). -/
def CutCounted (p : PortId) (x t : State) : Prop :=
  match (x.port p).rx with
  | none => ∀ k, t.counter (.error p k) = x.counter (.error p k)
  | some r => ∀ cause : Fin 5, cause = (if byteAt r.bytes 0 = 0xA7#8 ∧ 0 < r.count then 1 else 0) →
      t.counter (.error p cause) = x.counter (.error p cause) + 1
        ∧ (∀ k, k ≠ cause → t.counter (.error p k) = x.counter (.error p k))
        ∧ (t.port p).windowErrors = (x.port p).windowErrors + 1
        ∧ (t.port p).degraded = ((t.port p).link.receives
          && ((x.port p).degraded || decide ((x.port p).hiErrThreshold ≤ (x.port p).windowErrors + 1)))

/-- The port configuration (R23) and the last PACE mark sent stay. -/
def Port.configKept (x y : Port) : Prop :=
  y.oneWay = x.oneWay ∧ y.hiErrThreshold = x.hiErrThreshold ∧ y.accessPriority = x.accessPriority
    ∧ y.lastPaceSent = x.lastPaceSent

/-- The port is without frames: its queues are empty, no frame is in transmission, and the effective priorities are initial (R19, R34). -/
def Port.isFlushed (x : Port) : Prop :=
  x.timed = [] ∧ x.access = [] ∧ x.measure = [] ∧ x.pass = [] ∧ x.tx = none
    ∧ x.effAccess = x.accessPriority ∧ x.effMeasure = 4 ∧ x.effPass = 6

/-- t is s after a training attempt failed at port p (R12, R13): the count rises, and the port is in HOLDOFF at 8, and otherwise in DOWN,
where R11 takes it on to SEEKING at once with signal present. -/
structure FailedAttempt (p : PortId) (s t : State) : Prop where
  frame : LinkFrame p s t
  config : (s.port p).configKept (t.port p)
  attempts : (t.port p).attempts = (s.port p).attempts + 1
  link : (t.port p).link =
    if 8 ≤ (s.port p).attempts + 1 then .holdoff else if (s.port p).signal then .seeking else .down
  holdoff : (t.port p).holdoffTimer = if (t.port p).link = .holdoff then some 2500000 else none
  seek : (t.port p).seekTimer = if (t.port p).link = .seeking then some 50000 else none
  align : (t.port p).alignTimer = none
  counted : t.counter (.trainingAttempts p) =
    if (t.port p).link = .seeking then s.counter (.trainingAttempts p) + 1 else s.counter (.trainingAttempts p)

/-- t is s after an angle exchange (R164): the banks change roles, and the commit status tells of the activation (R168). Only the event, and
in OFF the evaluation of the permissives, follow. -/
structure AngleExchanged (s t : State) : Prop where
  frame : SupFrame s t
  bank : t.tables.angleActiveB = !s.tables.angleActiveB
  valid : t.tables.angleValid = true
  stored : t.tables.angleA = s.tables.angleA ∧ t.tables.angleB = s.tables.angleB
  commit : t.tables.angleCommit = { s.tables.angleCommit with
    state := .idle, timer := 0, result := .activated, failing := 0, activeCheck := s.tables.angleCommit.computed,
    activations := s.tables.angleCommit.activations + 1 }
  others : t.tables.refCommit = s.tables.refCommit ∧ t.tables.paramsCommit = s.tables.paramsCommit
    ∧ t.tables.refA = s.tables.refA ∧ t.tables.refB = s.tables.refB ∧ t.tables.refActiveB = s.tables.refActiveB
    ∧ t.tables.staged = s.tables.staged ∧ t.tables.active = s.tables.active ∧ t.tables.paramsValid = s.tables.paramsValid
  item : t.sup.items = { s.sup.items with angle := true, notTripped := t.sup.items.notTripped }

/-- t is s after an event with a detail was raised at a notice source (R204): discarded where the source is disabled; one repeat more,
to at most 255, with the latest detail where the source is pending; otherwise one NOTICE frame, offered to the ACCESS queue of the
routed port (R31), with the source pending where it was placed. A NOTICE that is lost raises no event (R206). -/
def Raised (n : SourceId) (d : Word) (s t : State) : Prop :=
  ∀ e : NoticeEntry, e = s.notices[n] →
    (e.enable = false → t = s)
    ∧ (e.enable = true → e.pending = true → t = s.setNotice n { e with repeats := min 255 (e.repeats + 1), latest := some d })
    ∧ (e.enable = true → e.pending = false →
      ((s.port e.route).transmitReady = true → (s.port e.route).access.length < 8 →
        t = bump .noticesQueued ((s.modPort e.route (fun x =>
            { x with access := x.access ++ [.notice e.dest n e.vector 0 s.sup.state d] })).setNotice n
              { e with pending := true, repeats := 0, latest := some d }))
      ∧ ((s.port e.route).transmitReady = true → 8 ≤ (s.port e.route).access.length →
        t = bump .noticesNotQueued ((bump (.overflow e.route .access) s).setNotice n
          { e with pending := false, repeats := 0, latest := none }))
      ∧ ((s.port e.route).transmitReady = false →
        t = bump .noticesNotQueued ((bump (.notReady e.route .access) s).setNotice n
          { e with pending := false, repeats := 0, latest := none })))

/-- t is s after an event that is raised only where a condition holds. -/
def RaisedIf (b : Bool) (n : SourceId) (d : Word) (s t : State) : Prop := if b then Raised n d s t else t = s

/-- t is s after a frame was offered to the queue of class c at port p (R31): placed at the tail, or lost to a full queue, counted as an
overflow drop and, unless it is a NOTICE frame, told by QUEUE_DROP with the port, the class and the frame's kind, or lost at a port that
is not transmit-ready and counted as a not-ready drop (R19). -/
def Offered (p : PortId) (c : TxClass) (f : Frame) (s t : State) : Prop :=
  if (s.port p).transmitReady = true then
    (if ((s.port p).queue c).length < capacity c then t = s.modPort p (fun x => x.setQueue c (x.queue c ++ [f]))
     else QuietFrame (bump (.overflow p c) s) t
      ∧ (c ≠ .access → t.counter (.overflow p c) = s.counter (.overflow p c) + 1)
      ∧ RaisedIf (decide (f.kind ≠ 0x33#8)) srcQueueDrop
        (BitVec.ofNat 32 (portCode p * 16777216 + classCode c * 65536 + f.kind.toNat * 256)) (bump (.overflow p c) s) t)
  else t = bump (.notReady p c) s

/-- t is u after the agent has ended a posted request (R197): no reply, and ACCESS_ERROR where the status is not OK, with the tag, the
operation and the status as its detail. -/
structure Posted (r : Request) (status : Status) (u t : State) : Prop where
  frame : QuietFrame { bump .requestsServed u with agent := t.agent } t
  dequeued : Dequeued r u t
  quiet : status = .ok → t.notices = u.notices ∧ t.pn = u.pn ∧ t.ps = u.ps
  raised : RaisedIf (decide (status ≠ .ok)) srcAccessError
    (BitVec.ofNat 32 (r.tag.toNat * 65536 + r.operation.toNat * 256 + statusCode status)) { bump .requestsServed u with agent := t.agent } t

/-- t is u after the agent has answered a write request, posted or not. -/
def Answered (r : Request) (posted : Bool) (status : Status) (u t : State) : Prop :=
  if posted then Posted r status u t else Served r status [] u t

/-- t is s after a block entry (R177 to R179, R186): its entry joins the history, the oldest of 15 leaving; TRIPPED, with the trip record
latched, where the unexpired entries reach tripCount, and else BLOCKED with a recovery count of 0; holding count and ramp order cleared;
every channel BLOCKED and no FIRE command left in PS's TIMED queue. -/
structure BlockEntered (cause : Cause) (v : ValveId) (s t : State) : Prop where
  frame : SupFrame s t
  kept : t.tables = s.tables ∧ t.tracker = s.tracker ∧ t.pace = s.pace ∧ t.sup.lastPass = s.sup.lastPass
  history : t.sup.history =
    (if 15 ≤ s.sup.history.length then s.sup.history.drop (s.sup.history.length - 14) else s.sup.history)
      ++ [{ pass := s.sup.lastPass, cause := cause, valve := v, expired := false }]
  state : t.sup.state =
    if pTripCount s.par ≤ (t.sup.history.filter (fun e => !e.expired)).length then .tripped else .blocked
  items : t.sup.items = { s.sup.items with notTripped := decide (t.sup.state ≠ .tripped) }
  cleared : t.sup.holding = 0 ∧ t.sup.ramp = false
  counted : t.counter .blockEntries = s.counter .blockEntries + 1
  tripped : t.sup.state = .tripped → t.counter .trips = s.counter .trips + 1
    ∧ t.sup.trip = { latched := true, causeCode := causeCode cause, valve := v, pass := s.sup.lastPass }
  blocked : t.sup.state = .blocked → t.counter .trips = s.counter .trips ∧ t.sup.trip = s.sup.trip ∧ t.sup.recovery = 0
  channels : ∀ w : ValveId, (t.channel w).state = .blocked
  purged : ∀ f, f ∈ t.ps.timed → f.fires = []

/-- t is s after a protective condition arrived between pass records (R176): a block entry in RUNNING and HOLDING, a recovery count of 0
in BLOCKED, nothing in the other states. -/
def ProtectiveTaken (cause : Cause) (v : ValveId) (s t : State) : Prop :=
  match s.sup.state with
  | .running => BlockEntered cause v s t
  | .holding => BlockEntered cause v s t
  | .blocked => t = { s with sup := { s.sup with recovery := 0 } }
  | _ => t = s

/-- t is s after the tracker told a change of its state (R85, R172, R173, R176): the TRACKER_STATE event, and the TRACKER item, met in LOCKED
only. In OFF and READY the item may move the supervisor; elsewhere leaving LOCKED is a protective condition. -/
def TrackerTold (old new : TrackerState) (e : Int) (s t : State) : Prop :=
  ∃ w x : State, Raised srcTrackerState (trackerDetail old new e) s w
    ∧ x = { w with sup := { w.sup with items := { w.sup.items with tracker := decide (new = .locked) } } }
    ∧ (match s.sup.state with
       | .off => if x.sup.items.hold = true then GateFrame { x with sup := { x.sup with state := .ready } } t else t = x
       | .ready => if x.sup.items.hold = true then t = x
          else SupFrame s t ∧ (t.sup.state = .off ∨ (t.sup.state = .ready ∧ t.sup.items.hold = true))
       | _ => if old = .locked ∧ new ≠ .locked then ProtectiveTaken .trackerNotLocked 0 x t else t = x)

/-- t is s after the reference banks were exchanged (R164): the banks change roles, the commit status tells of the activation (R168), and
nothing but its COMMIT_RESULT event follows. -/
def ReferenceExchanged (s t : State) : Prop :=
  QuietFrame { s with tables := { s.tables with
    refActiveB := !s.tables.refActiveB, refValid := true,
    refCommit := { s.tables.refCommit with
      state := .idle, timer := 0, result := .activated, failing := 0, activeCheck := s.tables.refCommit.computed,
      activations := s.tables.refCommit.activations + 1 } } } t

/-- t is s after the staged parameter record became active (R165): a change of fn makes the previous pace event the origin (R44) and sets
the tracker FREE at its nominal inc (R84); a change of passPhase makes the next boundary the first one after G (R75). In OFF the items it
sets may make the permissives hold (R173). -/
structure ParamsActivated (s t : State) : Prop where
  frame : SupFrame s t
  tables : t.tables = { s.tables with
    active := s.tables.staged, paramsValid := true,
    paramsCommit := { s.tables.paramsCommit with
      state := .idle, timer := 0, result := .activated, failing := 0, activeCheck := s.tables.paramsCommit.computed,
      activations := s.tables.paramsCommit.activations + 1 } }
  pace : t.pace = (if pFn s.tables.staged = pFn s.par then s.pace
    else { s.pace with sinceOrigin := 0, length := paceAt (pFn s.tables.staged) 1 })
  tracker : t.tracker = { (if pFn s.tables.staged = pFn s.par then s.tracker
      else { s.tracker with state := .free, inc := 33554432, gain := 3, lockRun := 0, unlockRun := 0, holdoverRun := 0 }) with
    nextBoundary := t.tracker.nextBoundary }
  boundary : if pPassPhase s.tables.staged = pPassPhase s.par then t.tracker.nextBoundary = s.tracker.nextBoundary
    else t.tracker.nextBoundary.toNat % 32768 = pPassPhase s.tables.staged % 32768
      ∧ 0 < diff t.tracker.nextBoundary s.g ∧ diff t.tracker.nextBoundary s.g ≤ 32768
  items : t.sup.items = { s.sup.items with
    parameters := true,
    tracker := s.sup.items.tracker && decide (pFn s.tables.staged = pFn s.par ∨ s.tracker.state = .free),
    notTripped := t.sup.items.notTripped }
  moved : t.sup.state = if s.sup.state = .off ∧ t.sup.items.hold = true then .ready else s.sup.state

/-- t is s after one table was exchanged or activated (R164, R165). The parameter record is tested once more by condition 4 of R162, and
refused with result STATE where that does not hold. -/
def TableTaken (id : TableId) (s t : State) : Prop :=
  match id with
  | .angle => AngleExchanged s t
  | .reference => ReferenceExchanged s t
  | .parameters =>
    if s.sup.state = .off ∨ (s.tables.staged[0] = s.par[0] ∧ s.tables.staged[1] = s.par[1]) then ParamsActivated s t
    else QuietFrame { s with tables := { s.tables with
      paramsCommit := { s.tables.paramsCommit with state := .idle, timer := 0, result := .state, failing := 0 } } } t

/-- t is s after a table was taken where it was PENDING. -/
def TakenIfPending (id : TableId) (s t : State) : Prop :=
  if (s.tables.commit id).state = .pending then TableTaken id s t else t = s

/-- t is s after every PENDING table was taken (R164 to R166), the parameter record first and the reference table last (assumption 6). -/
def PendingTaken (s t : State) : Prop :=
  ∃ u v : State, TakenIfPending .parameters s u ∧ TakenIfPending .angle u v ∧ TakenIfPending .reference v t

/-- The bits of word k of a region that a write stores and a read returns (R23, R25, R48, R158, R159, R196, R203); bits outside it read 0. -/
def Region.mask (r : Region) (k : Nat) : Word :=
  match r with
  | .forwarding => if k % 4 = 0 then 0x77#32 else if k % 4 = 2 then 0x3FF#32 else 0x1FF#32
  | .streamTable =>
    if k % 4 = 0 then 0xFF0F#32 else if k % 4 = 1 then 0xFFF#32 else if k % 4 = 2 then 0xFFFF#32 else 0xFF#32
  | .windows => if k % 4 = 0 then 0xF#32 else 0xFFFFFFFF#32
  | .vectors => if k % 2 = 0 then 0xFFFF03#32 else 0#32
  | .portConfig => if k % 8 < 3 then 0xFFFFFFFF#32 else 0#32
  | .staged => if paramUnnamed k then 0#32 else 0xFFFFFFFF#32
  | _ => 0xFFFFFFFF#32

/-- Every word of a region reads as before, but for those from word i on that were written: they read as the written words within the
region's mask. -/
def ReadsBack (r : Region) (i : Nat) (ws : List Word) (s t : State) : Prop :=
  ∀ k, k < r.words → readWord r k t =
    (if i ≤ k ∧ k < i + ws.length then ws.getD (k - i) 0 &&& r.mask k else readWord r k s)

/-- The state that the end of a frame finds, with the frame taken out of reception (R5), and the port that was in FAR_FAULT back in UP
(R15, assumption 10). -/
def frameTaken (p : PortId) (run : LineRun) (s : State) : State :=
  let x := (receiveSymbols p run s).modPort p (fun x => { x with rx := none, invalidRun := 0 })
  if (s.port p).link = .farFault then changeLink p .up x else x

/-- The same after a good frame was counted by its kind (R9). -/
def goodTaken (p : PortId) (run : LineRun) (r : RxFrame) (s : State) : State :=
  bump (.good p (kindIndex (byteAt r.bytes 1))) (frameTaken p run s)

/-- A frame r stands in reception at a port in UP or FAR_FAULT once the symbols of the run have been received, and passes the receive
checks. -/
structure GoodFrame (p : PortId) (run : LineRun) (s : State) (r : RxFrame) : Prop where
  receives : (s.port p).link = .up ∨ (s.port p).link = .farFault
  rx : ((receiveSymbols p run s).port p).rx = some r
  good : receiveChecks r = none

/-- c is y after a frame that arrived at a port was consumed (R28): MEASURE from the source of an enabled stream goes to that stream's
placement, VALVE_REPORT at PS that names a channel to that channel, each counted consumed; everything else is counted unclaimed. -/
def Consumed (p : PortId) (bytes : List Byte) (y c : State) : Prop :=
  (byteAt bytes 1 = 0x11#8 →
    (∀ i : StreamId, (y.merge.table[i]).enable = true → (y.merge.table[i]).source = sourceOf bytes →
      (∀ j : StreamId, j < i → ¬((y.merge.table[j]).enable = true ∧ (y.merge.table[j]).source = sourceOf bytes)) →
      c = placeFrame i (byteAt (payloadOf bytes) 2).toNat (measuredSets (payloadOf bytes)) (bump (.consumed p) y))
    ∧ ((∀ i : StreamId, ¬((y.merge.table[i]).enable = true ∧ (y.merge.table[i]).source = sourceOf bytes)) →
      c = bump (.unclaimed p) y))
  ∧ (byteAt bytes 1 = 0x23#8 →
    (∀ v : ValveId, p = .south → (byteAt (payloadOf bytes) 0).toNat = v →
      c = takeReport v (valveReport (payloadOf bytes)) (bump (.consumed p) y))
    ∧ (p = .north ∨ 6 ≤ (byteAt (payloadOf bytes) 0).toNat → c = bump (.unclaimed p) y))
  ∧ (byteAt bytes 1 ≠ 0x11#8 → byteAt bytes 1 ≠ 0x23#8 → c = bump (.unclaimed p) y)

/-- t is s after the angles of a delivered pass went to the channels of their branches (R122), in valve order (assumption 6). -/
def Delivered (r : PassRecord) (s t : State) : Prop :=
  if r.target = .ramp ∨ r.target = .auto ∨ r.target = .manual then
    t = deliverAngle 5 (r.branches[2]).alpha (deliverAngle 4 (r.branches[2]).alpha (deliverAngle 3 (r.branches[1]).alpha
      (deliverAngle 2 (r.branches[1]).alpha (deliverAngle 1 (r.branches[0]).alpha (deliverAngle 0 (r.branches[0]).alpha s)))))
  else t = s

/-- t is s after one output of a completion (R94): the three notices against the record before (R104, R126), each where its flag is new,
in this order (assumption 6); e, or no e, at the tracker; the delivered angles; the record at the supervisor (R175). -/
def OutputTaken (before r : PassRecord) (e : Option Int) (o : PassOutput) (s t : State) : Prop :=
  match o with
  | .notices => ∃ u v : State,
      RaisedIf (r.flags.undervoltage && !before.flags.undervoltage) srcUndervoltage (halves r.number.toNat r.mag1) s u
      ∧ RaisedIf (r.flags.rotationFault && !before.flags.rotationFault) srcRotationFault (halves r.mag2 r.mag1) u v
      ∧ RaisedIf ((r.flags.capLimit || r.flags.indLimit) && !(before.flags.capLimit || before.flags.indLimit)) srcDemandLimit
          (demandLimitDetail r) v t
  | .tracker => t = (match e with
      | some x => completionWithE x s
      | none => completionWithoutE s)
  | .delivery => Delivered r s t
  | .supervisor => t = takeRecord r s

/-- t is s after the supervisor evaluated the permissives (R173): from OFF to READY where they hold, from READY to OFF where they do not (and
on to READY where an activation at the entry into OFF makes them hold). -/
def Evaluated (s t : State) : Prop :=
  match s.sup.state with
  | .off => if s.sup.items.hold = true then GateFrame { s with sup := { s.sup with state := .ready } } t else t = s
  | .ready => if s.sup.items.hold = true then t = s
      else SupFrame s t ∧ (t.sup.state = .off ∨ (t.sup.state = .ready ∧ t.sup.items.hold = true))
  | _ => t = s

/-- A slot that a row has to have filled (R59): that of the enabled entry of the selected voltage role, and that of every enabled FEEDER in
LOCKED. -/
def RequiredSlot (m : Merge) (i : StreamId) : Prop :=
  (m.table[i]).enable = true
    ∧ (((m.table[i]).role = .feeder ∧ (m.status[i]).state = .locked)
      ∨ ((m.selection = .main ∧ (m.table[i]).role = .voltageMain ∨ m.selection = .standby ∧ (m.table[i]).role = .voltageStandby)
        ∧ ∀ j : StreamId, j < i → ¬((m.table[j]).enable = true ∧ (m.table[j]).role = (m.table[i]).role)))

/-- A row is complete (R59): it has a required slot, and each one is filled. -/
def RowComplete (m : Merge) (r : Row) : Prop :=
  (∃ i, RequiredSlot m i) ∧ ∀ i, RequiredSlot m i → (r.slots[i]).isSome = true

/-- t is s after the oldest open row was tested, closed where it was due, and the next one tested in turn, up to the first that was not due
(R59 to R61). -/
inductive ClosedInTurn (due : State → Row → Prop) : State → State → Prop where
  | done (s : State) : (∀ r, s.merge.rows.head? = some r → ¬due s r) → ClosedInTurn due s s
  | close (s t : State) (r : Row) : s.merge.rows.head? = some r → due s r → ClosedInTurn due (closeRow r s) t → ClosedInTurn due s t

/-- The channel of a FIRE command after PS has reported it (R138): changed only where the channel is in ISSUED and its latest fire position is
the command's. -/
def reportTaken (c : GateCommand) (o : FireOutcome) (state : ChannelState) (s : State) : State :=
  if (s.channel c.valve).state = .issued ∧ (s.channel c.valve).latest = c.latest then
    s.setChannel c.valve { s.channel c.valve with outcome := o, state := state }
  else s

/-- t is s after the check of a GATE frame's commands at its transmit start, in their order, and the last list but one holds those that
remain (R38, R39): a BLOCK or DEBLOCK stays; a FIRE outside RUNNING and HOLDING goes and is reported NOT_SENT; one with lateMargin left
stays; one that can still fire by its latest position moves to G + lateMargin with its LATE mark, a SUSTAIN pulse shortened by the units
moved, and LATE_FIRE names the valve and those units; any other goes, is reported SKIPPED, and SKIPPED_FIRE names the valve, cause 1 and
the phase it was to fire at. -/
inductive CommandsChecked (firing : Bool) : List GateCommand → State → List GateCommand → State → Prop where
  | none (s : State) : CommandsChecked firing [] s [] s
  | plain (c : GateCommand) (cs kept : List GateCommand) (s t : State) : c.code ≠ .fire → CommandsChecked firing cs s kept t →
      CommandsChecked firing (c :: cs) s (c :: kept) t
  | notSent (c : GateCommand) (cs kept : List GateCommand) (s t : State) : c.code = .fire → firing = false →
      CommandsChecked firing cs (bump (.channel c.valve 3) (reportTaken c .notSent .idle s)) kept t →
      CommandsChecked firing (c :: cs) s kept t
  | inTime (c : GateCommand) (cs kept : List GateCommand) (s t : State) : c.code = .fire → firing = true →
      (pLateMargin s.par c.valve : Int) ≤ diff c.position s.g → CommandsChecked firing cs s kept t →
      CommandsChecked firing (c :: cs) s (c :: kept) t
  | late (c : GateCommand) (cs kept : List GateCommand) (m units : Nat) (s u t : State) : c.code = .fire → firing = true →
      m = pLateMargin s.par c.valve → diff c.position s.g < m → ¬0 < diff (s.g + BitVec.ofNat 32 m) c.latest →
      units = (m - diff c.position s.g).toNat →
      Raised srcLateFire (BitVec.ofNat 32 (c.valve.val * 16777216 + units % 65536)) s u → CommandsChecked firing cs u kept t →
      CommandsChecked firing (c :: cs) s ({ c with
        position := s.g + BitVec.ofNat 32 m, late := true,
        pulse := if c.style = .sustain then c.pulse - units else c.pulse } :: kept) t
  | skipped (c : GateCommand) (cs kept : List GateCommand) (m : Nat) (s u t : State) : c.code = .fire → firing = true →
      m = pLateMargin s.par c.valve → diff c.position s.g < m → 0 < diff (s.g + BitVec.ofNat 32 m) c.latest →
      Raised srcSkippedFire (BitVec.ofNat 32 (c.valve.val * 16777216 + 65536 + phaseOf c.position))
        (bump (.channel c.valve 2) (reportTaken c .skipped .idle s)) u →
      CommandsChecked firing cs u kept t → CommandsChecked firing (c :: cs) s kept t

/-- The target of a branch before the clamp, by the target source of the pass (R113, R114, R117): L_safe, the filter susceptance less the
branch demand at nominal voltage times the gain, the manual value, or L_prev within the range. -/
def unclampedTarget (p : ParamRecord) (d : Int) (mag1 : Nat) (src : TargetSource) (manual prev : Nat) (b : BranchId) : Int :=
  match src with
  | .ramp => pLsafe p b
  | .auto => pBfc p b - roundDiv (max (-65535) (min 65535 (roundDiv (d * pVnom p) mag1)) * pKd p b) 256
  | .manual => manual
  | _ => prev

/-- z is the result of the demand stage of branch b with the demand d, the manual value and L_prev' as given (R117 to R121): the target clamped
to 0 to B_Lmax with its flag, the change from L_prev' limited to slewMax with its flag, the conduction fraction, and the firing angle
interpolated in the angle table, which lies between the two words it is interpolated from. L_safe and L_prev' raise no limit flag, and a
slewMax of at least B_Lmax limits nothing. -/
structure BranchComputed (p : ParamRecord) (angle : AngleTable) (d : Int) (mag1 : Nat) (src : TargetSource) (manual prev : Nat)
    (b : BranchId) (z : BranchResult) : Prop where
  demand : z.demand = d
  target : z.target = max 0 (min (pBlmax p b : Int) (unclampedTarget p d mag1 src manual prev b))
  capLimit : z.capLimit = true ↔ unclampedTarget p d mag1 src manual prev b < 0
  indLimit : z.indLimit = true ↔ (pBlmax p b : Int) < unclampedTarget p d mag1 src manual prev b
  slew : z.slew = true ↔ pSlewMax p b < (z.target - prev).natAbs
  limited : z.slew = true → (z.reactor : Int) = if prev < z.target then (prev : Int) + pSlewMax p b else prev - pSlewMax p b
  reached : z.slew = false → (z.reactor : Int) = z.target
  conduction : (z.conduction : Int) = roundDiv ((z.reactor : Int) * 65536) (pBlmax p b) ∧ z.conduction ≤ 65536
  full : z.conduction = 65536 → z.alpha = (angle[256]).toNat
  interpolated : ∀ (i fr : Nat) (h : i < 256), z.conduction = 256 * i + fr → fr < 256 →
    (z.alpha : Int) = (angle[i]).toNat + roundDiv (((angle[i + 1]).toNat - (angle[i]).toNat : Int) * fr) 256
  between : ∀ (i fr : Nat) (h : i < 256), z.conduction = 256 * i + fr → fr < 256 → (angle[i + 1]).toNat ≤ (angle[i]).toNat →
    (angle[i + 1]).toNat ≤ z.alpha ∧ z.alpha ≤ (angle[i]).toNat
  range : (∀ (i : Nat) (h : i < 257), 16384 ≤ (angle[i]).toNat ∧ (angle[i]).toNat ≤ 32768) → 16384 ≤ z.alpha ∧ z.alpha ≤ 32768
  unflagged : src ≠ .auto → src ≠ .manual → (src = .ramp → pLsafe p b ≤ pBlmax p b) → prev ≤ pBlmax p b →
    z.capLimit = false ∧ z.indLimit = false
  unlimited : pBlmax p b ≤ pSlewMax p b → prev ≤ pBlmax p b → z.slew = false

/-- The GATE commands of a frame. -/
def Frame.commands : Frame → List GateCommand
  | .gate cs => cs
  | _ => []

/-- The frames of a class that a port holds, the one in transmission included. -/
def Port.held (x : Port) (c : TxClass) : Nat := (x.queue c).length + (if x.tx.map TxFrame.cls = some c then 1 else 0)

/-- The port may begin a frame (R18): it is transmit-ready and no frame is in transmission. -/
def Port.canStart (x : Port) : Prop := x.transmitReady = true ∧ x.tx = none

/-- A port keeps its bounds: the queue capacities (R31), the attempt count and the
timers of the states that started them (R10, R12), the effective priorities (R33), the clean-window run
(R20), the receive buffer (R5), the configuration's ranges (R23), what belongs to the working states only (R3, R14, R20), and the
empty queues of a port that is not transmit-ready (R19). -/
structure PortInv (p : Port) : Prop where
  timed : p.timed.length ≤ 4
  access : p.access.length ≤ 8
  measure : p.measure.length ≤ 16
  pass : p.pass.length ≤ 16
  attempts : p.attempts ≤ 8
  working : p.link ≠ .holdoff → p.attempts ≤ 7
  seeking : p.seekTimer.isSome = true → p.link = .seeking
  aligned : p.alignTimer.isSome = true → p.link = .aligned
  holdoff : p.holdoffTimer.isSome = true → p.link = .holdoff
  effAccess : p.effAccess ≤ p.accessPriority
  effMeasure : p.effMeasure ≤ 4
  effPass : p.effPass ≤ 6
  priority : 1 ≤ p.accessPriority ∧ p.accessPriority ≤ 15
  threshold : 1 ≤ p.hiErrThreshold ∧ p.hiErrThreshold ≤ 255
  cleanRun : p.cleanRun ≤ 8
  invalidRun : p.invalidRun ≤ 16
  rx : ∀ r, p.rx = some r → r.bytes.length ≤ 506 ∧ p.link.receives = true
  window : p.windowTimer.isSome = p.link.receives
  degraded : p.degraded = true → p.link.receives = true
  request : p.paceRequest.isSome = true → p.link.receives = true
  train : p.trainOwed = true → p.link = .up
  ready : p.transmitReady = false →
    p.tx = none ∧ p.timed = [] ∧ p.access = [] ∧ p.measure = [] ∧ p.pass = []

/-- The open rows stand in index order from the row after the last closed one up to row P (R58), and the history's indices rise by one up
to the last closed index (R67). -/
structure MergeInv (s : State) : Prop where
  rows : ∀ (k : Nat) (h : k < s.merge.rows.length), s.merge.rows[k].index = s.merge.lastClosed + 1 + BitVec.ofNat 32 k
  newest : s.pace.count = s.merge.lastClosed + BitVec.ofNat 32 s.merge.rows.length
  history : ∀ (k : Nat) (h : k < s.merge.history.length), s.merge.history[k].index = s.merge.lastClosed - BitVec.ofNat 32 k
  ring : s.merge.history.length ≤ 256

/-- The bounds of the grid tracker: inc (R81), the gain step (R82), the runs (R77, R78), the last step (R79) and the last e (R105). -/
structure TrackerInv (t : Tracker) : Prop where
  inc : 30198989 ≤ t.inc ∧ t.inc ≤ 36909875
  gain : t.gain ≤ 3
  lockRun : t.lockRun ≤ 8 ∧ (t.state = .pullIn → t.lockRun ≤ 7)
  unlockRun : t.unlockRun ≤ 2 ∧ (t.state = .locked → t.unlockRun ≤ 1)
  holdover : t.holdoverRun ≤ 65535
  step : -364 ≤ t.lastStep ∧ t.lastStep ≤ 364
  error : -8192 ≤ t.lastE ∧ t.lastE ≤ 8192

/-- The bounds of the supervisor (R178, R180, R182), its NOT_TRIPPED item (R172), the latch (R179, R185) and the ramp order (R182). -/
structure SupInv (u : Supervisor) : Prop where
  history : u.history.length ≤ 15
  recovery : u.recovery ≤ 255
  holding : u.holding ≤ 255
  notTripped : u.items.notTripped = decide (u.state ≠ .tripped)
  latched : u.trip.latched = decide (u.state = .tripped)
  ramp : u.ramp = true → u.state = .holding

/-- Outside RUNNING and HOLDING every channel is BLOCKED and no FIRE command waits in PS's TIMED queue (R41, R149, R186). -/
structure FiringInv (s : State) : Prop where
  blocked : s.sup.state.fires = false → ∀ v : ValveId, (s.channel v).state = .blocked
  purged : s.sup.state.fires = false → ∀ f, f ∈ s.ps.timed → f.fires = []

/-- The bounds of the engine's list (R90), the channels' miss counts (R146) and the request queue (R193). -/
structure BlockInv (s : State) : Prop where
  boundaries : s.engine.pendingBoundaries.length ≤ 2
  misses : ∀ v : ValveId, (s.channel v).misses ≤ 15
  requests : s.agent.queue.length ≤ 4

end Sys2Proof.Machine
end

