-- ==== Sys2Proof/Certificates/Slice0/Obligations.lean ====
section
/-! DEFINITION. The statements about the part that the provers prove. -/

open Sys2Proof Sys2Proof.Machine
set_option autoImplicit false

/-- For every command c, rest of the queue and state s: where the pending queue is c followed by the rest, step s is exec of c on s with the
queue's rest. The queue is the model's own (assumption 3). (95_what_each_step_holds.md, What each step holds) -/
def Obligations.StepRunsTheFrontCommand : Prop :=
  ∀ (c : Instr) (rest : List Instr) (s : State), s.pending = c :: rest → step s = exec c { s with pending := rest }

/-- On an empty queue the model's step (its own choice, assumption 3) queues the first event that is due; with none due it serves the head
request of the access agent; with none queued one reference clock passes: G rises by floor(inc*(j+1)/n) - floor(inc*j/n), the clock count
rises by 1. On that clock a port that has no frame in transmission puts the mark of its state on the line: TRAIN ready 0 in DOWN and
SEEKING, TRAIN ready 1 in ALIGNED and once on entering UP from there, IDLE otherwise in UP and in FAR_FAULT, NO_RECEIVE in HOLDOFF (which
mark: R2 and R11 to R16; one mark a clock is the model's choice, assumption 18). (04_grid_timebase_and_phase_tracking.md, The grid
position; 10_access_requests_and_notices.md, Requests and the request queue; 01_the_station_link.md, Symbols and marks;
01_the_station_link.md, Port state summary) -/
def Obligations.EmptyQueueStep : Prop :=
  ∀ s : State, s.pending = [] →
    (∀ c cs, dueCommands s = c :: cs → step s = .next { s with pending := [c] })
    ∧ (∀ r q, dueCommands s = [] → s.agent.queue = r :: q → step s = .next (serveRequest r s))
    ∧ (dueCommands s = [] → s.agent.queue = [] →
        ∃ t, step s = .next t ∧ t.pace.clock = s.pace.clock + 1 ∧ t.pace.count = s.pace.count
          ∧ t.tracker.g48 = s.tracker.g48 + BitVec.ofNat 48
              (s.tracker.inc * (s.pace.clock + 1) / s.pace.length - s.tracker.inc * s.pace.clock / s.pace.length)
          ∧ t.sup = s.sup ∧ t.channels = s.channels ∧ t.merge = s.merge ∧ t.counters = s.counters
          ∧ (∀ p : PortId, (s.port p).tx = none → (t.port p).trainOwed = false ∧ (t.port p).lineMark = some
              (match (s.port p).link with
               | .down | .seeking => .train false
               | .aligned => .train true
               | .up => if (s.port p).trainOwed = true then .train true else .idle
               | .farFault => .idle
               | .holdoff => .noReceive))
          ∧ (∀ p : PortId, (s.port p).tx ≠ none →
            (t.port p).trainOwed = (s.port p).trainOwed ∧ (t.port p).lineMark = (s.port p).lineMark))

/-- State.reset holds the values the spec gives power-on reset: ports DOWN with attempt count 0, DEGRADED clear, empty queues and the default
configuration; every counter 0; P 0; no open row, selection NONE, empty history; G 0:0, inc 33,554,432, tracker FREE with s = 3, next
positions 0:32768; no pass, mode AUTO, L_prev and manual values 0; channels BLOCKED with active angle 32768; angle and parameters not
valid, reference valid, commits IDLE; supervisor OFF with an empty history and no trip; window 0 enabled; empty request queue; every
notice source disabled. The node id 0 is the model's choice for unstated straps (assumption 1) and is not stated. (01_the_station_link.md,
Port configuration and reset; 02_frame_switching_and_transmit_scheduling.md, Reset; 03_pacing_and_stream_merging.md, Reset;
04_grid_timebase_and_phase_tracking.md, Reset; 05_the_compensation_pass_measurement.md, Status, counters and reset;
06_the_compensation_pass_demand_and_firing_angle.md, Status and reset; 07_valve_firing_channels.md, Reset;
08_table_banks_and_parameter_staging.md, Reset; 09_operating_states_and_protective_responses.md, Reset; 10_access_requests_and_notices.md,
Counters and reset) -/
def Obligations.ResetState : Prop :=
  (∀ p : PortId, (State.reset.port p).link = .down ∧ (State.reset.port p).attempts = 0 ∧ (State.reset.port p).degraded = false
      ∧ (State.reset.port p).windowTimer = none ∧ (State.reset.port p).rx = none ∧ (State.reset.port p).tx = none
      ∧ (State.reset.port p).timed = [] ∧ (State.reset.port p).access = [] ∧ (State.reset.port p).measure = []
      ∧ (State.reset.port p).pass = [] ∧ (State.reset.port p).effAccess = 2 ∧ (State.reset.port p).effMeasure = 4
      ∧ (State.reset.port p).effPass = 6 ∧ (State.reset.port p).oneWay = false ∧ (State.reset.port p).hiErrThreshold = 8
      ∧ (State.reset.port p).accessPriority = 2)
    ∧ (∀ c : Counter, State.reset.counter c = 0)
    ∧ (∀ i : Fin 16, State.reset.fwd[i].enable = false)
    ∧ State.reset.pace.count = 0
    ∧ (∀ i : StreamId, State.reset.merge.table[i].enable = false ∧ State.reset.merge.table[i].gain = 32768#16
        ∧ State.reset.merge.table[i].holdLimit = 32#8 ∧ State.reset.merge.status[i].state = .disabled)
    ∧ State.reset.merge.rows = [] ∧ State.reset.merge.lastClosed = 0 ∧ State.reset.merge.selection = .none
    ∧ State.reset.merge.mainRun = 0 ∧ State.reset.merge.history = []
    ∧ State.reset.tracker.g48 = 0 ∧ State.reset.tracker.inc = 33554432 ∧ State.reset.tracker.state = .free
    ∧ State.reset.tracker.gain = 3 ∧ State.reset.tracker.nextTimemark = 32768#32 ∧ State.reset.tracker.nextBoundary = 32768#32
    ∧ State.reset.engine.inFlight = none ∧ State.reset.engine.pendingBoundaries = [] ∧ State.reset.engine.passNumber = 0
    ∧ State.reset.engine.mode = .auto ∧ State.reset.engine.rememberedManual = false
    ∧ (∀ b : BranchId, State.reset.engine.manual[b] = 0 ∧ State.reset.engine.lPrev[b] = 0)
    ∧ (∀ v : ValveId, (State.reset.channel v).state = .blocked ∧ (State.reset.channel v).alpha = 32768
        ∧ (State.reset.channel v).pendingValid = false ∧ (State.reset.channel v).buffering = .double
        ∧ (State.reset.channel v).style = .pulse ∧ (State.reset.channel v).misses = 0)
    ∧ State.reset.tables.angleValid = false ∧ State.reset.tables.refValid = true ∧ State.reset.tables.paramsValid = false
    ∧ (∀ id : TableId, (State.reset.tables.commit id).state = .idle ∧ (State.reset.tables.commit id).result = .none)
    ∧ State.reset.sup.state = .off ∧ State.reset.sup.history = [] ∧ State.reset.sup.trip.latched = false
    ∧ State.reset.sup.items.feeders = true ∧ State.reset.sup.items.notTripped = true ∧ State.reset.sup.items.link = false
    ∧ State.reset.agent.queue = [] ∧ State.reset.agent.windows[0].enable = true
    ∧ (∀ n : SourceId, State.reset.notices[n].enable = false ∧ State.reset.notices[n].pending = false)

/-- State.reset meets the six invariants that the tier 3 statements say every step keeps: of the ports, the merge unit, the tracker, the
supervisor, the firing channels and the remaining bounds. (01_the_station_link.md, Port configuration and reset;
03_pacing_and_stream_merging.md, Reset; 04_grid_timebase_and_phase_tracking.md, Reset; 09_operating_states_and_protective_responses.md,
Reset) -/
def Obligations.ResetMeetsTheInvariants : Prop :=
  (∀ p : PortId, PortInv (State.reset.port p)) ∧ MergeInv State.reset ∧ TrackerInv State.reset.tracker
    ∧ SupInv State.reset.sup ∧ FiringInv State.reset ∧ BlockInv State.reset

/-- From every state and for every strap value, POWER_ON_RESET answers a next state: the node id is the strap value, or 254 for 255; a port is
DOWN, or SEEKING with its 2 ms seek timer and one training attempt where its receiver sees signal; every other counter is 0; every other
block is as State.reset has it; the waiting commands stay and the signal detectors keep their reports, which are the model's choice
(assumption 9). (02_frame_switching_and_transmit_scheduling.md, Node id and built-in consumption;
02_frame_switching_and_transmit_scheduling.md, Reset; 01_the_station_link.md, Port configuration and reset) -/
def Obligations.PowerOnResetCommand : Prop :=
  ∀ (straps : Byte) (s : State), ∃ t, exec (.powerOnReset straps) s = .next t
    ∧ t.nodeId = (if straps = 255 then 254 else straps) ∧ t.pending = s.pending
    ∧ (∀ p : PortId, (t.port p).signal = (s.port p).signal
        ∧ (t.port p).link = (if (s.port p).signal then .seeking else .down)
        ∧ (t.port p).seekTimer = (if (s.port p).signal then some 50000 else none)
        ∧ (t.port p).attempts = 0 ∧ (t.port p).tx = none ∧ (t.port p).rx = none
        ∧ (t.port p).timed = [] ∧ (t.port p).access = [] ∧ (t.port p).measure = [] ∧ (t.port p).pass = []
        ∧ t.counter (.trainingAttempts p) = (if (s.port p).signal then 1 else 0))
    ∧ (∀ c : Counter, c ≠ .trainingAttempts .north → c ≠ .trainingAttempts .south → t.counter c = 0)
    ∧ t.fwd = State.reset.fwd ∧ t.pace = State.reset.pace ∧ t.merge = State.reset.merge ∧ t.tracker = State.reset.tracker
    ∧ t.engine = State.reset.engine ∧ t.channels = State.reset.channels ∧ t.tables = State.reset.tables
    ∧ t.sup = State.reset.sup ∧ t.agent = State.reset.agent ∧ t.notices = State.reset.notices

/-- From every state SIGNAL_PRESENT at a port answers a next state in which the detector reports signal; in DOWN the port is then SEEKING with
the 2 ms seek timer running, its valid-mark run 0 and its training-attempts counter one higher; in any other state nothing else changes.
The attempt count is kept, and outside the port only what a state event and PS's report to the supervisor may change differs. The port's
configuration is kept, and outside the port only what `LinkFrame` allows differs. (01_the_station_link.md, Port states) -/
def Obligations.SignalPresentStartsSeeking : Prop :=
  ∀ (p : PortId) (s : State), ∃ t, exec (.signalPresent p) s = .next t ∧ LinkFrame p s t ∧ (s.port p).configKept (t.port p)
    ∧ (t.port p).signal = true ∧ (t.port p).attempts = (s.port p).attempts
    ∧ ((s.port p).link = .down → (t.port p).link = .seeking ∧ (t.port p).seekTimer = some 50000 ∧ (t.port p).validRun = 0
        ∧ t.counter (.trainingAttempts p) = s.counter (.trainingAttempts p) + 1)
    ∧ ((s.port p).link ≠ .down → t = s.setPort p { s.port p with signal := true })

/-- From every state LOSS_OF_SIGNAL at a port answers a next state with no frame in reception: in SEEKING and ALIGNED the attempt count rises
by 1 and the port is DOWN, or HOLDOFF with its 100 ms timer at a count of 8; in UP and FAR_FAULT the port is DOWN with its attempt count
kept; in DOWN and HOLDOFF the state stays. The training-attempts counter is kept. The port's configuration is kept, and outside the port
only what `LinkFrame` allows differs. A frame that stood in reception once the symbols before the event were received is cut and counted
by its cause, TRUNCATED or DELIMITER, as one errored frame of its window, as `CutCounted` spells it; without one no error is counted.
(01_the_station_link.md, Port states; 01_the_station_link.md, Port state summary; 01_the_station_link.md, Frames on the line;
01_the_station_link.md, Link quality) -/
def Obligations.LossOfSignalFailsOrDrops : Prop :=
  ∀ (p : PortId) (run : LineRun) (s : State), ∃ t, exec (.lossOfSignal p run) s = .next t ∧ LinkFrame p s t ∧ (s.port p).configKept (t.port p)
    ∧ (t.port p).signal = false ∧ (t.port p).rx = none ∧ CutCounted p (receiveSymbols p run s) t
    ∧ t.counter (.trainingAttempts p) = s.counter (.trainingAttempts p)
    ∧ (match (s.port p).link with
       | .seeking | .aligned =>
          (t.port p).attempts = (s.port p).attempts + 1
            ∧ (t.port p).link = (if 8 ≤ (s.port p).attempts + 1 then .holdoff else .down)
            ∧ (t.port p).holdoffTimer = (if 8 ≤ (s.port p).attempts + 1 then some 2500000 else none)
       | .up | .farFault => (t.port p).link = .down ∧ (t.port p).attempts = (s.port p).attempts
       | .down | .holdoff => (t.port p).link = (s.port p).link ∧ (t.port p).attempts = (s.port p).attempts)

/-- From every state LOSS_OF_ALIGNMENT at a port answers a next state: from ALIGNED, UP and FAR_FAULT the port is SEEKING with the 2 ms seek
timer running, the align timer cancelled, the valid-mark run 0 and no frame in reception; from any other state its state stays. The
attempt count and the training-attempts counter are kept. The port's configuration is kept, and outside the port only what `LinkFrame`
allows differs. A frame that stood in reception once the symbols before the event were received is cut and counted by its cause, as
`CutCounted` spells it. (01_the_station_link.md, Port states; 01_the_station_link.md, Port state summary; 01_the_station_link.md, Frames
on the line; 01_the_station_link.md, Link quality) -/
def Obligations.LossOfAlignmentReturnsToSeeking : Prop :=
  ∀ (p : PortId) (run : LineRun) (s : State), ∃ t, exec (.lossOfAlignment p run) s = .next t ∧ LinkFrame p s t ∧ (s.port p).configKept (t.port p)
    ∧ (t.port p).attempts = (s.port p).attempts ∧ CutCounted p (receiveSymbols p run s) t
    ∧ t.counter (.trainingAttempts p) = s.counter (.trainingAttempts p)
    ∧ ((s.port p).link = .aligned ∨ (s.port p).link = .up ∨ (s.port p).link = .farFault →
        (t.port p).link = .seeking ∧ (t.port p).seekTimer = some 50000 ∧ (t.port p).alignTimer = none
          ∧ (t.port p).validRun = 0 ∧ (t.port p).rx = none)
    ∧ ((s.port p).link = .down ∨ (s.port p).link = .seeking ∨ (s.port p).link = .holdoff →
        (t.port p).link = (s.port p).link)

/-- From every state a valid mark at a port answers a next state whose port state is the one the port state summary gives: the fourth valid
mark moves SEEKING to ALIGNED, TRAIN ready 1 moves ALIGNED to UP, NO_RECEIVE moves UP to FAR_FAULT, TRAIN ready 0 moves UP and FAR_FAULT
to ALIGNED, IDLE moves FAR_FAULT to UP, and any other mark leaves the state. The entry into ALIGNED starts the 10 ms align timer. The
entry into UP from ALIGNED sets the attempt count to 0, starts a fresh 1 ms window and owes one TRAIN mark. A PACE mark is counted where
the receiver is aligned and no other mark is. The port's configuration is kept, and outside the port only what `LinkFrame` allows differs.
(01_the_station_link.md, Symbols and marks; 01_the_station_link.md, Port states; 01_the_station_link.md, Port state summary) -/
def Obligations.ValidMarkMoves : Prop :=
  ∀ (p : PortId) (run : LineRun) (m : Mark) (s : State), ∃ t, exec (.validMarkReceived p run m) s = .next t ∧ LinkFrame p s t ∧ (s.port p).configKept (t.port p)
    ∧ (t.port p).link =
        (match (s.port p).link, m with
         | .seeking, _ => if 4 ≤ (s.port p).validRun + 1 then .aligned else .seeking
         | .aligned, .train true => .up
         | .up, .noReceive => .farFault
         | .up, .train false => .aligned
         | .farFault, .idle => .up
         | .farFault, .train false => .aligned
         | l, _ => l)
    ∧ ((s.port p).link ≠ .aligned → (t.port p).link = .aligned →
        (t.port p).alignTimer = some 250000 ∧ (t.port p).attempts = (s.port p).attempts)
    ∧ ((s.port p).link = .aligned → (t.port p).link = .up →
        (t.port p).attempts = 0 ∧ (t.port p).alignTimer = none ∧ (t.port p).windowTimer = some 25000
          ∧ (t.port p).windowErrors = 0 ∧ (t.port p).cleanRun = 0 ∧ (t.port p).trainOwed = true)
    ∧ t.counter (.paceSeen p) =
        (match m with
         | .pace _ =>
            if (s.port p).link = .aligned ∨ (s.port p).link = .up ∨ (s.port p).link = .farFault then
              s.counter (.paceSeen p) + 1
            else s.counter (.paceSeen p)
         | _ => s.counter (.paceSeen p))

/-- The frame symbols of a line event, from every state: an SF in UP or FAR_FAULT starts an empty frame, each data symbol after it is one
byte, all are counted and the first 506 stored; in any other state nothing stands in reception; an SF inside a frame cuts that frame,
counted by its cause (R6), and nothing else differs. A PACE mark leaves the frame in reception as the symbols before the mark left it, and
counts no error; any other valid mark leaves no frame in reception, and so does an ill-formed mark, which keeps the port's state and sets
the valid-mark run of SEEKING to 0. A frame that such a mark cuts is counted by its cause, TRUNCATED or DELIMITER, as one errored frame of
its window, as `CutCounted` spells it. (01_the_station_link.md, Symbols and marks; 01_the_station_link.md, Frames on the line;
01_the_station_link.md, Link quality) -/
def Obligations.MarksInsideFrames : Prop :=
  (∀ (p : PortId) (run : LineRun) (s : State),
      ((s.port p).rx = none ∨ run.start = false →
        receiveSymbols p run s = s.setPort p { s.port p with
          invalidRun := if run.start = true ∨ run.data ≠ [] then 0 else (s.port p).invalidRun,
          rx := if (s.port p).link = .up ∨ (s.port p).link = .farFault then
              (if run.start = true then some { bytes := run.data.take 506, count := run.data.length }
               else (s.port p).rx.map (fun r => { bytes := (r.bytes ++ run.data).take 506, count := r.count + run.data.length }))
            else none })
      ∧ (∀ (r : RxFrame) (cause : Fin 5), (s.port p).rx = some r → run.start = true →
        cause = (if byteAt r.bytes 0 = 0xA7#8 ∧ 0 < r.count then 1 else 0) →
        LinkFrame p s (receiveSymbols p run s) ∧ (s.port p).lineKept ((receiveSymbols p run s).port p)
          ∧ ((receiveSymbols p run s).port p).rx = (if (s.port p).link = .up ∨ (s.port p).link = .farFault then
              some { bytes := run.data.take 506, count := run.data.length } else none)
          ∧ (receiveSymbols p run s).counter (.error p cause) = s.counter (.error p cause) + 1
          ∧ (∀ k, k ≠ cause → (receiveSymbols p run s).counter (.error p k) = s.counter (.error p k))
          ∧ ((receiveSymbols p run s).port p).windowErrors = (s.port p).windowErrors + 1))
    ∧ (∀ (p : PortId) (run : LineRun) (tag : Byte) (s : State), ∃ t, exec (.validMarkReceived p run (.pace tag)) s = .next t
      ∧ (t.port p).rx = ((receiveSymbols p run s).port p).rx
      ∧ (∀ k, t.counter (.error p k) = (receiveSymbols p run s).counter (.error p k)))
    ∧ (∀ (p : PortId) (run : LineRun) (m : Mark) (s : State), (∀ tag, m ≠ .pace tag) →
        ∃ t, exec (.validMarkReceived p run m) s = .next t ∧ (t.port p).rx = none
          ∧ CutCounted p (receiveSymbols p run s) t)
    ∧ (∀ (p : PortId) (run : LineRun) (s1 s2 s3 : LineSymbol) (s : State), Mark.ofSymbols s1 s2 s3 = none →
        ∃ t, exec (.illFormedMarkReceived p run s1 s2 s3) s = .next t ∧ LinkFrame p s t ∧ (t.port p).rx = none
          ∧ CutCounted p (receiveSymbols p run s) t
          ∧ (t.port p).link = (s.port p).link ∧ (t.port p).attempts = (s.port p).attempts
          ∧ ((s.port p).link = .seeking → (t.port p).validRun = 0))

/-- From every state an invalid symbol answers a next state with no frame in reception; the frame it cuts is counted by its cause, as
`CutCounted` spells it. The run of invalid symbols rises by 1 up to 16, from 0 where frame symbols came before it. At 16 in ALIGNED, UP or
FAR_FAULT the port is SEEKING with its seek timer running; otherwise the port's state stays, and in SEEKING the valid-mark run is 0. The
port's configuration is kept, and outside the port only what `LinkFrame` allows differs. That the run is held at 16, and that the
sixteenth symbol loses alignment in the same step, are deduced by the model (assumption 12). (01_the_station_link.md, Symbols and marks;
01_the_station_link.md, Port states; 01_the_station_link.md, Frames on the line; 01_the_station_link.md, Link quality) -/
def Obligations.InvalidSymbolRun : Prop :=
  ∀ (p : PortId) (run : LineRun) (s : State), ∃ t, exec (.invalidSymbolReceived p run) s = .next t ∧ LinkFrame p s t ∧ (s.port p).configKept (t.port p)
    ∧ (t.port p).rx = none ∧ CutCounted p (receiveSymbols p run s) t ∧ (t.port p).attempts = (s.port p).attempts
    ∧ (t.port p).invalidRun = min 16 ((if run.start || !run.data.isEmpty then 0 else (s.port p).invalidRun) + 1)
    ∧ (((s.port p).link = .aligned ∨ (s.port p).link = .up ∨ (s.port p).link = .farFault) →
        (t.port p).invalidRun = 16 → (t.port p).link = .seeking ∧ (t.port p).seekTimer = some 50000)
    ∧ ((t.port p).invalidRun < 16 ∨ (s.port p).link.isAligned = false → (t.port p).link = (s.port p).link)
    ∧ ((s.port p).link = .seeking → (t.port p).link = .seeking ∧ (t.port p).validRun = 0)

/-- From every state, a frame arrival that is cut counts cause DELIMITER where the buffer is empty or begins with another byte than A7, else
TRUNCATED; one ended by EF that fails a receive check counts that check's cause. Exactly one error counter of the port rises by 1, the
errored-frame count of the window rises by 1, and DEGRADED is set where it reaches the threshold. The frame leaves reception; a second SF
starts an empty one. A complete frame returns FAR_FAULT to UP (assumption 10: before its check). With no frame in reception a cut counts
nothing. A cut frame, and a bad complete frame at a port in UP, leave the port's state. (01_the_station_link.md, Frames on the line;
01_the_station_link.md, Link quality) -/
def Obligations.EndedFramesThatFailAreCounted : Prop :=
  (∀ (p : PortId) (run : LineRun) (newFrame : Bool) (s x : State), x = receiveSymbols p run s →
      ∃ t, exec (.frameArrival p run (.cut newFrame)) s = .next t ∧ LinkFrame p s t ∧ (s.port p).lineKept (t.port p)
      ∧ (t.port p).rx = (if newFrame = true ∧ (s.port p).link.receives = true then some { bytes := [], count := 0 } else none)
      ∧ ((x.port p).rx = none → (∀ k, t.counter (.error p k) = x.counter (.error p k))
          ∧ (t.port p).windowErrors = (x.port p).windowErrors)
      ∧ (∀ r cause, (x.port p).rx = some r →
          cause = (if byteAt r.bytes 0 = 0xA7#8 ∧ 0 < r.count then (1 : Fin 5) else 0) →
          t.counter (.error p cause) = x.counter (.error p cause) + 1
            ∧ (∀ k, k ≠ cause → t.counter (.error p k) = x.counter (.error p k))
            ∧ (t.port p).windowErrors = (x.port p).windowErrors + 1
            ∧ (t.port p).degraded = ((x.port p).degraded || decide ((x.port p).hiErrThreshold ≤ (x.port p).windowErrors + 1))))
    ∧ (∀ (p : PortId) (run : LineRun) (s x : State) (r : RxFrame) (cause : Fin 5), x = receiveSymbols p run s →
      (x.port p).rx = some r → receiveChecks r = some cause →
      ∃ t, exec (.frameArrival p run .complete) s = .next t ∧ LinkFrame p s t ∧ (t.port p).rx = none
      ∧ (t.port p).link = .up ∧ (t.port p).invalidRun = 0
      ∧ t.counter (.error p cause) = x.counter (.error p cause) + 1
      ∧ (∀ k, k ≠ cause → t.counter (.error p k) = x.counter (.error p k))
      ∧ (t.port p).windowErrors = (x.port p).windowErrors + 1
      ∧ (t.port p).degraded = ((x.port p).degraded || decide ((x.port p).hiErrThreshold ≤ (x.port p).windowErrors + 1)))

/-- A good ACCESS_REQUEST frame at a port in UP or FAR_FAULT whose destination is the node id is counted good and consumed. With fewer than 4
requests queued it joins the tail of the queue and nothing else changes. With 4 queued the refused-at-arrival counter rises and the
request is answered BUSY at its arrival port; a WRITE_POSTED gets no reply and raises ACCESS_ERROR with its tag, operation 3 and status
BUSY, and with source 21 disabled nothing else changes. The whole of the next state is given in the first case. A port in FAR_FAULT is in
UP before the frame is counted (assumption 10), with only what `LinkFrame` allows different outside it; in UP nothing but the frame in
reception and the invalid-symbol run differs there. (02_frame_switching_and_transmit_scheduling.md, Node id and built-in consumption;
10_access_requests_and_notices.md, Requests and the request queue; 10_access_requests_and_notices.md, Replies; 01_the_station_link.md,
Port states; 10_access_requests_and_notices.md, Notices) -/
def Obligations.AccessRequestArrives : Prop :=
  ∀ (p : PortId) (run : LineRun) (r : RxFrame) (s y : State) (q : Request), GoodFrame p run s r → byteAt r.bytes 1 = 0x31#8 →
    destOf r.bytes = s.nodeId → q = requestOf (payloadOf r.bytes) (sourceOf r.bytes) p →
    y = bump (.consumed p) (goodTaken p run r s) →
    ((s.port p).link = .farFault → LinkFrame p s (frameTaken p run s) ∧ ((frameTaken p run s).port p).link = .up
        ∧ ((frameTaken p run s).port p).rx = none)
    ∧ ((s.port p).link = .up → frameTaken p run s =
        (receiveSymbols p run s).setPort p { (receiveSymbols p run s).port p with rx := none, invalidRun := 0 })
    ∧ ∃ t, exec (.frameArrival p run .complete) s = .next t
      ∧ (s.agent.queue.length < 4 → t = { y with agent := { s.agent with queue := s.agent.queue ++ [q] } })
      ∧ (4 ≤ s.agent.queue.length → QuietFrame (bump .refusedAtArrival y) t ∧ t.agent = s.agent)
      ∧ (4 ≤ s.agent.queue.length → q.operation ≠ 3#8 → ReplyGiven q .busy [] (bump .refusedAtArrival y) t)
      ∧ (4 ≤ s.agent.queue.length → q.operation = 3#8 → s.notices[21].enable = false → t = bump .refusedAtArrival y)
      ∧ (4 ≤ s.agent.queue.length → q.operation = 3#8 →
        Raised srcAccessError (BitVec.ofNat 32 (q.tag.toNat * 65536 + 3 * 256 + 1)) (bump .refusedAtArrival y) t)

/-- A good frame at a port in UP or FAR_FAULT that the built-in test does not take goes by the first enabled matching entry: DROP counts a
table drop; FORWARD counts forwarded and offers the frame, with the bytes it arrived with, to the other port in the entry's class; the
entry's hit counter rises. With no match a frame for another node is offered to the other port in class PASS, and a frame for this node
that is neither MEASURE nor VALVE_REPORT is counted unclaimed. The whole next state is given: a frame lost to a full queue is counted and
raises QUEUE_DROP with the port, the class and its kind, except that a forwarded NOTICE frame (kind 0x33) raises none. A port in FAR_FAULT
returns to UP before (assumption 10). (02_frame_switching_and_transmit_scheduling.md, Node id and built-in consumption;
02_frame_switching_and_transmit_scheduling.md, The forwarding table; 02_frame_switching_and_transmit_scheduling.md, Transmit queues;
10_access_requests_and_notices.md, Notices) -/
def Obligations.FramesAreForwarded : Prop :=
  ∀ (p : PortId) (run : LineRun) (r : RxFrame) (s y : State), GoodFrame p run s r → y = goodTaken p run r s →
    ¬(byteAt r.bytes 1 = 0x31#8 ∧ destOf r.bytes = s.nodeId) →
    ∃ t, exec (.frameArrival p run .complete) s = .next t
      ∧ (∀ i, matchingEntry p r.bytes s = some i → (s.fwd[i]).action = .drop → t = bump (.tableDrop p) (bump (.hit i) y))
      ∧ (∀ i, matchingEntry p r.bytes s = some i → (s.fwd[i]).action = .forward →
          Offered (otherPort p) (if (s.fwd[i]).classPass = true then .pass else .measure) (.forwarded r.bytes)
            (bump (.forwarded p) (bump (.hit i) y)) t)
      ∧ (matchingEntry p r.bytes s = none → destOf r.bytes ≠ s.nodeId →
          Offered (otherPort p) .pass (.forwarded r.bytes) (bump (.forwarded p) y) t)
      ∧ (matchingEntry p r.bytes s = none → destOf r.bytes = s.nodeId → byteAt r.bytes 1 ≠ 0x11#8 →
          byteAt r.bytes 1 ≠ 0x23#8 → t = bump (.unclaimed p) y)
      ∧ (∀ i, matchingEntry p r.bytes s = some i → (s.fwd[i]).matches s.nodeId p r.bytes = true
          ∧ ∀ j, j < i → (s.fwd[j]).matches s.nodeId p r.bytes = false)

/-- A good frame at a port in UP or FAR_FAULT (which returns to UP before, assumption 10) that the built-in test does not take and that is
consumed, by default or by an entry of action CONSUME, is handed on by its kind, as `Consumed` spells out: MEASURE from the source node of
an enabled stream to that stream's placement, VALVE_REPORT at PS with a valve id of 0 to 5 to that channel, each counted consumed; MEASURE
from any other source, VALVE_REPORT at PN or with another id, and every other kind, is counted unclaimed and changes nothing else. An
entry of action COPY does the same and then, counted forwarded, offers the frame with the bytes it arrived with to the other port in the
entry's class (consumption first is the model's choice, assumption 6). An overflow of the copy raises QUEUE_DROP, unless the frame is a
NOTICE frame, as `Offered` spells R31. (02_frame_switching_and_transmit_scheduling.md, The forwarding table;
03_pacing_and_stream_merging.md, Placing a MEASURE frame; 07_valve_firing_channels.md, Valve reports;
02_frame_switching_and_transmit_scheduling.md, Transmit queues; 01_the_station_link.md, Port states) -/
def Obligations.ConsumedFramesReachTheirBlock : Prop :=
  ∀ (p : PortId) (run : LineRun) (r : RxFrame) (s y : State), GoodFrame p run s r → y = goodTaken p run r s →
    ¬(byteAt r.bytes 1 = 0x31#8 ∧ destOf r.bytes = s.nodeId) →
    (matchingEntry p r.bytes s = none → destOf r.bytes = s.nodeId →
      ∃ t, exec (.frameArrival p run .complete) s = .next t ∧ Consumed p r.bytes y t)
    ∧ (∀ i, matchingEntry p r.bytes s = some i → (s.fwd[i]).action = .consume →
      ∃ t, exec (.frameArrival p run .complete) s = .next t ∧ Consumed p r.bytes (bump (.hit i) y) t)
    ∧ (∀ i, matchingEntry p r.bytes s = some i → (s.fwd[i]).action = .copy →
      ∃ c t, exec (.frameArrival p run .complete) s = .next t ∧ Consumed p r.bytes (bump (.hit i) y) c
        ∧ Offered (otherPort p) (if (s.fwd[i]).classPass = true then .pass else .measure) (.forwarded r.bytes)
          (bump (.forwarded p) c) t)

/-- A frame whose stream maps a channel that the frame does not carry counts FORMAT and nothing else; otherwise its sets are taken in order.
Placing one set at a stream, from every state: its age is (P - tag) mod 256; an age above 255 - futureGuard counts FUTURE; otherwise its
index is P - age. An index not after the last closed row counts LATE; quality bit 0, or bit 2 without acceptTest, or no open row, leaves
the state as it is; a filled slot counts DUPLICATE; an empty slot takes the scaled values and counts the set accepted. Where the oldest
open row is another one and is not complete, the rows then differ in that slot only, and the stream is ACQUIRING with both counts 0 where
it was SILENT or LOST, and as before otherwise; every other stream keeps its status. A value is the channel that the map names, inverted
where the map says so, times the gain over 32768, rounded and saturated to 16 bits; rotation ACB exchanges b and c. After an accepted set,
with STREAM_STATE and FEEDERS where its stream became ACQUIRING (in this order by the model's choice, assumption 16), the oldest open row
is tested: where it is complete, each required slot filled and at least one required, as `RowComplete` spells R59, it closes, and the next
is tested in turn. (03_pacing_and_stream_merging.md, Placing a MEASURE frame; 03_pacing_and_stream_merging.md, Stream states;
03_pacing_and_stream_merging.md, Merge rows; 03_pacing_and_stream_merging.md, Row close; 09_operating_states_and_protective_responses.md,
Permissives) -/
def Obligations.SetDisposition : Prop :=
  (∀ (i : StreamId) (m : Nat) (sets : List MeasuredSet) (s : State) (e : StreamEntry), e = s.merge.table[i] →
      (m ≤ e.mapA.index ∨ m ≤ e.mapB.index ∨ m ≤ e.mapC.index → placeFrame i m sets s = bump (.stream i 4) s)
      ∧ (e.mapA.index < m → e.mapB.index < m → e.mapC.index < m → placeFrame i m [] s = s
        ∧ ∀ x, placeFrame i m (x :: sets) s = placeFrame i m sets (placeSet i s x)))
    ∧ (∀ (e : StreamEntry) (acb : Bool) (x : MeasuredSet) (value : ChannelMap → Int),
      (∀ c, value c = max (-32767) (min 32767 (roundDiv
        ((if c.invert = true then -(x.channels.getD c.index 0).toInt else (x.channels.getD c.index 0).toInt) * e.gain.toNat) 32768))) →
      slotValues e acb x = { a := value e.mapA, b := value (if acb = true then e.mapC else e.mapB),
                             c := value (if acb = true then e.mapB else e.mapC) })
    ∧ ∀ (i : StreamId) (s : State) (x : MeasuredSet) (age : Nat), age = (s.pace.count.toNat % 256 + 256 - x.tag.toNat) % 256 →
    (255 - pFutureGuard s.par < age → placeSet i s x = bump (.stream i 2) s)
    ∧ (∀ index : Word, age ≤ 255 - pFutureGuard s.par → index = s.pace.count - BitVec.ofNat 32 age →
      (diff index s.merge.lastClosed ≤ 0 → placeSet i s x = bump (.stream i 1) s)
      ∧ (0 < diff index s.merge.lastClosed →
        (x.quality.getLsbD 0 = true → placeSet i s x = s)
        ∧ (x.quality.getLsbD 2 = true → (s.merge.table[i]).acceptTest = false → placeSet i s x = s)
        ∧ ((∀ r, r ∈ s.merge.rows → r.index ≠ index) → placeSet i s x = s)
        ∧ (x.quality.getLsbD 0 = false → (x.quality.getLsbD 2 = true → (s.merge.table[i]).acceptTest = true) →
          ∀ r, s.merge.rows.find? (fun r => r.index == index) = some r →
            ((r.slots[i]).isSome = true → placeSet i s x = bump (.stream i 3) s)
            ∧ (r.slots[i] = none → (placeSet i s x).counter (.stream i 0) = s.counter (.stream i 0) + 1)
            ∧ (∀ (m : Merge) (z : State) (feeders : Bool), r.slots[i] = none →
              m = { s.merge with
                rows := setSlot s.merge.rows index i
                  (some { values := slotValues s.merge.table[i] (pAcb s.par) x, overrange := x.quality.getLsbD 1 }),
                status := s.merge.status.set i (match (s.merge.status[i]).state with
                  | .silent | .lost => { s.merge.status[i] with state := .acquiring, filled := 0, missing := 0 }
                  | _ => s.merge.status[i]) } →
              z = bump (.stream i 0) { s with merge := m } →
              (feeders = true ↔ ∀ j : StreamId, (m.table[j]).enable = true → (m.table[j]).role = .feeder →
                (m.status[j]).state = .locked) →
              ∃ y, ClosedInTurn (fun u a => RowComplete u.merge a) y (placeSet i s x)
                ∧ (if (s.merge.status[i]).state = .silent ∨ (s.merge.status[i]).state = .lost then
                    ∃ w, Raised srcStreamState (bytes4 i (streamCode (s.merge.status[i]).state) 2 0) z w
                      ∧ Evaluated { w with sup := { w.sup with items := { w.sup.items with feeders := feeders } } } y
                   else y = z))
            ∧ (r.slots[i] = none → (∀ h, s.merge.rows.head? = some h → h.index ≠ index ∧ s.merge.rowComplete h = false) →
              (placeSet i s x).merge.rows = setSlot s.merge.rows index i
                  (some { values := slotValues s.merge.table[i] (pAcb s.par) x, overrange := x.quality.getLsbD 1 })
                ∧ (placeSet i s x).merge.history = s.merge.history
                ∧ (placeSet i s x).merge.status[i] = (match (s.merge.status[i]).state with
                  | .silent | .lost => { s.merge.status[i] with state := .acquiring, filled := 0, missing := 0 }
                  | _ => s.merge.status[i])
                ∧ (∀ j : StreamId, j ≠ i → (placeSet i s x).merge.status[j] = s.merge.status[j])))))

/-- A report with CONDUCTED and neither NO_FIRE nor FAULT at a channel in AWAIT stores the capture position and the capture error (position -
F), clears the misses and moves the channel to IDLE; the confirmed counter rises; where the error exceeds fireTolerance the deviation
counter rises and FIRE_DEVIATION is raised with the valve id and the error saturated to 16 bits; nothing else changes. NO_FIRE in AWAIT
counts a miss, up to 15, and leaves the channel IDLE; at missLimit the MISFIRE event follows and the supervisor takes the protective
condition MISFIRE. Outside AWAIT a report with CONDUCTED or NO_FIRE, without FAULT, counts a stray report, and so does one without any of
the four flags in every state; in BLOCKED a BLOCK_ACK sets the flag. FAULT alone raises VALVE_FAULT, and the supervisor takes that
protective condition. With FAULT beside them, the three parts act in this order and the supervisor comes last. That MISFIRE and
VALVE_FAULT are raised before the supervisor takes a condition, and that it takes VALVE_FAULT before MISFIRE, is the model's choice
(assumption 6). (07_valve_firing_channels.md, Valve reports; 07_valve_firing_channels.md, Block and deblock;
09_operating_states_and_protective_responses.md, Protective conditions; 10_access_requests_and_notices.md, Notices) -/
def Obligations.ValveReportCapture : Prop :=
  ∀ (v : ValveId) (r : ValveReport) (s : State) (ch : Channel), ch = s.channel v →
    (∀ (error : Int) (deviates : Bool) (y : State), r.fault = false → r.conducted = true → r.noFire = false → ch.state = .await →
      error = diff r.position ch.fire → deviates = decide (pFireTolerance s.par v < error.natAbs) →
      y = bump (.channel v 5) (s.setChannel v { ch with
        capturePosition := r.position, captureError := error, misses := 0, state := .idle }) →
      RaisedIf deviates srcFireDeviation
        (BitVec.ofNat 32 (v.val * 16777216 + (BitVec.ofInt 16 (max (-32767) (min 32767 error))).toNat))
        (bumpIf deviates (.channel v 8) y) (takeReport v r s))
    ∧ (∀ n y, r.fault = false → r.noFire = true → ch.state = .await → n = min 15 (ch.misses + 1) →
      y = bump (.channel v 6) (s.setChannel v { ch with misses := n, state := .idle }) →
      (n < pMissLimit s.par v → takeReport v r s = y)
      ∧ (pMissLimit s.par v ≤ n → ∃ u, Raised srcMisfire (misfireDetail v n ch.fire) y u
          ∧ ProtectiveTaken .misfire v u (takeReport v r s)))
    ∧ (r.fault = false → (r.conducted = true ∨ r.noFire = true) → ch.state ≠ .await →
      takeReport v r s = bump (.channel v 7)
        (if r.blockAck = true ∧ ch.state = .blocked then s.setChannel v { ch with blockAck := true } else s))
    ∧ (r.fault = false → r.conducted = false → r.noFire = false → r.blockAck = false → takeReport v r s = bump (.channel v 7) s)
    ∧ (r.fault = false → r.conducted = false → r.noFire = false → r.blockAck = true →
      takeReport v r s = if ch.state = .blocked then s.setChannel v { ch with blockAck := true } else s)
    ∧ (r.fault = true → r.conducted = false → r.noFire = false → ∃ u, Raised srcValveFault (faultDetail v r) s u
      ∧ ProtectiveTaken .valveFault v
        (if r.blockAck = true ∧ ch.state = .blocked then u.setChannel v { ch with blockAck := true } else u) (takeReport v r s))
    ∧ (r.fault = true → (r.conducted = true ∨ r.noFire = true) →
      (r.noFire = true → ch.state = .await → min 15 (ch.misses + 1) < pMissLimit s.par v) →
      ∃ u, Raised srcValveFault (faultDetail v r) s u
        ∧ ProtectiveTaken .valveFault v (takeReport v { r with fault := false } u) (takeReport v r s))
    ∧ (∀ n, r.fault = true → r.noFire = true → ch.state = .await → n = min 15 (ch.misses + 1) → pMissLimit s.par v ≤ n →
      ∃ u w x, Raised srcValveFault (faultDetail v r) s u
        ∧ Raised srcMisfire (misfireDetail v n ch.fire) (bump (.channel v 6) (u.setChannel v { ch with misses := n, state := .idle })) w
        ∧ ProtectiveTaken .valveFault v w x ∧ ProtectiveTaken .misfire v x (takeReport v r s))

/-- At a transmit-ready port, LOSS_OF_SIGNAL, LOSS_OF_ALIGNMENT, a TRAIN mark with ready 0, and a NO_RECEIVE mark in UP with one-way mode off
answer a next state in which the port holds no queued frame and none in transmission, with its effective priorities initial. The not-ready
drops of MEASURE and PASS have risen by one for each frame of the class, the abandoned frame included; those of TIMED, and the not-sent
counters of the channels by one for each gate command held, at PN or with every channel BLOCKED (elsewhere the blocks of a protective
response add their own); those of ACCESS with every notice source disabled. A channel in ISSUED whose FIRE command the port held has the
outcome NOT_SENT and is in ISSUED no more. (One-way mode written off and RETRAIN are in the statements about those commands.) At PS in
RUNNING and HOLDING that outcome rests on the order of the model, which flushes the queues before PS tells the supervisor and the block
reaches the channel: that order is the model's choice (assumption 6). (01_the_station_link.md, Transmission; 01_the_station_link.md, Port
states; 02_frame_switching_and_transmit_scheduling.md, The arbiter; 02_frame_switching_and_transmit_scheduling.md, Transmit start on PS) -/
def Obligations.LosingReadinessFlushes : Prop :=
  ∀ (p : PortId) (s : State) (x : Port) (c : Instr), x = s.port p → x.transmitReady = true →
    ((∃ run, c = .lossOfSignal p run) ∨ (∃ run, c = .lossOfAlignment p run) ∨ (∃ run, c = .validMarkReceived p run (.train false))
      ∨ (x.link = .up ∧ x.oneWay = false ∧ ∃ run, c = .validMarkReceived p run .noReceive)) →
    ∃ t, exec c s = .next t ∧ (t.port p).isFlushed
      ∧ t.counter (.notReady p .measure) = s.counter (.notReady p .measure) + BitVec.ofNat 32 (x.held .measure)
      ∧ t.counter (.notReady p .pass) = s.counter (.notReady p .pass) + BitVec.ofNat 32 (x.held .pass)
      ∧ ((p = .north ∨ ∀ v : ValveId, (s.channel v).state = .blocked) →
        t.counter (.notReady p .timed) = s.counter (.notReady p .timed) + BitVec.ofNat 32 (x.held .timed)
        ∧ ∀ v : ValveId, t.counter (.channel v 3) = s.counter (.channel v 3)
            + BitVec.ofNat 32 ((x.frames.flatMap Frame.commands).filter (fun g => g.valve = v)).length)
      ∧ ((∀ n : SourceId, (s.notices[n]).enable = false) →
        t.counter (.notReady p .access) = s.counter (.notReady p .access) + BitVec.ofNat 32 (x.held .access))
      ∧ (∀ g : GateCommand, g ∈ x.frames.flatMap Frame.commands → g.code = .fire → (s.channel g.valve).state = .issued →
        (s.channel g.valve).latest = g.latest →
        (t.channel g.valve).outcome = .notSent ∧ (t.channel g.valve).state ≠ .issued)

/-- SEEK_TIMER_EXPIRY and ALIGN_TIMER_EXPIRY at a port whose timer runs fail the training attempt: the attempt count rises by 1 and the port
is in HOLDOFF with 100 ms at 8, and otherwise in DOWN, from where it is SEEKING at once with signal present. HOLDOFF_TIMER_EXPIRY sets the
attempt count to 0 and moves the port to DOWN, and on to SEEKING with signal present. Commanded with the timer not running, each leaves
the state as it is (the model's choice, assumption 4). (01_the_station_link.md, Port states; 01_the_station_link.md, Port state summary) -/
def Obligations.TrainingTimersExpire : Prop :=
  ∀ (p : PortId) (s : State),
    ((s.port p).seekTimer.isSome = true → ∃ t, exec (.seekTimerExpiry p) s = .next t ∧ FailedAttempt p s t)
    ∧ ((s.port p).alignTimer.isSome = true → ∃ t, exec (.alignTimerExpiry p) s = .next t ∧ FailedAttempt p s t)
    ∧ ((s.port p).holdoffTimer.isSome = true → ∃ t, exec (.holdoffTimerExpiry p) s = .next t ∧ LinkFrame p s t
        ∧ (s.port p).configKept (t.port p) ∧ (t.port p).attempts = 0 ∧ (t.port p).holdoffTimer = none
        ∧ (t.port p).link = (if (s.port p).signal = true then .seeking else .down)
        ∧ (t.port p).seekTimer = (if (s.port p).signal = true then some 50000 else none)
        ∧ t.counter (.trainingAttempts p)
          = (if (s.port p).signal = true then s.counter (.trainingAttempts p) + 1 else s.counter (.trainingAttempts p)))
    ∧ ((s.port p).seekTimer = none → exec (.seekTimerExpiry p) s = .next s)
    ∧ ((s.port p).alignTimer = none → exec (.alignTimerExpiry p) s = .next s)
    ∧ ((s.port p).holdoffTimer = none → exec (.holdoffTimerExpiry p) s = .next s)

/-- MONITORING_WINDOW_EXPIRY at a port with windowing on: the clean-window run rises by 1, to at most 8, where the window's errored frames
stayed below the threshold, and is 0 otherwise; DEGRADED is cleared at a run of 8; the count starts at 0 in a fresh 1 ms window. Nothing
else differs but the notice of a cleared DEGRADED. With windowing stopped nothing changes (assumption 4). (01_the_station_link.md, Link
quality) -/
def Obligations.MonitoringWindowEnds : Prop :=
  ∀ (p : PortId) (s : State) (clean : Nat),
    clean = (if (s.port p).windowErrors < (s.port p).hiErrThreshold then min 8 ((s.port p).cleanRun + 1) else 0) →
    ((s.port p).windowTimer.isSome = true → ∃ t, exec (.monitoringWindowExpiry p) s = .next t
      ∧ QuietFrame (s.setPort p { s.port p with
          cleanRun := clean, degraded := (s.port p).degraded && !decide (8 ≤ clean), windowErrors := 0,
          windowTimer := some 25000 }) t)
    ∧ ((s.port p).windowTimer = none → exec (.monitoringWindowExpiry p) s = .next s)

/-- At a port that may begin a frame, with TIMED empty, TRANSMIT_START begins the head frame of the nonempty class of lowest effective
priority, ACCESS before MEASURE before PASS in a tie: its effective priority returns to its initial value, a nonempty loser's falls by 1
to no lower than 0, an empty class keeps its own. The whole next state is given, for a head that is no GATE and no TIMEMARK frame. Without
an opportunity nothing changes (assumption 4). A TRAIN mark still owed on the entry into UP goes out before the frame (R14).
(02_frame_switching_and_transmit_scheduling.md, The arbiter; 01_the_station_link.md, Port states) -/
def Obligations.TransmitStartChoosesAged : Prop :=
  (∀ (p : PortId) (s : State) (c : TxClass) (f : Frame) (rest : List Frame) (x : Port), x = s.port p → x.canStart → x.timed = [] →
      c ≠ .timed → x.queue c = f :: rest → (∀ cs, f ≠ .gate cs) → f ≠ .timemark →
      (∀ d, d ≠ .timed → x.queue d ≠ [] → x.eff c < x.eff d ∨ (x.eff c = x.eff d ∧ classCode c ≤ classCode d)) →
      exec (.transmitStart p) s = .next (s.setPort p { x.setQueue c rest with
        tx := some { cls := c, frame := f, bytes := f.bytes s.nodeId }, trainOwed := false,
        lineMark := if x.trainOwed = true then some (.train true) else x.lineMark,
        effAccess := if c = .access then x.accessPriority else if x.access = [] then x.effAccess else x.effAccess - 1,
        effMeasure := if c = .measure then 4 else if x.measure = [] then x.effMeasure else x.effMeasure - 1,
        effPass := if c = .pass then 6 else if x.pass = [] then x.effPass else x.effPass - 1 }))
    ∧ (∀ (p : PortId) (s : State), ((s.port p).transmitReady = false ∨ (s.port p).tx ≠ none ∨ ∀ c, (s.port p).queue c = []) →
      exec (.transmitStart p) s = .next s)

/-- At a port that may begin a frame, with a TIMEMARK frame at the head of TIMED, TRANSMIT_START begins it whatever the other queues hold,
with no change of the effective priorities: kind 0x21, destination 255, the node id as source, and as payload G, inc, the tracker state
code and the rotation of the parameters in use. The whole next state is given. A TRAIN mark still owed on the entry into UP goes out
before the frame (R14). (02_frame_switching_and_transmit_scheduling.md, Transmit start on PS; 04_grid_timebase_and_phase_tracking.md,
Positions along the grid; 01_the_station_link.md, Port states) -/
def Obligations.TransmitStartStampsTimemark : Prop :=
  ∀ (p : PortId) (s : State) (rest : List Frame), (s.port p).canStart → (s.port p).timed = .timemark :: rest →
    exec (.transmitStart p) s = .next (s.setPort p { s.port p with
      timed := rest, trainOwed := false,
      lineMark := if (s.port p).trainOwed = true then some (.train true) else (s.port p).lineMark,
      tx := some {
        cls := .timed,
        frame := .stampedTimemark s.g s.tracker.inc (trackerCode s.tracker.state) (if pAcb s.par = true then 1 else 0),
        bytes := buildFrame 0x21#8 255#8 s.nodeId (bytesOfWord s.g ++ bytesOfWord (BitVec.ofNat 32 s.tracker.inc)
          ++ [BitVec.ofNat 8 (trackerCode s.tracker.state), if pAcb s.par = true then 1#8 else 0#8]) } })

/-- From every state whose operating state is neither RUNNING nor HOLDING, and every port with no frame in transmission: where TRANSMIT_START
begins a frame, it holds no FIRE command, whatever the queues hold. (02_frame_switching_and_transmit_scheduling.md, Transmit start on PS;
02_frame_switching_and_transmit_scheduling.md, Purge of fire commands) -/
def Obligations.NoFireOutsideFiringStates : Prop :=
  ∀ (p : PortId) (s : State), s.sup.state ≠ .running → s.sup.state ≠ .holding → (s.port p).tx = none →
    ∃ t, exec (.transmitStart p) s = .next t ∧ ∀ x, (t.port p).tx = some x → x.frame.fires = []

/-- In RUNNING or HOLDING, with PS able to begin a GATE frame of one FIRE command, lateMargin at most 2048 and the fire position at most 2^30
gu before G: at a margin of lateMargin or more the command is sent as it is; below it, with G + lateMargin not after the latest fire
position, it is moved to G + lateMargin with its LATE mark, and a SUSTAIN pulse is shortened by the units moved; else it is removed and
reported SKIPPED, which is shown with nothing else queued and source 14 disabled. A GATE frame of any commands, in every operating state,
is checked command by command in their order, as `CommandsChecked` spells it: LATE_FIRE and SKIPPED_FIRE are raised with their details,
and outside RUNNING and HOLDING each FIRE command goes and is reported NOT_SENT. What remains is sent in one frame; where nothing remains,
PS chooses again at once. A TRAIN mark still owed on the entry into UP goes out before the frame (R14).
(02_frame_switching_and_transmit_scheduling.md, Transmit start on PS; 07_valve_firing_channels.md, Issuing FIRE commands;
01_the_station_link.md, Port states; 10_access_requests_and_notices.md, Notices; 02_frame_switching_and_transmit_scheduling.md, GATE
commands; 02_frame_switching_and_transmit_scheduling.md, The arbiter) -/
def Obligations.LateCheckOfOneFire : Prop :=
  (∀ (s : State) (c : GateCommand) (rest : List Frame) (m : Nat), s.ps.canStart → s.ps.timed = .gate [c] :: rest → c.code = .fire →
    s.sup.state = .running ∨ s.sup.state = .holding → m = pLateMargin s.par c.valve → m ≤ 2048 →
    -1073741824 ≤ diff c.position s.g →
    ((m : Int) ≤ diff c.position s.g →
      exec (.transmitStart .south) s = .next { s with ps := { s.ps with
        timed := rest, trainOwed := false,
        lineMark := if s.ps.trainOwed = true then some (.train true) else s.ps.lineMark,
        tx := some { cls := .timed, frame := .gate [c], bytes := (Frame.gate [c]).bytes s.nodeId } } })
    ∧ (∀ c' : GateCommand, diff c.position s.g < m → ¬(0 < diff (s.g + BitVec.ofNat 32 m) c.latest) →
      c' = { c with
        position := s.g + BitVec.ofNat 32 m, late := true,
        pulse := if c.style = .sustain then c.pulse - (m - diff c.position s.g).toNat else c.pulse } →
      ∃ t, exec (.transmitStart .south) s = .next t ∧ QuietFrame { s with ps := { s.ps with
        timed := rest, trainOwed := false,
        lineMark := if s.ps.trainOwed = true then some (.train true) else s.ps.lineMark,
        tx := some { cls := .timed, frame := .gate [c'], bytes := (Frame.gate [c']).bytes s.nodeId } } } t)
    ∧ (diff c.position s.g < m → 0 < diff (s.g + BitVec.ofNat 32 m) c.latest → rest = [] → s.ps.access = [] →
      s.ps.measure = [] → s.ps.pass = [] → s.notices[14].enable = false →
      ∃ t, exec (.transmitStart .south) s = .next t ∧ t.ps = { s.ps with timed := [] }
        ∧ t.counter (.channel c.valve 2) = s.counter (.channel c.valve 2) + 1
        ∧ (t.channel c.valve) = (if (s.channel c.valve).state = .issued ∧ (s.channel c.valve).latest = c.latest then
            { s.channel c.valve with outcome := .skipped, state := .idle } else s.channel c.valve)
        ∧ GateFrame s t))
    ∧ (∀ (s : State) (cs : List GateCommand) (rest : List Frame), s.ps.canStart → s.ps.timed = .gate cs :: rest →
      (∀ c, c ∈ cs → c.code = .fire → pLateMargin s.par c.valve ≤ 2048 ∧ -1073741824 ≤ diff c.position s.g) →
      ∃ (kept : List GateCommand) (u : State),
        CommandsChecked (decide (s.sup.state = .running ∨ s.sup.state = .holding)) cs { s with ps := { s.ps with timed := rest } } kept u
        ∧ (kept ≠ [] → exec (.transmitStart .south) s = .next { u with ps := { u.ps with
          trainOwed := false, lineMark := if s.ps.trainOwed = true then some (.train true) else s.ps.lineMark,
          tx := some { cls := .timed, frame := .gate kept, bytes := (Frame.gate kept).bytes s.nodeId } } })
        ∧ (kept = [] → exec (.transmitStart .south) s = exec (.transmitStart .south) u))

/-- TRANSMIT_END at a port with a frame in transmission, whatever FIRE commands that frame holds, ends it and raises the class's transmitted
counter by 1. The fired counter of each valve rises by the number of its FIRE commands in the frame, and its late counter by the number of
those with the LATE mark; no other counter changes. A channel in ISSUED is in AWAIT where the frame holds a FIRE command for it with its
latest fire position, with outcome SENT, or LATE and the transmitted position as F where that command carries the LATE mark (the first
such command, where an unreachable state has two); any other channel is unchanged, and nothing else differs. With no frame in transmission
nothing changes (assumption 4). (01_the_station_link.md, Transmission; 02_frame_switching_and_transmit_scheduling.md, Transmit start on
PS; 07_valve_firing_channels.md, Issuing FIRE commands) -/
def Obligations.TransmitEndReports : Prop :=
  ∀ (p : PortId) (s : State),
    ((s.port p).tx = none → exec (.transmitEnd p) s = .next s)
    ∧ (∀ (x : TxFrame) (y : State), (s.port p).tx = some x → y = s.setPort p { s.port p with tx := none } →
      ∃ t, exec (.transmitEnd p) s = .next t
        ∧ t.counter (.sent p x.cls) = s.counter (.sent p x.cls) + 1
        ∧ (∀ v : ValveId, t.counter (.channel v 0) = s.counter (.channel v 0)
            + BitVec.ofNat 32 (x.frame.fires.filter (fun c => c.valve = v)).length
          ∧ t.counter (.channel v 1) = s.counter (.channel v 1)
            + BitVec.ofNat 32 (x.frame.fires.filter (fun c => c.valve = v ∧ c.late = true)).length)
        ∧ (∀ k : Counter, k ≠ .sent p x.cls → (∀ v : ValveId, k ≠ .channel v 0 ∧ k ≠ .channel v 1) → t.counter k = s.counter k)
        ∧ (∀ (v : ValveId) (ch : Channel), ch = s.channel v →
          t.channel v = (match x.frame.fires.find? (fun c => c.valve = v ∧ c.latest = ch.latest) with
            | some c => if ch.state = .issued then
                { ch with state := .await, outcome := if c.late = true then .late else .sent,
                          fire := if c.late = true then c.position else ch.fire }
              else ch
            | none => ch))
        ∧ (x.frame.fires = [] → t = bump (.sent p x.cls) y)
        ∧ t = { y with channels := t.channels, counters := t.counters })

/-- PACE_EVENT, with the oldest open row not past its deadline at P + 1 (and mergeDelay at least 1 with no row open), gives exactly: P + 1;
the next period of R44, shortened by the clocks that a late event came late (deduced by the model, assumption 14); a request for a PACE
mark of tag P mod 256 at PN in UP or FAR_FAULT; row P open, its slots empty, at the position G of the event. G has advanced over what was
left of the period (the model's reading of a commanded event, assumption 4). PACE_MARK_SENT puts the requested mark on the line, after a
TRAIN mark still owed, and without a request changes nothing. From every state the event answers a next state. Where the oldest open row,
row P counted in, stands mergeDelay or more behind P, it closes, and after it each next oldest row in turn that is past that deadline or
complete, as `RowComplete` spells R59; the mergeDelay of the record in use when the check begins holds throughout (R47).
(03_pacing_and_stream_merging.md, The pace generator; 03_pacing_and_stream_merging.md, Merge rows; 01_the_station_link.md, Symbols and
marks; 03_pacing_and_stream_merging.md, Row close) -/
def Obligations.PaceEventOpensARow : Prop :=
  (∀ (s : State) (count : Word) (g48 : BitVec 48) (k : Nat), count = s.pace.count + 1 → k = s.pace.sinceOrigin + 1 →
      g48 = s.tracker.g48 + BitVec.ofNat 48 (s.tracker.inc * max s.pace.clock s.pace.length / s.pace.length
        - s.tracker.inc * s.pace.clock / s.pace.length) →
      (∀ r, s.merge.rows.head? = some r → diff count r.index < pMergeDelay s.par) →
      (s.merge.rows = [] → 0 < pMergeDelay s.par) →
      exec .paceEvent s = .next { s with
        pace := { count := count, sinceOrigin := k, clock := 0,
                  length := paceAt (pFn s.par) (k + 1) - paceAt (pFn s.par) k - (s.pace.clock - s.pace.length) },
        tracker := { s.tracker with g48 := g48 },
        pn := if s.pn.link = .up ∨ s.pn.link = .farFault then { s.pn with paceRequest := some (BitVec.ofNat 8 count.toNat) } else s.pn,
        merge := { s.merge with
          rows := s.merge.rows ++ [{ index := count, position := g48.extractLsb' 16 32, slots := Vector.replicate 8 none }] } })
    ∧ (∀ (s y : State) (count : Word) (g48 : BitVec 48) (k : Nat), count = s.pace.count + 1 → k = s.pace.sinceOrigin + 1 →
      g48 = s.tracker.g48 + BitVec.ofNat 48 (s.tracker.inc * max s.pace.clock s.pace.length / s.pace.length
        - s.tracker.inc * s.pace.clock / s.pace.length) →
      y = { s with
        pace := { count := count, sinceOrigin := k, clock := 0,
                  length := paceAt (pFn s.par) (k + 1) - paceAt (pFn s.par) k - (s.pace.clock - s.pace.length) },
        tracker := { s.tracker with g48 := g48 },
        pn := if s.pn.link = .up ∨ s.pn.link = .farFault then { s.pn with paceRequest := some (BitVec.ofNat 8 count.toNat) } else s.pn,
        merge := { s.merge with
          rows := s.merge.rows ++ [{ index := count, position := g48.extractLsb' 16 32, slots := Vector.replicate 8 none }] } } →
      ∃ t, exec .paceEvent s = .next t
        ∧ ((∀ r, y.merge.rows.head? = some r → diff count r.index < pMergeDelay s.par) → t = y)
        ∧ (∀ r, y.merge.rows.head? = some r → (pMergeDelay s.par : Int) ≤ diff count r.index →
          ClosedInTurn (fun u a => (pMergeDelay s.par : Int) ≤ diff count a.index ∨ RowComplete u.merge a) y t))
    ∧ (∀ (s : State) (tag : Byte), s.pn.paceRequest = some tag →
      exec .paceMarkSent s = .next { s with pn := { s.pn with
        paceRequest := none, lastPaceSent := some tag, trainOwed := false, lineMark := some (.pace tag) } })
    ∧ (∀ s : State, s.pn.paceRequest = none → exec .paceMarkSent s = .next s)

/-- Closing the oldest open row r. Each enabled stream by R52: a filled slot counts filled, clears missing and keeps its values, and ACQUIRING
is LOCKED at 16; an unfilled one counts missing, and ACQUIRING and LOCKED clear filled and are LOST at the hold limit; SILENT and LOST
stay; a missing row is counted, and a held one where the stream was LOCKED and stays below its hold limit. The main-locked run and the
selection follow the table of R63. The composite set of r: the selected stream's values, its slot's or its last real ones held, 0 without
a selection; as currents the sums over the LOCKED enabled feeders, saturated; the six flags of R66. It is the newest of the history, of at
most 256 sets, and r leaves the open rows. (03_pacing_and_stream_merging.md, Row close; 03_pacing_and_stream_merging.md, Stream states;
03_pacing_and_stream_merging.md, The history ring) -/
def Obligations.RowClose : Prop :=
  ∀ (s t : State) (m : Merge) (r : Row) (rest : List Row), s.merge.rows = r :: rest → t = closeRow r s → m = t.merge →
    m.rows = rest ∧ m.lastClosed = r.index ∧ m.table = s.merge.table
    ∧ (∀ (i : StreamId) (x : StreamStatus) (limit : Nat), x = s.merge.status[i] → limit = (m.table[i]).holdLimit.toNat →
      ((m.table[i]).enable = false → m.status[i] = x)
      ∧ (∀ slot n, (m.table[i]).enable = true → r.slots[i] = some slot → n = min 65535 (x.filled + 1) →
        (x.state = .acquiring →
          m.status[i] = { state := if 16 ≤ n then .locked else .acquiring, filled := n, missing := 0, last := slot.values })
        ∧ (x.state = .locked ∨ x.state = .lost →
          m.status[i] = { state := x.state, filled := n, missing := 0, last := slot.values }))
      ∧ (∀ n, (m.table[i]).enable = true → r.slots[i] = none → n = min 65535 (x.missing + 1) →
        (x.state = .acquiring ∨ x.state = .locked →
          m.status[i] = { state := if limit ≤ n then .lost else x.state, filled := 0, missing := n, last := x.last })
        ∧ (x.state = .silent ∨ x.state = .lost → m.status[i] = { x with missing := n })
        ∧ t.counter (.stream i 6) = s.counter (.stream i 6) + 1
        ∧ t.counter (.stream i 5) = s.counter (.stream i 5) + (if x.state = .locked ∧ n < limit then 1 else 0)))
    ∧ ∀ (first : Role → StreamId → Prop) (main standby : Bool) (value : StreamId → Option RowValue) (feeder : StreamId → Bool),
      (∀ o i, first o i ↔ (m.table[i]).enable = true ∧ (m.table[i]).role = o
        ∧ ∀ j : StreamId, j < i → ¬((m.table[j]).enable = true ∧ (m.table[j]).role = o)) →
      (main = true ↔ ∃ i, first .voltageMain i ∧ (m.status[i]).state = .locked) →
      (standby = true ↔ ∃ i, first .voltageStandby i ∧ (m.status[i]).state = .locked) →
      (∀ i : StreamId, value i = match r.slots[i] with
        | some slot => some { values := slot.values, overrange := slot.overrange, held := false }
        | none =>
          if (s.merge.status[i]).state = .locked ∧ min 65535 ((s.merge.status[i]).missing + 1) < (m.table[i]).holdLimit.toNat then
            some { values := (s.merge.status[i]).last, overrange := false, held := true }
          else none) →
      (∀ i : StreamId, feeder i = true ↔
        (m.table[i]).enable = true ∧ (m.table[i]).role = .feeder ∧ (m.status[i]).state = .locked) →
      m.mainRun = (if main = true then min 65535 (s.merge.mainRun + 1) else 0)
      ∧ m.selection = (if s.merge.selection = .standby then
          (if 256 ≤ m.mainRun then .main else if standby = true then .standby else if main = true then .main else .none)
         else if main = true then .main else if standby = true then .standby else .none)
      ∧ ∃ c : CompositeSet, m.history = (c :: s.merge.history).take 256 ∧ c.index = r.index ∧ c.position = r.position
        ∧ (∀ (pick : Phases → Int), pick = Phases.a ∨ pick = Phases.b ∨ pick = Phases.c →
          pick c.i = max (-32767) (min 32767 ((List.finRange 8).map (fun i => if feeder i = true then
            (match value i with
             | some x => pick x.values
             | none => 0) else 0)).sum))
        ∧ (m.selection = .none → c.v = { a := 0, b := 0, c := 0 } ∧ c.quality.substitutedV = false
          ∧ (c.quality.overrange = true ↔ ∃ i x, feeder i = true ∧ value i = some x ∧ x.overrange = true))
        ∧ (∀ o k, (m.selection = .main ∧ o = .voltageMain ∨ m.selection = .standby ∧ o = .voltageStandby) → first o k →
          ∃ x, value k = some x ∧ c.v = x.values ∧ c.quality.substitutedV = x.held
            ∧ (c.quality.overrange = true ↔
              x.overrange = true ∨ ∃ i y, feeder i = true ∧ value i = some y ∧ y.overrange = true))
        ∧ (c.quality.substitutedI = true ↔ ∃ i x, feeder i = true ∧ value i = some x ∧ x.held = true)
        ∧ (c.quality.invalidV = true ↔ m.selection = .none)
        ∧ (c.quality.feederIncomplete = true ↔
          ∃ i : StreamId, (m.table[i]).enable = true ∧ (m.table[i]).role = .feeder ∧ (m.status[i]).state ≠ .locked)
        ∧ (c.quality.mixedVoltage = true ↔ s.merge.selection ≠ m.selection)

/-- TIMEMARK_POSITION_REACHED from every state: G stands at the position, or past it where it was there already (assumption 4); a TIMEMARK
frame is offered to the TIMED queue of PS, placed, or lost and counted, with QUEUE_DROP where the queue is full, as `Offered` spells R31;
the next TIMEMARK position rises by 32768 in every case. (04_grid_timebase_and_phase_tracking.md, Positions along the grid;
02_frame_switching_and_transmit_scheduling.md, Transmit queues) -/
def Obligations.TimemarkPosition : Prop :=
  ∀ (s x : State), x = (if 0 < diff s.tracker.nextTimemark s.g then
        { s with tracker := { s.tracker with g48 := s.tracker.nextTimemark.append 0#16 } } else s) →
    ∃ t u, exec .timemarkPositionReached s = .next t ∧ Offered .south .timed .timemark x u
      ∧ t = { u with tracker := { u.tracker with nextTimemark := s.tracker.nextTimemark + 32768#32 } }

/-- PASS_BOUNDARY_REACHED from every state: the boundary joins the pending list, the oldest of 2 leaving it as a window not formed, and the
next boundary rises by 32768. G is at the boundary, moved there where it was commanded early (assumption 4). While the head's window is
not complete that is all. A complete head leaves the list: not formed, it is counted; formed with a pass in flight, an overrun is counted
and raised; formed with none, its pass starts: PENDING tables are taken first (R164, R165), then it takes the history (the whole of it,
assumption 21), the tables and the parameters, runs for 48 us, and the quiet timer restarts. With both of two heads complete, the second
meets what the first left. That the next boundary rises before the reached one is announced, which shows where the pass start activates a
record with another passPhase, and that the parameter record is taken before the angle table and the reference table, are the model's
choice (assumption 6). That a new passPhase with the same boundary phases has the first boundary after G announced, were it reached
before, is the model's choice (assumption 29). (04_grid_timebase_and_phase_tracking.md, Positions along the grid;
05_the_compensation_pass_measurement.md, Pass boundaries and windows; 05_the_compensation_pass_measurement.md, Starting and ending a pass;
08_table_banks_and_parameter_staging.md, The commit) -/
def Obligations.PassBoundary : Prop :=
  ∀ (s x : State) (b : Pos) (q : List Pos), b = s.tracker.nextBoundary →
    x = bumpIf (decide (2 ≤ s.engine.pendingBoundaries.length)) .windowsNotFormed
      (if 0 < diff b s.g then { s with tracker := { s.tracker with g48 := b.append 0#16, nextBoundary := b + 32768#32 } }
       else { s with tracker := { s.tracker with nextBoundary := b + 32768#32 } }) →
    q = (if 2 ≤ s.engine.pendingBoundaries.length then
        s.engine.pendingBoundaries.drop (s.engine.pendingBoundaries.length - 1) else s.engine.pendingBoundaries) ++ [b] →
    ((∀ c, q.head? = some c → windowComplete s.merge.history c = false) →
      exec .passBoundaryReached s = .next { x with engine := { s.engine with pendingBoundaries := q } })
    ∧ (∀ (c : Pos) (rest : List Pos) (y : State), q = c :: rest → windowComplete s.merge.history c = true →
      (∀ d, rest.head? = some d → windowComplete s.merge.history d = false) →
      y = { x with engine := { s.engine with pendingBoundaries := rest } } →
      (windowFormed s.merge.history c = false → exec .passBoundaryReached s = .next (bump .windowsNotFormed y))
      ∧ (windowFormed s.merge.history c = true → s.engine.inFlight.isSome = true →
        ∃ t, exec .passBoundaryReached s = .next t ∧ Raised srcPassOverrun c (bump .passesOverrun y) t)
      ∧ (windowFormed s.merge.history c = true → s.engine.inFlight = none →
        ∃ u, PendingTaken y u ∧ exec .passBoundaryReached s = .next { u with
          tables := { u.tables with quiet := some 500000 },
          engine := { s.engine with
            pendingBoundaries := rest, lastBoundary := c,
            inFlight := some {
              boundary := c, window := s.merge.history.reverse, reference := u.tables.refActive, angle := u.tables.angleActive,
              angleValid := u.tables.angleValid, params := u.par, paramsValid := u.tables.paramsValid, timer := 1200 } } }))
    ∧ (∀ (c d : Pos) (formed : Pos → Nat), q = [c, d] → windowComplete s.merge.history c = true →
      windowComplete s.merge.history d = true →
      (∀ a, formed a = if windowFormed s.merge.history a = true then 1 else 0) →
      ∃ t, exec .passBoundaryReached s = .next t ∧ t.engine.pendingBoundaries = [] ∧ t.merge = s.merge
        ∧ t.counter .windowsNotFormed = x.counter .windowsNotFormed + BitVec.ofNat 32 ((1 - formed c) + (1 - formed d))
        ∧ t.counter .passesOverrun = s.counter .passesOverrun + BitVec.ofNat 32
          (formed c + formed d - (if s.engine.inFlight = none then 1 else 0))
        ∧ (s.engine.inFlight = none → formed c + formed d ≠ 0 → ∃ f, t.engine.inFlight = some f
          ∧ f.boundary = (if formed c = 1 then c else d) ∧ t.engine.lastBoundary = f.boundary)
        ∧ (s.engine.inFlight.isSome = true ∨ formed c + formed d = 0 → t.engine.inFlight = s.engine.inFlight))

/-- LOAD_POINT_REACHED from every state: the load point is the position reached (G is moved there where it was commanded early, assumption 4),
the cycle number rises by 1 and the next load point follows from it. BLOCKED: that is all. Otherwise the pending angle is taken, lead,
alpha-off, pulse length, style, Lf, F and I are fixed: SUPPRESSED with its counter where alpha is at or above alpha-off, else ARMED while
I lies after G, and issued at once where it does not. From ISSUED and AWAIT the missed counter and the miss count rise first, and at
missLimit MISFIRE is raised with the valve id, the miss count and the phase of the missed F, and its protective condition follows: after
the load-point action, an issue at once included. That MISFIRE is raised before that action and the supervisor comes after it is the
model's choice (assumption 6). An ARMED channel has its issue position reached first (assumption 20). The whole next state is given, but
for what the protective condition leaves. (07_valve_firing_channels.md, Load points; 07_valve_firing_channels.md, Valve reports;
09_operating_states_and_protective_responses.md, Protective conditions; 10_access_requests_and_notices.md, Notices) -/
def Obligations.LoadPoint : Prop :=
  ∀ (v : ValveId) (s y : State) (ch a f : Channel), ch = s.channel v →
    y = (if 0 < diff ch.nextLoadPoint s.g then
        { s with tracker := { s.tracker with g48 := ch.nextLoadPoint.append 0#16 } } else s) →
    a = { ch with loadPoint := ch.nextLoadPoint, cycle := ch.cycle + 1, nextLoadPoint := loadPointOf s.par v (ch.cycle + 1) } →
    f = { a with
      alpha := if ch.pendingValid = true then ch.pendingAlpha else ch.alpha, pendingValid := false, lead := pLead s.par v,
      alphaOff := pAlphaOff s.par v, pulse := pPulse s.par v, halfStyle := ch.style,
      latest := ch.nextLoadPoint + BitVec.ofNat 32 (pAlphaOff s.par v),
      fire := ch.nextLoadPoint + BitVec.ofNat 32 (if ch.pendingValid = true then ch.pendingAlpha else ch.alpha),
      issue := ch.nextLoadPoint + BitVec.ofNat 32 (if ch.pendingValid = true then ch.pendingAlpha else ch.alpha)
        - BitVec.ofNat 32 (pLead s.par v) } →
    (ch.state = .blocked → exec (.loadPointReached v) s = .next (y.setChannel v a))
    ∧ (ch.state = .idle ∨ ch.state = .suppressed →
      (f.alphaOff ≤ f.alpha →
        exec (.loadPointReached v) s = .next (bump (.channel v 4) (y.setChannel v { f with state := .suppressed })))
      ∧ (f.alpha < f.alphaOff → 0 < diff f.issue y.g →
        exec (.loadPointReached v) s = .next (y.setChannel v { f with state := .armed }))
      ∧ (f.alpha < f.alphaOff → diff f.issue y.g ≤ 0 →
        exec (.loadPointReached v) s = exec (.issuePositionReached v) (y.setChannel v { f with state := .armed })))
    ∧ (∀ n, ch.state = .issued ∨ ch.state = .await → n = min 15 (ch.misses + 1) → n < pMissLimit s.par v →
      (f.alphaOff ≤ f.alpha → exec (.loadPointReached v) s = .next
        (bump (.channel v 4) (bump (.channel v 6) (y.setChannel v { f with misses := n, state := .suppressed }))))
      ∧ (f.alpha < f.alphaOff → 0 < diff f.issue y.g → exec (.loadPointReached v) s = .next
        (bump (.channel v 6) (y.setChannel v { f with misses := n, state := .armed }))))
    ∧ (∀ n, ch.state = .issued ∨ ch.state = .await → n = min 15 (ch.misses + 1) → n < pMissLimit s.par v → f.alpha < f.alphaOff →
      diff f.issue y.g ≤ 0 → exec (.loadPointReached v) s =
        exec (.issuePositionReached v) (bump (.channel v 6) (y.setChannel v { f with misses := n, state := .armed })))
    ∧ (∀ n, ch.state = .issued ∨ ch.state = .await → n = min 15 (ch.misses + 1) → pMissLimit s.par v ≤ n →
      ∃ t u, exec (.loadPointReached v) s = .next t
        ∧ Raised srcMisfire (BitVec.ofNat 32 (v.val * 16777216 + n * 65536 + phaseOf ch.fire))
          (bump (.channel v 6) (y.setChannel v { a with misses := n })) u
        ∧ (f.alphaOff ≤ f.alpha → ProtectiveTaken .misfire v
          (bump (.channel v 4) (u.setChannel v { f with misses := n, state := .suppressed })) t)
        ∧ (f.alpha < f.alphaOff → 0 < diff f.issue y.g →
          ProtectiveTaken .misfire v (u.setChannel v { f with misses := n, state := .armed }) t)
        ∧ (f.alpha < f.alphaOff → diff f.issue y.g ≤ 0 →
          ∃ w, exec (.issuePositionReached v) (u.setChannel v { f with misses := n, state := .armed }) = .next w
            ∧ ProtectiveTaken .misfire v w t))
    ∧ (∀ z, ch.state = .armed → diff ch.issue y.g ≤ 0 → exec (.issuePositionReached v) y = .next z →
      exec (.loadPointReached v) s = exec (.loadPointReached v) z)

/-- ISSUE_POSITION_REACHED at an ARMED channel: the channel is ISSUED with outcome none and the pulse length issued: the fixed one in PULSE,
Lp + 32768 - F in SUSTAIN. The command joins the tail GATE frame of PS's TIMED queue while that holds fewer than 6, or a new GATE frame
behind an empty queue, a TIMEMARK frame or a full GATE frame. With no place for that frame it is an overflow drop with its QUEUE_DROP
event, the command is reported not sent, the channel is IDLE, and SKIPPED_FIRE with cause 2 is raised. With PS not transmit-ready the
command is not sent: the drop and the not-sent command are counted and the channel is IDLE. In any other state nothing changes (assumption
4). The whole next state is given. G is moved to the issue position where it was commanded early (assumption 4).
(07_valve_firing_channels.md, Issuing FIRE commands; 02_frame_switching_and_transmit_scheduling.md, GATE commands;
10_access_requests_and_notices.md, Notices) -/
def Obligations.IssuePosition : Prop :=
  ∀ (v : ValveId) (s y : State) (ch : Channel) (c : GateCommand), ch = s.channel v →
    y = (if 0 < diff ch.issue s.g then { s with tracker := { s.tracker with g48 := ch.issue.append 0#16 } } else s) →
    c = { valve := v, code := .fire,
          pulse := if ch.halfStyle = .sustain then (ch.loadPoint + 32768#32 - ch.fire).toNat else ch.pulse,
          position := ch.fire, latest := ch.latest, style := ch.halfStyle, sustainEnd := ch.loadPoint + 32768#32,
          late := false } →
    (ch.state ≠ .armed → exec (.issuePositionReached v) s = .next s)
    ∧ (ch.state = .armed → s.ps.transmitReady = true →
      (s.ps.timed = [] → exec (.issuePositionReached v) s = .next
        { y.setChannel v { ch with state := .issued, outcome := .none, lastPulse := c.pulse } with
          ps := { s.ps with timed := [.gate [c]] } })
      ∧ ((∀ q cs, s.ps.timed = q ++ [.gate cs] → 6 ≤ cs.length) → s.ps.timed.length < 4 →
        exec (.issuePositionReached v) s = .next { y.setChannel v { ch with state := .issued, outcome := .none, lastPulse := c.pulse } with
          ps := { s.ps with timed := s.ps.timed ++ [.gate [c]] } })
      ∧ ((∀ q cs, s.ps.timed = q ++ [.gate cs] → 6 ≤ cs.length) → 4 ≤ s.ps.timed.length →
        ∃ t u, exec (.issuePositionReached v) s = .next t
          ∧ Raised srcQueueDrop (bytes4 1 0 0x22 0) (bump (.overflow .south .timed)
            (y.setChannel v { ch with state := .issued, outcome := .none, lastPulse := c.pulse })) u
          ∧ Raised srcSkippedFire (halves (v.val * 256 + 2) (phaseOf ch.fire)) (bump (.channel v 3)
            (u.setChannel v { ch with state := .idle, outcome := .notSent, lastPulse := c.pulse })) t)
      ∧ (∀ q cs, s.ps.timed = q ++ [.gate cs] → cs.length < 6 → exec (.issuePositionReached v) s = .next
        { y.setChannel v { ch with state := .issued, outcome := .none, lastPulse := c.pulse } with
          ps := { s.ps with timed := q ++ [.gate (cs ++ [c])] } }))
    ∧ (ch.state = .armed → s.ps.transmitReady = false → exec (.issuePositionReached v) s = .next
        (bump (.channel v 3) (bump (.notReady .south .timed)
          (y.setChannel v { ch with state := .idle, outcome := .notSent, lastPulse := c.pulse }))))

/-- PASS_COMPLETION with a pass in flight, for every order of its outputs: the pass number rises by 1 and the pass record is the completing
pass's, with that number and the pass's boundary; L_prev of every branch becomes the L of a delivered pass and stays otherwise; the
completed, demand-skipped, limit and passes-with-e or passes-without-e counters rise as the record says. The four outputs are taken in the
order given, each as `OutputTaken` spells it: UNDERVOLTAGE, ROTATION_FAULT and DEMAND_LIMIT where their flags are new, e or no e at the
tracker, the delivered angles at the six channels, the record at the supervisor. PENDING tables are taken where the idle condition holds
then. The mode and manual values, the merge unit, the forwarding table and the agent stay. With none in flight nothing changes (assumption
4). That the order is an operand is the model's choice (assumption 5), and so are the order of the three notices, the valve order of the
deliveries and the order parameters, angle, reference of the PENDING tables (assumption 6). That a new passPhase with the same boundary
phases has the first boundary after G announced, were it reached before, is the model's choice (assumption 29).
(05_the_compensation_pass_measurement.md, Starting and ending a pass; 06_the_compensation_pass_demand_and_firing_angle.md, Delivery;
06_the_compensation_pass_demand_and_firing_angle.md, The pass record; 04_grid_timebase_and_phase_tracking.md, The per-pass update;
06_the_compensation_pass_demand_and_firing_angle.md, Notices and counters; 05_the_compensation_pass_measurement.md, Voltage checks;
09_operating_states_and_protective_responses.md, Taking a pass record; 08_table_banks_and_parameter_staging.md, The commit) -/
def Obligations.PassCompletion : Prop :=
  (∀ (order : List PassOutput) (s : State) (f : InFlight) (r : PassRecord), s.engine.inFlight = some f → r = completionRecord f s →
      ∃ t, exec (.passCompletion order) s = .next t ∧ r.number = s.engine.passNumber + 1 ∧ r.boundary = f.boundary
      ∧ t.engine.record = r ∧ t.engine.passNumber = r.number ∧ t.engine.mode = s.engine.mode
      ∧ t.engine.rememberedManual = s.engine.rememberedManual ∧ t.engine.manual = s.engine.manual
      ∧ (∀ b : BranchId, t.engine.lPrev[b] =
          if r.target = .ramp ∨ r.target = .auto ∨ r.target = .manual then (r.branches[b]).reactor else s.engine.lPrev[b])
      ∧ t.sup.lastPass = r.number
      ∧ t.counter .passesCompleted = s.counter .passesCompleted + 1
      ∧ t.counter .demandSkipped = s.counter .demandSkipped + (if r.flags.demandSkipped = true then 1 else 0)
      ∧ t.counter .passesWithE = s.counter .passesWithE + (if (measureFlight f).e.isSome = true then 1 else 0)
      ∧ t.counter .passesWithoutE = s.counter .passesWithoutE + (if (measureFlight f).e.isSome = true then 0 else 1)
      ∧ (∀ b : BranchId, t.counter (.branch b 0) = s.counter (.branch b 0) + (if (r.branches[b]).capLimit = true then 1 else 0)
        ∧ t.counter (.branch b 1) = s.counter (.branch b 1) + (if (r.branches[b]).indLimit = true then 1 else 0)
        ∧ t.counter (.branch b 2) = s.counter (.branch b 2) + (if (r.branches[b]).slew = true then 1 else 0))
      ∧ (∀ (a b c d : PassOutput) (e : Option Int), order = [a, b, c, d] → PassOutput.isOrder order = true → e = (measureFlight f).e →
        ∃ y u1 u2 u3 u4 : State, y = { s with
            counters := y.counters,
            engine := { s.engine with
              inFlight := none, passNumber := r.number, record := r,
              lPrev := if r.target = .ramp ∨ r.target = .auto ∨ r.target = .manual then
                #v[(r.branches[0]).reactor, (r.branches[1]).reactor, (r.branches[2]).reactor] else s.engine.lPrev } }
          ∧ (∀ k : Counter, k ≠ .passesCompleted → k ≠ .demandSkipped → (∀ g j, k ≠ .branch g j) → y.counter k = s.counter k)
          ∧ OutputTaken s.engine.record r e a y u1 ∧ OutputTaken s.engine.record r e b u1 u2
          ∧ OutputTaken s.engine.record r e c u2 u3 ∧ OutputTaken s.engine.record r e d u3 u4
          ∧ (if u4.sup.state = .off ∧ u4.engine.inFlight = none ∧ u4.tables.quiet = none then PendingTaken u4 t else t = u4))
      ∧ t.merge = s.merge ∧ t.fwd = s.fwd ∧ t.agent = s.agent ∧ t.nodeId = s.nodeId ∧ t.pending = s.pending)
    ∧ (∀ (order : List PassOutput) (s : State), s.engine.inFlight = none → exec (.passCompletion order) s = .next s)

/-- A firing angle delivered to a channel: in DOUBLE buffering, and in SINGLE buffering outside ARMED, it is written to the pending slot and
nothing else changes. In SINGLE buffering and ARMED it becomes the active angle and the pending flag is cleared: at or above alpha-off the
channel is SUPPRESSED and counted, below it F and I follow the new angle while I lies after G. (07_valve_firing_channels.md, Buffering;
06_the_compensation_pass_demand_and_firing_angle.md, Delivery) -/
def Obligations.DeliverAngle : Prop :=
  ∀ (v : ValveId) (a : Nat) (s : State) (ch : Channel), ch = s.channel v →
    (ch.buffering = .double ∨ ch.state ≠ .armed →
      deliverAngle v a s = s.setChannel v { ch with pendingAlpha := a, pendingValid := true })
    ∧ (ch.buffering = .single → ch.state = .armed → ch.alphaOff ≤ a →
      deliverAngle v a s = bump (.channel v 4) (s.setChannel v { ch with alpha := a, pendingValid := false, state := .suppressed }))
    ∧ (ch.buffering = .single → ch.state = .armed → a < ch.alphaOff →
      0 < diff (ch.loadPoint + BitVec.ofNat 32 a - BitVec.ofNat 32 ch.lead) s.g →
      deliverAngle v a s = s.setChannel v { ch with
        alpha := a, pendingValid := false, fire := ch.loadPoint + BitVec.ofNat 32 a,
        issue := ch.loadPoint + BitVec.ofNat 32 a - BitVec.ofNat 32 ch.lead })

/-- CHECK_COMPLETION of a table whose check is in flight stores the computed check. A failing check records its result and failing word and
ends in IDLE; a passing one ends PENDING with result PASSED while the idle condition does not hold; each raises COMMIT_RESULT and changes
nothing else. With the idle condition a passing table is taken at once, as `TableTaken` spells it: the angle or the reference banks are
exchanged, or the staged record becomes active, where a change of fn sets the tracker FREE at its nominal inc and starts the pace periods
over, a change of passPhase moves the next boundary, and in OFF the items may make the part READY. With no check in flight nothing changes
(assumption 4). That a new passPhase with the same boundary phases has the first boundary after G announced, were it reached before, is
the model's choice (assumption 29). (08_table_banks_and_parameter_staging.md, The commit; 08_table_banks_and_parameter_staging.md, Commit
status and notice; 04_grid_timebase_and_phase_tracking.md, Parameter changes; 04_grid_timebase_and_phase_tracking.md, Positions along the
grid; 03_pacing_and_stream_merging.md, The pace generator; 10_access_requests_and_notices.md, Notices) -/
def Obligations.CheckCompletion : Prop :=
  ∀ (id : TableId) (s : State) (c : Commit), c = { s.tables.commit id with computed := checkOfWords (s.tables.checkedWords id), timer := 0 } →
    ((s.tables.commit id).state ≠ .checking → exec (.checkCompletion id) s = .next s)
    ∧ ((s.tables.commit id).state = .checking →
      (∀ res k, checkVerdict id s = some (res, k) → ∃ t, exec (.checkCompletion id) s = .next t
        ∧ Raised srcCommitResult (BitVec.ofNat 32 (tableCode id * 16777216 + resultCode res * 65536 + c.computed.toNat))
          (s.setTables (s.tables.setCommit id { c with state := .idle, result := res, failing := k })) t)
      ∧ (checkVerdict id s = none → ¬(s.sup.state = .off ∧ s.engine.inFlight = none ∧ s.tables.quiet = none) →
        ∃ t, exec (.checkCompletion id) s = .next t
          ∧ Raised srcCommitResult (BitVec.ofNat 32 (tableCode id * 16777216 + 65536 + c.computed.toNat))
            (s.setTables (s.tables.setCommit id { c with state := .pending, result := .passed, failing := 0 })) t)
      ∧ (checkVerdict id s = none → s.sup.state = .off → s.engine.inFlight = none → s.tables.quiet = none →
        ∃ t, exec (.checkCompletion id) s = .next t ∧ TableTaken id (s.setTables (s.tables.setCommit id c)) t))

/-- The verdict on the standby angle table is a pass exactly where the check over its words in address order equals the expected one, every
entry lies in 16384 to 32768, and no entry is greater than the one before it. The mismatch is reported before a range failure, and a range
failure, with its lowest failing word, before a rise, which is NOT_MONOTONIC with i + 1 as its failing word for the first entry i + 1
greater than entry i. (08_table_banks_and_parameter_staging.md, The commit) -/
def Obligations.AngleCheckVerdict : Prop :=
  ∀ (s : State) (t : AngleTable), t = s.tables.angleStandby →
    (checkVerdict .angle s = none ↔
      checkOfWords t.toList = s.tables.angleCommit.expected
        ∧ (∀ (i : Nat) (h : i < 257), 16384 ≤ t[i].toNat ∧ t[i].toNat ≤ 32768)
        ∧ (∀ (i : Nat) (h : i + 1 < 257), t[i + 1].toNat ≤ t[i].toNat))
    ∧ (checkOfWords t.toList ≠ s.tables.angleCommit.expected → checkVerdict .angle s = some (.checkMismatch, 0))
    ∧ (∀ (i : Nat) (h : i < 257), checkOfWords t.toList = s.tables.angleCommit.expected →
      ¬(16384 ≤ t[i].toNat ∧ t[i].toNat ≤ 32768) →
      (∀ (j : Nat) (hj : j < i), 16384 ≤ t[j].toNat ∧ t[j].toNat ≤ 32768) → checkVerdict .angle s = some (.outOfRange, i))
    ∧ (∀ (i : Nat) (h : i + 1 < 257), checkOfWords t.toList = s.tables.angleCommit.expected →
      (∀ (j : Nat) (hj : j < 257), 16384 ≤ t[j].toNat ∧ t[j].toNat ≤ 32768) → t[i].toNat < t[i + 1].toNat →
      (∀ (j : Nat) (hj : j < i), t[j + 1].toNat ≤ t[j].toNat) → checkVerdict .angle s = some (.notMonotonic, i + 1))

/-- QUIET_TIMER_EXPIRY with the timer running: it has expired. Outside OFF, with a pass in flight, or with no table PENDING, nothing else
changes. In OFF with no pass in flight every PENDING table is exchanged or activated, as `TableTaken` spells it, the parameter record
first, then the angle table, then the reference table (assumption 6). With the timer not running nothing changes (assumption 4). That a
new passPhase with the same boundary phases has the first boundary after G announced, were it reached before, is the model's choice
(assumption 29). (08_table_banks_and_parameter_staging.md, The commit; 04_grid_timebase_and_phase_tracking.md, Parameter changes;
04_grid_timebase_and_phase_tracking.md, Positions along the grid; 03_pacing_and_stream_merging.md, The pace generator) -/
def Obligations.QuietTimer : Prop :=
  ∀ s : State,
    (s.tables.quiet = none → exec .quietTimerExpiry s = .next s)
    ∧ (s.tables.quiet.isSome = true →
      (s.sup.state ≠ .off ∨ s.engine.inFlight.isSome = true ∨ (∀ id, (s.tables.commit id).state ≠ .pending) →
        exec .quietTimerExpiry s = .next { s with tables := { s.tables with quiet := none } })
      ∧ (s.sup.state = .off → s.engine.inFlight = none →
        ∃ t, exec .quietTimerExpiry s = .next t ∧ t.tables.quiet = none
          ∧ PendingTaken { s with tables := { s.tables with quiet := none } } t))

/-- For I1q, x and y in -32767 to 32767: t is 56756 x / 32768 and the branch demands are (I1q - y + t)/3, (I1q + 2y)/3 and (I1q - y - t)/3,
each division rounded with halves away from zero and no saturation; t lies in -56754 to 56754 and each demand in -40763 to 40763; with
I1q, x and y all 0 each demand is 0; a positive I1q with x and y 0 gives each branch a demand that is not negative, and positive from I1q
= 2 on. The record of a pass that runs the demand stage holds t. (R112) -/
def Obligations.BranchDemandRule : Prop :=
  (∀ i1q x y t : Int, -32767 ≤ i1q → i1q ≤ 32767 → -32767 ≤ x → x ≤ 32767 → -32767 ≤ y → y ≤ 32767 → t = demandT x →
      t = roundDiv (56756 * x) 32768 ∧ -56754 ≤ t ∧ t ≤ 56754
      ∧ branchDemand 0 i1q y t = roundDiv (i1q - y + t) 3 ∧ branchDemand 1 i1q y t = roundDiv (i1q + 2 * y) 3
      ∧ branchDemand 2 i1q y t = roundDiv (i1q - y - t) 3
      ∧ (∀ b, -40763 ≤ branchDemand b i1q y t ∧ branchDemand b i1q y t ≤ 40763)
      ∧ (i1q = 0 → x = 0 → y = 0 → ∀ b, branchDemand b i1q y t = 0)
      ∧ (2 ≤ i1q → x = 0 → y = 0 → ∀ b, 0 < branchDemand b i1q y t))
    ∧ (∀ (a : Int) (n : Nat), 0 < n → 2 * (roundDiv a n * n - a).natAbs ≤ n)
    ∧ (∀ (f : InFlight) (s : State), demandRuns f (measureFlight f) = true →
      (completionRecord f s).t = demandT (measureFlight f).x)

/-- For a reactor susceptance L in 0 to B_Lmax and B_Lmax at least 1: b is L 65536 / B_Lmax rounded, with halves away from zero; b lies in 0
to 65536, is 0 for L = 0 and 65536 for L = B_Lmax. The demand stage records this b for the branch's own L and B_Lmax, and its L lies in
that range. On every pass that runs the demand stage, with L_prev' the smaller of L_prev and B_Lmax: the target source is the first that
holds of the ramp order, HOLDING, and the mode HOLD, AUTO or MANUAL; the branch target T is L_safe, L_prev', L_prev', B_FC - Bk or the
manual value, clamped to 0 to B_Lmax with CAP_LIMIT below and IND_LIMIT above; where |T - L_prev'| exceeds slewMax, L lies slewMax from
L_prev' toward T, with SLEW, and otherwise L is T; alpha is the table's word 256 for b = 65536, and otherwise word i plus the rounded
share fr/256 of the step to word i + 1, with i and fr the quotient and remainder of b by 256. Alpha lies between the two words where the
table does not rise there, and in 16384 to 32768 where its words do. L_safe within B_Lmax and L_prev' set no limit flag. The pass carries
each flag that a branch carries. The stored L_prev becomes L on a delivered pass (RAMP, AUTO, MANUAL) and stays otherwise. (R120; R118;
R119; R121) -/
def Obligations.ConductionRule : Prop :=
  (∀ l bLmax : Nat, l ≤ bLmax → 1 ≤ bLmax →
      (conductionOf l bLmax : Int) = roundDiv ((l : Int) * 65536) bLmax ∧ conductionOf l bLmax ≤ 65536
        ∧ conductionOf 0 bLmax = 0 ∧ conductionOf bLmax bLmax = 65536)
    ∧ (∀ (params : ParamRecord) (angle : AngleTable) (i1q y t : Int) (mag1 : Nat) (src : TargetSource) (input : BranchInputs)
        (b : BranchId),
      (branchStage params angle i1q y t mag1 src input b).reactor ≤ pBlmax params b
        ∧ (branchStage params angle i1q y t mag1 src input b).conduction
          = conductionOf (branchStage params angle i1q y t mag1 src input b).reactor (pBlmax params b))
    ∧ (∀ (f : InFlight) (s : State) (r : PassRecord) (m : Measurement), r = completionRecord f s → m = measureFlight f →
      demandRuns f m = true →
      r.target = (if s.sup.ramp = true then .ramp else if s.sup.state = .holding then .holding
        else match s.engine.mode with
          | .hold => .hold
          | .auto => .auto
          | .manual => .manual)
      ∧ (r.flags.capLimit = true ↔ ∃ b : BranchId, (r.branches[b]).capLimit = true)
      ∧ (r.flags.indLimit = true ↔ ∃ b : BranchId, (r.branches[b]).indLimit = true)
      ∧ (r.flags.slew = true ↔ ∃ b : BranchId, (r.branches[b]).slew = true)
      ∧ ∀ (b : BranchId) (prev : Nat), prev = min s.engine.lPrev[b] (pBlmax f.params b) →
        BranchComputed f.params f.angle (branchDemand b m.i1q m.y r.t) m.mag1 r.target s.engine.manual[b] prev b r.branches[b])
    ∧ (∀ (order : List PassOutput) (f : InFlight) (s : State) (r : PassRecord), s.engine.inFlight = some f → r = completionRecord f s →
      ∃ t, exec (.passCompletion order) s = .next t ∧ t.engine.record = r ∧ ∀ b : BranchId, t.engine.lPrev[b] =
        if r.target = .ramp ∨ r.target = .auto ∨ r.target = .manual then (r.branches[b]).reactor else s.engine.lPrev[b])

/-- For a phasor with components in -32767 to 32767 the magnitude m is the floor of the square root of the exact sum of squares: m^2 is at
most the sum and (m + 1)^2 above it; m lies in 0 to 46339. The measurement stage forms |V1| and |V2| so from V1 and V2, whose components
lie in that range, the pass record holds |V1| and |V2|, and the rotation check compares 2 |V2| with |V1|. A pass that is VOLTAGE_INVALID
or has |V1| = 0 delivers no e. Every other delivers Im(V1) 10430 / |V1|, rounded and saturated to -8192 to 8192, where Re(V1) is above 0,
and otherwise 8192 where Im(V1) is not below 0, and -8192 where it is. At the completion the record holds this e, or 0 without one, and
the tracker has it as its last e. (R101; R105) -/
def Obligations.MagnitudeRule : Prop :=
  (∀ v : Phasor, -32767 ≤ v.re → v.re ≤ 32767 → -32767 ≤ v.im → v.im ≤ 32767 →
      (magnitude v : Int) * magnitude v ≤ v.re * v.re + v.im * v.im
        ∧ v.re * v.re + v.im * v.im < ((magnitude v : Int) + 1) * (magnitude v + 1) ∧ magnitude v ≤ 46339)
    ∧ (∀ (ref : ReferenceTable) (xs : List Sample) (q : Quality) (vMin : Nat) (m : Measurement), m = measureSamples ref xs q vMin →
      m.mag1 = magnitude m.v1 ∧ m.mag2 = magnitude m.v2 ∧ -32767 ≤ m.v1.re ∧ m.v1.re ≤ 32767 ∧ -32767 ≤ m.v1.im
        ∧ m.v1.im ≤ 32767 ∧ -32767 ≤ m.v2.re ∧ m.v2.re ≤ 32767 ∧ -32767 ≤ m.v2.im ∧ m.v2.im ≤ 32767
        ∧ (m.rotationFault = true ↔ m.voltageInvalid = false ∧ m.undervoltage = false ∧ m.mag1 < 2 * m.mag2))
    ∧ (∀ (f : InFlight) (s : State), (completionRecord f s).mag1 = (measureFlight f).mag1
      ∧ (completionRecord f s).mag2 = (measureFlight f).mag2)
    ∧ (∀ (ref : ReferenceTable) (xs : List Sample) (q : Quality) (vMin : Nat) (m : Measurement), m = measureSamples ref xs q vMin →
      m.voltageInvalid = q.invalidV
        ∧ (m.voltageInvalid = true ∨ m.mag1 = 0 → m.e = none)
        ∧ (m.voltageInvalid = false → 1 ≤ m.mag1 → m.e = some
          (if 0 < m.v1.re then max (-8192) (min 8192 (roundDiv (m.v1.im * 10430) m.mag1))
           else if 0 ≤ m.v1.im then 8192 else -8192)))
    ∧ (∀ (order : List PassOutput) (f : InFlight) (s : State), s.engine.inFlight = some f →
      ∃ t, exec (.passCompletion order) s = .next t ∧ t.engine.record.e = (match (measureFlight f).e with | some e => e | none => 0)
        ∧ t.tracker.lastE = (match (measureFlight f).e with | some e => e | none => s.tracker.lastE))

/-- The tracker at a completion with e (-8192 to 8192), from every state: its state and runs move by R77, a change is told by TRACKER_STATE
and to the supervisor, where leaving LOCKED is a protective condition in RUNNING and HOLDING. The phase step is e/2^(4-s) rounded and
saturated to -364 to 364, counted where saturated; G moves by it, and a forward step then reaches the positions it passes. inc becomes inc
+ e 64 2^s, clamped; where the clamp changed it the inc-clamp counter rises and FREQ_LIMIT alone is raised. Last, s rises by 1 to at most
3 for |e| above stepUp, falls by 1 for |e| below stepDown, else stays. The stages come in this order (R83), with the gain step that stage
1 leaves in the step and the correction; where the step starts a pass that activates a record, the last two still act (assumption 26).
Without e: FREE stays, PULL_IN and LOCKED enter HOLDOVER with a run of 1, HOLDOVER counts, and at holdoverLimit it is FREE at nominal inc.
That TRACKER_STATE is raised before the supervisor takes the change, so that its notice carries the operating state before it, is the
model's choice (assumption 6), and so is a last phase step of 0 after a correction of 0 (assumption 28). So is that the supervisor takes
the change, with the blocks that may follow, before the phase step and the later stages of the same completion (assumption 6).
(04_grid_timebase_and_phase_tracking.md, The per-pass update; 04_grid_timebase_and_phase_tracking.md, Tracker states;
04_grid_timebase_and_phase_tracking.md, Positions along the grid; 04_grid_timebase_and_phase_tracking.md, Notices, status and counters;
09_operating_states_and_protective_responses.md, Protective conditions; 09_operating_states_and_protective_responses.md, Permissives) -/
def Obligations.TrackerCorrections : Prop :=
  (∀ (gain : Nat) (e : Int) (s : State), gain ≤ 3 → -8192 ≤ e → e ≤ 8192 →
      (∀ (step : Int) (y : State), s.tracker.gain = gain → step = max (-364) (min 364 (roundDiv e (2 ^ (4 - gain)))) →
        y = bumpIf (decide (step ≠ roundDiv e (2 ^ (4 - gain)))) .saturatedSteps
          (s.setTracker { s.tracker with g48 := s.tracker.g48 + BitVec.ofInt 48 (step * 65536), lastStep := step }) →
        (step ≤ 0 → stagePhase e s = y) ∧ (0 < step → stagePhase e s = reachAll reachFuel y))
      ∧ (∀ sum : Int, sum = s.tracker.inc + e * (64 * 2 ^ gain) →
        (30198989 ≤ sum → sum ≤ 36909875 → stageFrequency gain e s = s.setTracker { s.tracker with inc := sum.toNat })
        ∧ (sum < 30198989 → Raised srcFreqLimit (freqDetail false s.tracker.state e)
            (bump .incClamps (s.setTracker { s.tracker with inc := 30198989 })) (stageFrequency gain e s))
        ∧ (36909875 < sum → Raised srcFreqLimit (freqDetail true s.tracker.state e)
            (bump .incClamps (s.setTracker { s.tracker with inc := 36909875 })) (stageFrequency gain e s)))
      ∧ (∀ p : ParamRecord, s.tracker.gain = gain → stageGain p e s = s.setTracker { s.tracker with
          gain := if pStepUp p < e.natAbs then min 3 (gain + 1) else if e.natAbs < pStepDown p then gain - 1 else gain })
      ∧ (∀ s1 : State, s1 = stageState e (bump .passesWithE s) →
        completionWithE e s = stageGain s.par e (stageFrequency s1.tracker.gain e (stagePhase e s1))))
    ∧ (∀ (e : Int) (s : State) (x u : Tracker) (small large : Bool), x = s.tracker →
      small = decide (e.natAbs ≤ pLockThreshold s.par) → large = decide (pUnlockThreshold s.par < e.natAbs) →
      u = (match x.state with
        | .free => { x with state := .pullIn, gain := 3, lockRun := if small = true then 1 else 0, lastE := e }
        | .holdover => { x with state := .pullIn, holdoverRun := 0, lockRun := if small = true then 1 else 0, lastE := e }
        | .pullIn =>
          if small = false then { x with lockRun := 0, lastE := e }
          else if x.lockRun + 1 < 8 then { x with lockRun := x.lockRun + 1, lastE := e }
          else { x with state := .locked, lockRun := x.lockRun + 1, unlockRun := 0, lastE := e }
        | .locked =>
          if large = false then { x with unlockRun := 0, lastE := e }
          else if x.unlockRun + 1 < 2 then { x with unlockRun := x.unlockRun + 1, lastE := e }
          else { x with state := .pullIn, unlockRun := x.unlockRun + 1, lockRun := 0, lastE := e }) →
      (u.state = x.state → stageState e s = s.setTracker u)
      ∧ (u.state ≠ x.state → TrackerTold x.state u.state e (s.setTracker u) (stageState e s)))
    ∧ (∀ (s y : State) (x : Tracker) (n : Nat), x = s.tracker → y = bump .passesWithoutE s → n = min 65535 (x.holdoverRun + 1) →
      (x.state = .free → completionWithoutE s = y)
      ∧ (x.state = .pullIn ∨ x.state = .locked → ∃ w, TrackerTold x.state .holdover 0
          (y.setTracker { x with state := .holdover, holdoverRun := 1, lockRun := 0, unlockRun := 0 }) w
        ∧ (w.tracker.state = .holdover → pHoldoverLimit w.par ≤ 1 →
          TrackerTold .holdover .free 0 (w.setTracker { w.tracker with
            state := .free, inc := 33554432, gain := 3, lockRun := 0, unlockRun := 0, holdoverRun := 0 }) (completionWithoutE s))
        ∧ (w.tracker.state ≠ .holdover ∨ 1 < pHoldoverLimit w.par → completionWithoutE s = w))
      ∧ (x.state = .holdover → n < pHoldoverLimit s.par → completionWithoutE s = y.setTracker { x with holdoverRun := n })
      ∧ (x.state = .holdover → pHoldoverLimit s.par ≤ n → TrackerTold .holdover .free 0 (y.setTracker { x with
            state := .free, inc := 33554432, gain := 3, lockRun := 0, unlockRun := 0, holdoverRun := 0 }) (completionWithoutE s)))

/-- The supervisor takes a record's number in every state, and history entries at least tripWindow records old expire. OFF, READY and TRIPPED
stay. In RUNNING and HOLDING a protective condition, the first of UNDERVOLTAGE, VOLTAGE_INVALID, ROTATION_FAULT, the tracker not LOCKED
and PS not UP, is a block entry of that cause. Without one: RUNNING with CURRENT_INVALID enters HOLDING with a holding count of 0 and the
ramp order exactly where holdingLimit is 0, and otherwise stays; HOLDING with it counts it, up to 255, and sets the ramp order at
holdingLimit, and without it returns to RUNNING with count and ramp order cleared; BLOCKED counts the clear record, and at recoveryDelay
counts a recovery and is RUNNING with autoRecover, else READY with the permissives and OFF without (READY where an activation there makes
them hold). A protective condition in BLOCKED sets the recovery count to 0. (09_operating_states_and_protective_responses.md, Taking a
pass record; 09_operating_states_and_protective_responses.md, Recovery; 09_operating_states_and_protective_responses.md, HOLDING and the
ramp to L_safe; 09_operating_states_and_protective_responses.md, Protective conditions; 09_operating_states_and_protective_responses.md,
Entering BLOCKED and trip escalation) -/
def Obligations.RecordsMoveTheSupervisor : Prop :=
  ∀ (r : PassRecord) (s t z : State), t = takeRecord r s →
    z = { s with sup := { s.sup with
      lastPass := r.number,
      history := s.sup.history.map (fun e =>
        if pTripWindow s.par ≤ (r.number - e.pass).toNat then { e with expired := true } else e) } } →
    t.sup.lastPass = r.number
    ∧ (s.sup.state = .off ∨ s.sup.state = .ready ∨ s.sup.state = .tripped → t = z)
    ∧ (s.sup.state = .blocked → recordCause r.flags s.sup.items ≠ none → t = { z with sup := { z.sup with recovery := 0 } })
    ∧ (∀ c, s.sup.state = .running ∨ s.sup.state = .holding → recordCause r.flags s.sup.items = some c → BlockEntered c 0 z t)
    ∧ recordCause r.flags s.sup.items =
      (if r.flags.undervoltage = true then some .undervoltage else if r.flags.voltageInvalid = true then some .voltageInvalid
       else if r.flags.rotationFault = true then some .rotationFault
       else if s.sup.items.tracker = false then some .trackerNotLocked
       else if s.sup.items.link = false then some .psNotUp else none)
    ∧ (recordCause r.flags s.sup.items = none →
      (s.sup.state = .running → r.flags.currentInvalid = false → t = z)
      ∧ (s.sup.state = .running → r.flags.currentInvalid = true → SupFrame s t ∧ t.sup.history = z.sup.history
        ∧ t.sup.state = .holding ∧ t.sup.holding = 0 ∧ t.sup.ramp = decide (pHoldingLimit s.par = 0)
          ∧ t.counter .holdingEntries = s.counter .holdingEntries + 1 ∧ t.channels = s.channels)
      ∧ (s.sup.state = .holding → r.flags.currentInvalid = true → t = { z with sup := { z.sup with
        holding := min 255 (s.sup.holding + 1),
        ramp := s.sup.ramp || decide (pHoldingLimit s.par ≤ min 255 (s.sup.holding + 1)) } })
      ∧ (s.sup.state = .holding → r.flags.currentInvalid = false → SupFrame s t ∧ t.sup.history = z.sup.history
        ∧ t.sup.state = .running ∧ t.sup.holding = 0 ∧ t.sup.ramp = false ∧ t.channels = s.channels)
      ∧ (∀ n, s.sup.state = .blocked → n = min 255 (s.sup.recovery + 1) →
        (n < pRecoveryDelay s.par → t = { z with sup := { z.sup with recovery := n } })
        ∧ (pRecoveryDelay s.par ≤ n → SupFrame s t ∧ t.sup.history = z.sup.history
          ∧ t.counter .recoveries = s.counter .recoveries + 1)
        ∧ (pRecoveryDelay s.par ≤ n → pAutoRecover s.par = true → t.sup.state = .running
          ∧ ∀ v : ValveId, (s.channel v).state = .blocked → (t.channel v).state = .idle)
        ∧ (pRecoveryDelay s.par ≤ n → pAutoRecover s.par = false → s.sup.items.hold = true → t.sup.state = .ready)
        ∧ (pRecoveryDelay s.par ≤ n → pAutoRecover s.par = false → s.sup.items.hold = false →
          t.sup.state = .off ∨ (t.sup.state = .ready ∧ t.sup.items.hold = true))
        ∧ (pRecoveryDelay s.par ≤ n → pAutoRecover s.par = false →
          ∀ v : ValveId, (s.channel v).state = .blocked → t.channel v = s.channel v)))

/-- LOSS_OF_SIGNAL at PS in UP while the operating state is RUNNING or HOLDING: a block entry of cause PS_NOT_UP joins the history, the oldest
of 15 leaving; the state is TRIPPED where the unexpired entries reach tripCount, with the trip record latched, and BLOCKED otherwise; the
LINK item is not met, the holding count and ramp order are cleared, the block-entry counter rises; every channel is BLOCKED, and PS holds
no queued frame and none in transmission, with its effective priorities initial. (09_operating_states_and_protective_responses.md,
Protective conditions; 09_operating_states_and_protective_responses.md, Entering BLOCKED and trip escalation; 07_valve_firing_channels.md,
Block and deblock) -/
def Obligations.LossOfPsBlocks : Prop :=
  ∀ (run : LineRun) (s : State) (h : List HistoryEntry), s.ps.link = .up → s.sup.state = .running ∨ s.sup.state = .holding →
    h = (if 15 ≤ s.sup.history.length then s.sup.history.drop (s.sup.history.length - 14) else s.sup.history)
      ++ [{ pass := s.sup.lastPass, cause := .psNotUp, valve := 0, expired := false }] →
    ∃ t, exec (.lossOfSignal .south run) s = .next t ∧ t.sup.history = h
      ∧ t.sup.state = (if pTripCount s.par ≤ (h.filter (fun e => !e.expired)).length then .tripped else .blocked)
      ∧ t.sup.items.link = false ∧ t.sup.holding = 0 ∧ t.sup.ramp = false
      ∧ t.counter .blockEntries = s.counter .blockEntries + 1
      ∧ (t.sup.state = .tripped → t.sup.trip = { latched := true, causeCode := 7, valve := 0, pass := s.sup.lastPass }
          ∧ t.counter .trips = s.counter .trips + 1)
      ∧ (t.sup.state = .blocked → t.sup.trip = s.sup.trip ∧ t.sup.recovery = 0)
      ∧ (∀ v : ValveId, (t.channel v).state = .blocked)
      ∧ t.ps.isFlushed

/-- START in READY is answered OK and moves to RUNNING: every BLOCKED channel is IDLE with no misses and no acknowledged block. In any other
state it is answered STATE and changes nothing else. RESET_TRIP in TRIPPED is answered OK: the latched flag is cleared and the record
kept, every history entry is expired, a BLOCKED channel is left as it is, and the state is READY where the permissives hold then (R185,
step 4), and OFF otherwise. In any other state it is answered STATE and changes nothing else. That a request which is not at the head of
the queue is served in the same way, and the queue then keeps its requests, is the model's choice (assumption 17).
(09_operating_states_and_protective_responses.md, Commands; 10_access_requests_and_notices.md, Commands) -/
def Obligations.StartAndResetTrip : Prop :=
  (∀ (c : CommandRequest) (s : State), s.sup.state = .ready → ∃ t u, exec (.start c) s = .next t
      ∧ Served (commandRequest 0x01#32 c) .ok [] u t
      ∧ GateFrame { s with sup := { s.sup with state := .running, items := { s.sup.items with notTripped := true } } } u
      ∧ ∀ v : ValveId, u.channel v =
          if (s.channel v).state = .blocked then { s.channel v with state := .idle, misses := 0, blockAck := false } else s.channel v)
    ∧ (∀ (c : CommandRequest) (s : State), s.sup.state ≠ .ready → ∃ t, exec (.start c) s = .next t
      ∧ Served (commandRequest 0x01#32 c) .state [] s t)
    ∧ (∀ (c : CommandRequest) (s : State), s.sup.state = .tripped → ∃ t u, exec (.resetTrip c) s = .next t
      ∧ Served (commandRequest 0x08#32 c) .ok [] u t ∧ SupFrame s u
      ∧ u.sup.trip = { s.sup.trip with latched := false }
      ∧ u.sup.history = s.sup.history.map (fun e => { e with expired := true })
      ∧ (u.sup.state = .off ∨ u.sup.state = .ready) ∧ u.sup.items.notTripped = true
      ∧ (u.sup.state = .ready ↔ u.sup.items.hold = true)
      ∧ ∀ v : ValveId, (s.channel v).state = .blocked → u.channel v = s.channel v)
    ∧ (∀ (c : CommandRequest) (s : State), s.sup.state ≠ .tripped → ∃ t, exec (.resetTrip c) s = .next t
      ∧ Served (commandRequest 0x08#32 c) .state [] s t)

/-- STOP in RUNNING, HOLDING and BLOCKED is answered OK, clears the recovery count, the holding count and the ramp order, and leaves every
channel BLOCKED: with the permissives holding the state is READY and the supervisor differs in nothing else; otherwise it is OFF, or READY
where an activation at the entry into OFF has made them hold. In OFF and READY it is answered OK with no change, in TRIPPED it is answered
STATE with no change. That a request which is not at the head of the queue is served in the same way, and the queue then keeps its
requests, is the model's choice (assumption 17). That a STOP in OFF and READY keeps the recovery count is the model's choice (assumption
31). (09_operating_states_and_protective_responses.md, Commands; 07_valve_firing_channels.md, Block and deblock;
10_access_requests_and_notices.md, Commands) -/
def Obligations.StopCommand : Prop :=
  ∀ (c : CommandRequest) (s : State),
    (s.sup.state = .off ∨ s.sup.state = .ready → ∃ t, exec (.stop c) s = .next t
      ∧ Served (commandRequest 0x02#32 c) .ok [] s t)
    ∧ (s.sup.state = .tripped → ∃ t, exec (.stop c) s = .next t ∧ Served (commandRequest 0x02#32 c) .state [] s t)
    ∧ (s.sup.state = .running ∨ s.sup.state = .holding ∨ s.sup.state = .blocked →
      ∃ t u, exec (.stop c) s = .next t ∧ Served (commandRequest 0x02#32 c) .ok [] u t
        ∧ SupFrame s u ∧ (∀ v : ValveId, (u.channel v).state = .blocked)
        ∧ u.sup.recovery = 0 ∧ u.sup.holding = 0 ∧ u.sup.ramp = false ∧ u.sup.history = s.sup.history ∧ u.sup.trip = s.sup.trip
        ∧ (s.sup.items.hold = true → GateFrame { s with sup := { s.sup with
            state := .ready, recovery := 0, holding := 0, ramp := false } } u)
        ∧ (s.sup.items.hold = false → u.sup.state = .off ∨ (u.sup.state = .ready ∧ u.sup.items.hold = true)))

/-- HOLD from AUTO or MANUAL remembers the mode and enters HOLD, in HOLD it changes nothing; both are answered OK. RELEASE in HOLD returns to
the remembered mode with OK; elsewhere it is answered STATE with no change. SET_MODE with 0 or 1 sets the mode named, or in HOLD the
remembered mode, with OK; any other argument is answered BAD_ARGUMENT with no change. L_prev and the manual values stay. That a request
which is not at the head of the queue is served in the same way, and the queue then keeps its requests, is the model's choice (assumption
17). (06_the_compensation_pass_demand_and_firing_angle.md, Engine mode and manual values; 10_access_requests_and_notices.md, Commands) -/
def Obligations.ModeCommands : Prop :=
  ∀ (c : CommandRequest) (s : State) (e : Engine), e = s.engine →
    (∃ t, exec (.hold c) s = .next t ∧ Served (commandRequest 0x03#32 c) .ok []
      (if e.mode = .hold then s else { s with engine := { e with mode := .hold, rememberedManual := decide (e.mode = .manual) } }) t)
    ∧ (∃ t, exec (.release c) s = .next t ∧
      (if e.mode = .hold then Served (commandRequest 0x04#32 c) .ok []
          { s with engine := { e with mode := if e.rememberedManual = true then .manual else .auto } } t
       else Served (commandRequest 0x04#32 c) .state [] s t))
    ∧ (∃ t, exec (.setMode c) s = .next t ∧
      (if c.argument = 0#32 ∨ c.argument = 1#32 then Served (commandRequest 0x05#32 c) .ok []
          (if e.mode = .hold then { s with engine := { e with rememberedManual := decide (c.argument = 1#32) } }
           else { s with engine := { e with mode := if c.argument = 1#32 then .manual else .auto } }) t
       else Served (commandRequest 0x05#32 c) .badArgument [] s t))

/-- SET_MANUAL_L with a branch number of 0 to 2 in its upper half sets that branch's manual value to its lower half with OK, and is answered
BAD_ARGUMENT with no change above 2. COMMIT with a table id of 0 to 2 starts the 20 us check against the expected check of its lower half
with OK where the table's commit is IDLE, is answered BUSY with no change where it is not, and BAD_ARGUMENT with no change for any other
id. That a request which is not at the head of the queue is served in the same way, and the queue then keeps its requests, is the model's
choice (assumption 17). (06_the_compensation_pass_demand_and_firing_angle.md, Engine mode and manual values;
08_table_banks_and_parameter_staging.md, The commit; 10_access_requests_and_notices.md, Commands) -/
def Obligations.ManualAndCommit : Prop :=
  ∀ (c : CommandRequest) (s : State) (hi lo : Nat), hi = c.argument.toNat / 65536 → lo = c.argument.toNat % 65536 →
    (∃ t, exec (.setManualL c) s = .next t ∧
      (∀ h : hi < 3, Served (commandRequest 0x06#32 c) .ok []
        { s with engine := { s.engine with manual := s.engine.manual.set hi lo h } } t)
      ∧ (3 ≤ hi → Served (commandRequest 0x06#32 c) .badArgument [] s t))
    ∧ (∃ t, exec (.commit c) s = .next t ∧
      (3 ≤ hi → Served (commandRequest 0x07#32 c) .badArgument [] s t)
      ∧ (∀ id : TableId, tableCode id = hi →
        ((s.tables.commit id).state = .idle → Served (commandRequest 0x07#32 c) .ok []
          (s.setTables (s.tables.setCommit id { s.tables.commit id with
            state := .checking, timer := 500, expected := BitVec.ofNat 16 lo })) t)
        ∧ ((s.tables.commit id).state ≠ .idle → Served (commandRequest 0x07#32 c) .busy [] s t)))

/-- SET_STYLE with a valve id of 0 to 5 and a style of 0 or 1, and SET_BUFFERING with a valve id of 0 to 5 and a mode of 0 or 1, are answered
OK in every state and set that channel's style or buffering mode and nothing else: not the half-cycle in progress and not the pending
slot. Any other argument is answered BAD_ARGUMENT and no channel changes. That a request which is not at the head of the queue is served
in the same way, and the queue then keeps its requests, is the model's choice (assumption 17). (07_valve_firing_channels.md, Issuing FIRE
commands; 07_valve_firing_channels.md, Buffering; 10_access_requests_and_notices.md, Commands) -/
def Obligations.StyleAndBuffering : Prop :=
  ∀ (c : CommandRequest) (s : State) (hi lo : Nat), hi = c.argument.toNat / 65536 → lo = c.argument.toNat % 65536 →
    (∃ t, exec (.setStyle c) s = .next t ∧
      (∀ v : ValveId, hi = v → lo < 2 → Served (commandRequest 0x0D#32 c) .ok []
        (s.setChannel v { s.channel v with style := if lo = 1 then .sustain else .pulse }) t)
      ∧ (6 ≤ hi ∨ 2 ≤ lo → Served (commandRequest 0x0D#32 c) .badArgument [] s t))
    ∧ (∃ t, exec (.setBuffering c) s = .next t ∧
      (∀ v : ValveId, hi = v → lo < 2 → Served (commandRequest 0x0C#32 c) .ok []
        (s.setChannel v { s.channel v with buffering := if lo = 1 then .single else .double }) t)
      ∧ (6 ≤ hi ∨ 2 ≤ lo → Served (commandRequest 0x0C#32 c) .badArgument [] s t))

/-- RETRAIN of port 0 (PN) or 1 (PS) is answered OK: the attempt count is 0, no frame is in reception, and the port is SEEKING with its seek
timer and one training attempt more with signal present, and DOWN otherwise; a port that was transmit-ready is flushed. Outside the port
only what `LinkFrame` allows differs. Any other argument is answered BAD_ARGUMENT with no change. That a request which is not at the head
of the queue is served in the same way, and the queue then keeps its requests, is the model's choice (assumption 17).
(01_the_station_link.md, Port states; 01_the_station_link.md, Transmission; 10_access_requests_and_notices.md, Commands) -/
def Obligations.RetrainCommand : Prop :=
  ∀ (c : CommandRequest) (s : State),
    (∀ p : PortId, c.argument.toNat = portCode p → ∃ t u, exec (.retrain c) s = .next t
      ∧ Served (commandRequest 0x0A#32 c) .ok [] u t ∧ LinkFrame p s u ∧ (s.port p).configKept (u.port p)
      ∧ (u.port p).attempts = 0 ∧ (u.port p).rx = none ∧ (u.port p).alignTimer = none ∧ (u.port p).holdoffTimer = none
      ∧ (u.port p).link = (if (s.port p).signal = true then .seeking else .down)
      ∧ (u.port p).seekTimer = (if (s.port p).signal = true then some 50000 else none)
      ∧ u.counter (.trainingAttempts p)
        = (if (s.port p).signal = true then s.counter (.trainingAttempts p) + 1 else s.counter (.trainingAttempts p))
      ∧ ((s.port p).transmitReady = true → (u.port p).isFlushed))
    ∧ (2 ≤ c.argument.toNat → ∃ t, exec (.retrain c) s = .next t ∧ Served (commandRequest 0x0A#32 c) .badArgument [] s t)

/-- An event raised at a notice source, from every state, as `Raised` spells it: a disabled source discards it; a pending one counts a repeat,
to at most 255, and keeps the detail; any other builds one NOTICE with destination, source, vector, repeat count 0, operating state and
detail, offered to ACCESS of the routed port: placed, the source is pending, and lost, it is not. CLEAR_NOTICE of a source of 0 to 21 is
answered OK. A source that is not pending is left as it is. A pending one with repeat count 0 is no longer pending. A pending one with
repeats, routed to a port that is transmit-ready with room in ACCESS, stays pending with repeat count 0, and a NOTICE with its repeats,
latest detail and the present operating state joins that ACCESS queue. A number of 22 or more is answered BAD_ARGUMENT with no change.
That a request which is not at the head of the queue is served in the same way, and the queue then keeps its requests, is the model's
choice (assumption 17). (10_access_requests_and_notices.md, Notices; 10_access_requests_and_notices.md, Commands;
02_frame_switching_and_transmit_scheduling.md, Transmit queues) -/
def Obligations.ClearNotice : Prop :=
  (∀ (n : SourceId) (d : Word) (s : State), Raised n d s (raise n d s))
    ∧ ∀ (c : CommandRequest) (s : State),
    (22 ≤ c.argument.toNat → ∃ t, exec (.clearNotice c) s = .next t ∧ Served (commandRequest 0x0B#32 c) .badArgument [] s t)
    ∧ (∀ (n : SourceId) (e : NoticeEntry), c.argument.toNat = n → e = s.notices[n] →
      ∃ t u, exec (.clearNotice c) s = .next t ∧ Served (commandRequest 0x0B#32 c) .ok [] u t ∧ QuietFrame s u
        ∧ (∀ m : SourceId, m ≠ n → u.notices[m] = s.notices[m])
        ∧ (e.pending = false → u = s)
        ∧ (e.pending = true → e.repeats = 0 → u = s.setNotice n { e with pending := false, latest := none })
        ∧ (∀ d, e.pending = true → e.repeats ≠ 0 → e.latest = some d → (s.port e.route).transmitReady = true →
          (s.port e.route).access.length < 8 →
          u.notices[n] = { e with pending := true, repeats := 0, latest := some d }
            ∧ (u.port e.route).access = (s.port e.route).access ++ [.notice e.dest n e.vector e.repeats s.sup.state d]
            ∧ u.counter .noticesQueued = s.counter .noticesQueued + 1))

/-- WARM_RESET answers OK after the reset and leaves the request queue empty, the requests behind it counted as discarded. The state is OFF,
or TRIPPED where it was, with the history and trip record kept; every channel is BLOCKED at angle 32768 with no pending angle; TIMED (but
for BLOCK commands issued by the channels), MEASURE and PASS are empty; rows and history are empty with P and the last closed row equal,
streams SILENT or DISABLED; the tracker is FREE at nominal inc with G kept; no pass is in flight, the mode is AUTO; commits are IDLE; no
notice source pends but for a drop of the reply; link state, tables and configuration stay. That a request which is not at the head of the
queue is served in the same way, and the queue then keeps its requests, is the model's choice (assumption 17). The BLOCK commands in valve
order 0 to 5 are the model's choice (assumption 6), and so is the discard of the whole queue where WARM_RESET is not its head (assumption
17). The pending angle that word 2 of a channel reads stays as it was, which is the model's choice (assumption 30).
(02_frame_switching_and_transmit_scheduling.md, Reset; 03_pacing_and_stream_merging.md, Reset; 04_grid_timebase_and_phase_tracking.md,
Reset; 05_the_compensation_pass_measurement.md, Status, counters and reset; 06_the_compensation_pass_demand_and_firing_angle.md, Status
and reset; 07_valve_firing_channels.md, Reset; 08_table_banks_and_parameter_staging.md, Reset;
09_operating_states_and_protective_responses.md, Reset; 10_access_requests_and_notices.md, Commands; 10_access_requests_and_notices.md,
Counters and reset) -/
def Obligations.WarmReset : Prop :=
  ∀ (c : CommandRequest) (s : State), ∃ t, exec (.warmReset c) s = .next t
    ∧ t.agent = { s.agent with queue := [] } ∧ t.pending = s.pending ∧ t.nodeId = s.nodeId ∧ t.fwd = s.fwd ∧ t.pace = s.pace
    ∧ t.sup = { s.sup with
        state := if s.sup.state = .tripped then .tripped else .off, recovery := 0, holding := 0, ramp := false,
        items := { s.sup.items with tracker := false, voltage := false, feeders := t.merge.feedersMet,
                                    notTripped := decide (s.sup.state ≠ .tripped) } }
    ∧ (∀ v : ValveId, t.channel v = { s.channel v with
        state := .blocked, alpha := 32768, pendingValid := false, misses := 0, blockAck := false })
    ∧ (∀ p : PortId, (t.port p).measure = [] ∧ (t.port p).pass = [] ∧ (t.port p).link = (s.port p).link
        ∧ (t.port p).tx = (s.port p).tx ∧ (t.port p).effAccess = (s.port p).accessPriority ∧ (t.port p).effMeasure = 4
        ∧ (t.port p).effPass = 6 ∧ (s.port p).configKept (t.port p))
    ∧ (s.pn.transmitReady = true → t.pn.timed = []) ∧ (s.ps.link ≠ .up → t.ps.timed = [])
    ∧ (s.ps.link = .up → t.ps.timed = [.gate ([0, 1, 2, 3, 4, 5].map (fun v => plainCommand v .block))])
    ∧ t.merge.rows = [] ∧ t.merge.history = [] ∧ t.merge.lastClosed = s.pace.count ∧ t.merge.selection = .none
    ∧ t.merge.mainRun = 0 ∧ t.merge.table = s.merge.table
    ∧ (∀ i : StreamId, t.merge.status[i] = { s.merge.status[i] with
        state := if (s.merge.table[i]).enable = true then .silent else .disabled, filled := 0, missing := 0 })
    ∧ t.tracker = { s.tracker with state := .free, inc := 33554432, gain := 3, lockRun := 0, unlockRun := 0, holdoverRun := 0 }
    ∧ t.engine = { s.engine with inFlight := none, pendingBoundaries := [], mode := .auto, rememberedManual := false }
    ∧ (∀ id : TableId, (t.tables.commit id).state = .idle
        ∧ ((s.tables.commit id).state ≠ .idle → (t.tables.commit id).result = .cancelled)
        ∧ ((s.tables.commit id).state = .idle → t.tables.commit id = s.tables.commit id))
    ∧ t.tables.angleActive = s.tables.angleActive ∧ t.tables.refActive = s.tables.refActive ∧ t.tables.staged = s.tables.staged
    ∧ t.par = s.par ∧ (∀ n : SourceId, n ≠ 4 → (t.notices[n]).pending = false)
    ∧ t.counter .requestsServed = s.counter .requestsServed + 1
    ∧ t.counter .discardedByReset = s.counter .discardedByReset + BitVec.ofNat 32
        (if s.agent.queue.head? = some (commandRequest 0x09#32 c) then s.agent.queue.length - 1 else s.agent.queue.length)
    ∧ ((s.port c.port).transmitReady = true → (s.port c.port).access.length < 8 →
        (t.port c.port).access = (s.port c.port).access ++ [.reply c.source c.tag .ok []])

/-- A write that reaches the port configuration region with as many words as its count: where word 0 of a port lies in 0 to 1, word 1 in 1 to
255 and word 2 in 1 to 15 for every word written, it is answered OK, and every word of the region reads as written or as before; otherwise
it is answered BAD_ARGUMENT with no change. The ports keep their link states, a port that loses its readiness is left without frames, and
besides them only what a lost readiness lets go differs. That a request which is not at the head of the queue is served in the same way,
and the queue then keeps its requests, is the model's choice (assumption 17). A posted write gets no reply, and with another status than
OK raises ACCESS_ERROR with its tag, operation and status, as `Posted` spells it. (01_the_station_link.md, Port configuration and reset;
10_access_requests_and_notices.md, The access address map; 10_access_requests_and_notices.md, Requests and the request queue;
10_access_requests_and_notices.md, Replies) -/
def Obligations.PortConfigurationWrite : Prop :=
  ∀ (w : WriteRequest) (s : State) (i : Nat), w.wellFormed = true → accessTarget (writeRequest w) s = .ok (.portConfig, i) →
    ((∀ j, j < w.data.length → match (i + j) % 8 with
        | 0 => (w.data.getD j 0).toNat ≤ 1
        | 1 => 1 ≤ (w.data.getD j 0).toNat ∧ (w.data.getD j 0).toNat ≤ 255
        | 2 => 1 ≤ (w.data.getD j 0).toNat ∧ (w.data.getD j 0).toNat ≤ 15
        | _ => True) →
      ∃ t u, exec (.portConfigurationWrite w) s = .next t ∧ Answered (writeRequest w) (isPosted (writeRequest w) s) .ok u t
        ∧ ReadsBack .portConfig i w.data s u ∧ GateFrame { s with pn := u.pn, ps := u.ps } u
        ∧ ∀ p : PortId, (u.port p).link = (s.port p).link ∧ (u.port p).rx = (s.port p).rx
          ∧ (u.port p).attempts = (s.port p).attempts
          ∧ ((s.port p).transmitReady = true → (u.port p).transmitReady = false →
            (u.port p).timed = [] ∧ (u.port p).access = [] ∧ (u.port p).measure = [] ∧ (u.port p).pass = []
              ∧ (u.port p).tx = none))
    ∧ ((∃ j, j < w.data.length ∧ match (i + j) % 8 with
        | 0 => 2 ≤ (w.data.getD j 0).toNat
        | 1 => (w.data.getD j 0).toNat = 0 ∨ 256 ≤ (w.data.getD j 0).toNat
        | 2 => (w.data.getD j 0).toNat = 0 ∨ 16 ≤ (w.data.getD j 0).toNat
        | _ => False) →
      ∃ t, exec (.portConfigurationWrite w) s = .next t
        ∧ Answered (writeRequest w) (isPosted (writeRequest w) s) .badArgument s t)

/-- A write that reaches the forwarding table is answered OK where no word 0 of an entry carries arrival port code 3, and BAD_ARGUMENT with no
change otherwise; one to the access windows or the notice vector table is answered OK always. After OK each word of the region reads as
written, within the bits that the region stores, or as before, and nothing outside the table differs. Word 1 of a vector entry takes no
write: its pending flag and repeat count are cleared where enable goes from 1 to 0, and stay otherwise. That a request which is not at the
head of the queue is served in the same way, and the queue then keeps its requests, is the model's choice (assumption 17). A posted write
gets no reply, and with another status than OK raises ACCESS_ERROR with its tag, operation and status, as `Posted` spells it.
(02_frame_switching_and_transmit_scheduling.md, The forwarding table; 10_access_requests_and_notices.md, Access windows;
10_access_requests_and_notices.md, Notices; 10_access_requests_and_notices.md, The access address map; 10_access_requests_and_notices.md,
Replies) -/
def Obligations.TableWritesReadBack : Prop :=
  ∀ (w : WriteRequest) (s : State) (i : Nat) (posted : Bool), w.wellFormed = true → posted = isPosted (writeRequest w) s →
    (accessTarget (writeRequest w) s = .ok (.forwarding, i) →
      ((∀ j, j < w.data.length → (i + j) % 4 = 0 → (w.data.getD j 0).toNat / 2 % 4 ≠ 3) →
        ∃ t u, exec (.forwardingTableWrite w) s = .next t ∧ Answered (writeRequest w) posted .ok u t
          ∧ u = { s with fwd := u.fwd } ∧ ReadsBack .forwarding i w.data s u)
      ∧ ((∃ j, j < w.data.length ∧ (i + j) % 4 = 0 ∧ (w.data.getD j 0).toNat / 2 % 4 = 3) →
        ∃ t, exec (.forwardingTableWrite w) s = .next t ∧ Answered (writeRequest w) posted .badArgument s t))
    ∧ (accessTarget (writeRequest w) s = .ok (.windows, i) →
      ∃ t u, exec (.accessWindowWrite w) s = .next t ∧ Answered (writeRequest w) posted .ok u t
        ∧ u = { s with agent := { s.agent with windows := u.agent.windows } } ∧ ReadsBack .windows i w.data s u)
    ∧ (accessTarget (writeRequest w) s = .ok (.vectors, i) →
      ∃ t u, exec (.noticeVectorWrite w) s = .next t ∧ Answered (writeRequest w) posted .ok u t
        ∧ u = { s with notices := u.notices }
        ∧ (∀ n : SourceId,
          (¬(i ≤ 2 * n.val ∧ 2 * n.val < i + w.data.length) → u.notices[n] = s.notices[n])
          ∧ (i ≤ 2 * n.val → 2 * n.val < i + w.data.length →
            readWord .vectors (2 * n.val) u = w.data.getD (2 * n.val - i) 0 &&& 0xFFFF03#32
            ∧ (if (s.notices[n]).enable = true ∧ (w.data.getD (2 * n.val - i) 0).getLsbD 0 = false then
                (u.notices[n]).pending = false ∧ (u.notices[n]).repeats = 0
               else (u.notices[n]).pending = (s.notices[n]).pending ∧ (u.notices[n]).repeats = (s.notices[n]).repeats
                ∧ (u.notices[n]).latest = (s.notices[n]).latest))))

/-- A write that reaches the counters region is answered OK where every word is 0, and the words written read 0; otherwise BAD_ARGUMENT with
no change. A write that reaches the staged record, the standby angle bank or the standby reference bank is answered OK where that table's
commit is IDLE, and every word of the region reads as written, the words that R159 does not name reading 0, or as before, with the active
banks and the active record as they were; otherwise it is answered BUSY with no change. That a request which is not at the head of the
queue is served in the same way, and the queue then keeps its requests, is the model's choice (assumption 17). A posted write gets no
reply, and with another status than OK raises ACCESS_ERROR with its tag, operation and status, as `Posted` spells it.
(08_table_banks_and_parameter_staging.md, Banks, copies and loading; 08_table_banks_and_parameter_staging.md, The parameter record;
10_access_requests_and_notices.md, The access address map; 10_access_requests_and_notices.md, Counters and reset;
10_access_requests_and_notices.md, Replies) -/
def Obligations.CounterAndStandbyWrites : Prop :=
  ∀ (w : WriteRequest) (s : State) (i : Nat) (posted : Bool), w.wellFormed = true → posted = isPosted (writeRequest w) s →
    (accessTarget (writeRequest w) s = .ok (.counters, i) →
      ((∀ x, x ∈ w.data → x = 0#32) → ∃ t u, exec (.counterClear w) s = .next t
        ∧ Answered (writeRequest w) posted .ok u t ∧ u = { s with counters := u.counters } ∧ ReadsBack .counters i w.data s u)
      ∧ ((∃ x, x ∈ w.data ∧ x ≠ 0#32) → ∃ t, exec (.counterClear w) s = .next t
        ∧ Answered (writeRequest w) posted .badArgument s t))
    ∧ (∀ (r : Region) (id : TableId),
      (r = .staged ∧ id = .parameters ∨ r = .angleStandby ∧ id = .angle ∨ r = .refStandby ∧ id = .reference) →
      accessTarget (writeRequest w) s = .ok (r, i) →
      ((s.tables.commit id).state = .idle → ∃ t u, exec (.standbyOrStagedWrite w) s = .next t
        ∧ Answered (writeRequest w) posted .ok u t ∧ u = { s with tables := u.tables }
        ∧ ((∀ k, paramUnnamed k = true → readWord .staged k s = 0#32) → ReadsBack r i w.data s u)
        ∧ u.tables.angleActive = s.tables.angleActive ∧ u.tables.refActive = s.tables.refActive
        ∧ u.tables.active = s.tables.active ∧ (∀ k : TableId, u.tables.commit k = s.tables.commit k))
      ∧ ((s.tables.commit id).state ≠ .idle → ∃ t, exec (.standbyOrStagedWrite w) s = .next t
        ∧ Answered (writeRequest w) posted .busy s t))

/-- A write that reaches the stream table, with W the words of the table as they would stand: it is answered BAD_ARGUMENT with no change where
a written word 0 has role code 3, or in W a hold limit is 0, two enabled entries are VOLTAGE_MAIN or two VOLTAGE_STANDBY, more than 6
enabled entries are FEEDER, or two enabled entries share a source node; in every other case it is answered OK. After OK every word reads
as W. With no row open, an entry newly enabled, or enabled with another source or role, is SILENT with its counts and values 0, one no
longer enabled is DISABLED, and any other keeps its status. That a request which is not at the head of the queue is served in the same way
is the model's choice (assumption 17). A posted write gets no reply, and with another status than OK raises ACCESS_ERROR with its tag,
operation and status, as `Posted` spells it. (03_pacing_and_stream_merging.md, The stream table; 03_pacing_and_stream_merging.md, Stream
states; 10_access_requests_and_notices.md, The access address map; 10_access_requests_and_notices.md, Replies) -/
def Obligations.StreamTableWrite : Prop :=
  ∀ (w : WriteRequest) (s : State) (i : Nat) (W : Nat → Word) (refused : Prop), w.wellFormed = true →
    accessTarget (writeRequest w) s = .ok (.streamTable, i) →
    (∀ k, W k = if i ≤ k ∧ k < i + w.data.length then w.data.getD (k - i) 0 &&& Region.streamTable.mask k
      else readWord .streamTable k s) →
    (refused ↔ (∃ j, j < w.data.length ∧ (i + j) % 4 = 0 ∧ (w.data.getD j 0).toNat / 2 % 4 = 3)
      ∨ (∃ a, a < 8 ∧ (W (4 * a + 3)).toNat % 256 = 0)
      ∨ (∃ a b role, a < b ∧ b < 8 ∧ (W (4 * a)).getLsbD 0 = true ∧ (W (4 * b)).getLsbD 0 = true ∧ (role = 1 ∨ role = 2)
        ∧ (W (4 * a)).toNat / 2 % 4 = role ∧ (W (4 * b)).toNat / 2 % 4 = role)
      ∨ 6 < ((List.range 8).filter (fun a => (W (4 * a)).getLsbD 0 = true ∧ (W (4 * a)).toNat / 2 % 4 = 0)).length
      ∨ (∃ a b, a < b ∧ b < 8 ∧ (W (4 * a)).getLsbD 0 = true ∧ (W (4 * b)).getLsbD 0 = true
        ∧ (W (4 * a)).toNat / 256 % 256 = (W (4 * b)).toNat / 256 % 256)) →
    (refused → ∃ t, exec (.streamTableWrite w) s = .next t
      ∧ Answered (writeRequest w) (isPosted (writeRequest w) s) .badArgument s t)
    ∧ (¬refused → ∃ t u, exec (.streamTableWrite w) s = .next t
      ∧ Answered (writeRequest w) (isPosted (writeRequest w) s) .ok u t
      ∧ ReadsBack .streamTable i w.data s u
      ∧ (∀ a : StreamId, (u.merge.table[a]).holdLimit ≠ 0#8)
      ∧ (∀ a b : StreamId, a ≠ b → (u.merge.table[a]).enable = true → (u.merge.table[b]).enable = true →
        (u.merge.table[a]).source ≠ (u.merge.table[b]).source
          ∧ ((u.merge.table[a]).role = (u.merge.table[b]).role → (u.merge.table[a]).role = .feeder))
      ∧ (s.merge.rows = [] → ∀ a : StreamId, u.merge.status[a] =
          if (u.merge.table[a]).enable = true then
            (if (s.merge.table[a]).enable = false ∨ (s.merge.table[a]).source ≠ (u.merge.table[a]).source
                ∨ (s.merge.table[a]).role ≠ (u.merge.table[a]).role then
              { state := .silent, filled := 0, missing := 0, last := { a := 0, b := 0, c := 0 } }
             else s.merge.status[a])
          else if (s.merge.table[a]).enable = true then { s.merge.status[a] with state := .disabled } else s.merge.status[a]))

/-- A write of any of the eight rows whose count, window or region turns it away is answered with the status of the first test that fails, and
nothing else changes: BAD_COUNT for a count of 0 or above 32, then NO_WINDOW where no enabled window matches, then READ_ONLY at a read-
only window, then BAD_ADDRESS where the translated words lie in no one region, then READ_ONLY for a region marked read-only: that answer
is the whole effect of READ_ONLY_REGION_WRITE. That a request which is not at the head of the queue is served in the same way, and the
queue then keeps its requests, is the model's choice (assumption 17). A posted write gets no reply, and with another status than OK raises
ACCESS_ERROR with its tag, operation and status, as `Posted` spells it. (10_access_requests_and_notices.md, Requests and the request
queue; 10_access_requests_and_notices.md, Access windows; 10_access_requests_and_notices.md, The access address map;
10_access_requests_and_notices.md, Replies) -/
def Obligations.WritesThatReachNoRegion : Prop :=
  (∀ (k : WriteRequest → Instr) (w : WriteRequest) (s : State) (e : Status),
      k ∈ [Instr.portConfigurationWrite, Instr.forwardingTableWrite, Instr.streamTableWrite, Instr.accessWindowWrite,
        Instr.noticeVectorWrite, Instr.counterClear, Instr.standbyOrStagedWrite, Instr.readOnlyRegionWrite] →
      accessTarget (writeRequest w) s = .error e →
      ∃ t, exec (k w) s = .next t ∧ Answered (writeRequest w) (isPosted (writeRequest w) s) e s t)
    ∧ (∀ (w : WriteRequest) (s : State),
      (w.count = 0#8 ∨ 32 < w.count.toNat → accessTarget (writeRequest w) s = .error .badCount)
      ∧ (1 ≤ w.count.toNat → w.count.toNat ≤ 32 →
        ((∀ j : StreamId, (s.agent.windows[j]).hit w.address = false) → accessTarget (writeRequest w) s = .error .noWindow)
        ∧ (∀ j : StreamId, (s.agent.windows[j]).hit w.address = true →
          (∀ a : StreamId, a < j → (s.agent.windows[a]).hit w.address = false) →
          ((s.agent.windows[j]).readOnly = true → accessTarget (writeRequest w) s = .error .readOnly)
          ∧ (∀ first : Nat, (s.agent.windows[j]).readOnly = false → first = ((s.agent.windows[j]).translated w.address).toNat →
            ((∀ g : Region, ¬(g.base ≤ first ∧ first + w.count.toNat ≤ g.base + g.words)) →
              accessTarget (writeRequest w) s = .error .badAddress)
            ∧ (∀ g : Region, g.base ≤ first → first + w.count.toNat ≤ g.base + g.words →
              accessTarget (writeRequest w) s = if g.writable = true then .ok (g, first - g.base) else .error .readOnly)))))
    ∧ (∀ (w : WriteRequest) (s : State) (j : StreamId) (g : Region) (first : Nat), 1 ≤ w.count.toNat → w.count.toNat ≤ 32 →
      (s.agent.windows[j]).hit w.address = true → (∀ a : StreamId, a < j → (s.agent.windows[a]).hit w.address = false) →
      first = ((s.agent.windows[j]).translated w.address).toNat → g.base ≤ first → first + w.count.toNat ≤ g.base + g.words →
      (s.agent.windows[j]).readOnly = false → g.writable = false →
      ∃ t, exec (.readOnlyRegionWrite w) s = .next t
        ∧ Answered (writeRequest w) (isPosted (writeRequest w) s) .readOnly s t)

/-- With no command waiting, no event due and a READ at the head of the request queue that reaches words i to i + n - 1 of a region, the step
serves it: it is answered OK with those n words in address order, leaves the queue, and changes nothing else. The service of the head on
an empty queue is the model's own (assumption 3). (10_access_requests_and_notices.md, Requests and the request queue;
10_access_requests_and_notices.md, Replies; 10_access_requests_and_notices.md, The access address map) -/
def Obligations.ReadReturnsTheWords : Prop :=
  ∀ (s : State) (r : Request) (q : List Request) (g : Region) (i : Nat), s.pending = [] → dueCommands s = [] → s.agent.queue = r :: q →
    r.operation = 1#8 → accessTarget r s = .ok (g, i) →
    ∃ t, step s = .next t ∧ Served r .ok ((List.range r.count.toNat).map (fun k => readWord g (i + k) s)) s t
      ∧ t.agent = { s.agent with queue := q }

/-- For every state whose two ports meet `PortInv` and every step to a next state, both ports meet it again: the queue capacities, the attempt
count, the timers of their own states, the ageing bounds, the receive buffer, the configuration's ranges, and that a port outside UP and
FAR_FAULT holds no frame in reception, no window and no mark request, and a port that is not transmit-ready no frame to send. That no mark
request stands outside UP and FAR_FAULT rests on assumption 13, and that the run of invalid symbols stays at 16 at most on assumption 12;
both are deduced by the model. That a TRAIN mark is owed in UP only rests on assumption 27, the model's choice. (01_the_station_link.md,
Port states; 01_the_station_link.md, Transmission; 02_frame_switching_and_transmit_scheduling.md, Transmit queues;
02_frame_switching_and_transmit_scheduling.md, The arbiter) -/
def Obligations.PortsKeepTheirBounds : Prop :=
  ∀ s t : State, (∀ p : PortId, PortInv (s.port p)) → step s = .next t → ∀ p : PortId, PortInv (t.port p)

/-- For every state that meets `MergeInv` and every step to a next state, it is met again: the open rows stand in index order from the row
after the last closed one to row P, the history's indices fall by one from the last closed index, and the history holds at most 256 sets.
(03_pacing_and_stream_merging.md, Merge rows; 03_pacing_and_stream_merging.md, Row close; 03_pacing_and_stream_merging.md, The history
ring) -/
def Obligations.RowsAndHistoryStayInOrder : Prop :=
  ∀ s t : State, MergeInv s → step s = .next t → MergeInv t

/-- For every state that meets `TrackerInv`, `SupInv` and `BlockInv` and every step to a next state, all three are met again: inc within its
clamps, the gain step within 0 to 3, the runs, the last step within 364 gu; the history of at most 15 entries, the counts, NOT_TRIPPED and
the latch equivalent to the state, the ramp order in HOLDING only; at most 2 pending boundaries, 15 misses and 4 requests.
(04_grid_timebase_and_phase_tracking.md, The per-pass update; 04_grid_timebase_and_phase_tracking.md, Tracker states;
09_operating_states_and_protective_responses.md, Entering BLOCKED and trip escalation; 09_operating_states_and_protective_responses.md,
HOLDING and the ramp to L_safe; 05_the_compensation_pass_measurement.md, Pass boundaries and windows; 10_access_requests_and_notices.md,
Requests and the request queue) -/
def Obligations.NumbersStayInRange : Prop :=
  ∀ s t : State, TrackerInv s.tracker → SupInv s.sup → BlockInv s → step s = .next t →
    TrackerInv t.tracker ∧ SupInv t.sup ∧ BlockInv t

/-- For every state that meets `FiringInv` and every step to a next state, it is met again: while the operating state is neither RUNNING nor
HOLDING, all six channels are BLOCKED and no frame in PS's TIMED queue holds a FIRE command. So no command, no event and no order of them
makes the part fire outside those two states. (09_operating_states_and_protective_responses.md, Consequences of a state change;
07_valve_firing_channels.md, Block and deblock; 02_frame_switching_and_transmit_scheduling.md, Purge of fire commands) -/
def Obligations.BlockedOutsideFiringStates : Prop :=
  ∀ s t : State, FiringInv s → step s = .next t → FiringInv t
end

