-- ==== Sys2Proof/Laws/State.lean ====
section
/-! SUPPORT. One lemma per field of the state and per update: what each update leaves in each field. -/

namespace Sys2Proof.Machine

@[simp] theorem State.setChannel_pending (s : State) (v : ValveId) (c : Channel) : (s.setChannel v c).pending = s.pending := rfl
@[simp] theorem State.setChannel_nodeId (s : State) (v : ValveId) (c : Channel) : (s.setChannel v c).nodeId = s.nodeId := rfl
@[simp] theorem State.setChannel_counters (s : State) (v : ValveId) (c : Channel) : (s.setChannel v c).counters = s.counters := rfl
@[simp] theorem State.setChannel_pn (s : State) (v : ValveId) (c : Channel) : (s.setChannel v c).pn = s.pn := rfl
@[simp] theorem State.setChannel_ps (s : State) (v : ValveId) (c : Channel) : (s.setChannel v c).ps = s.ps := rfl
@[simp] theorem State.setChannel_fwd (s : State) (v : ValveId) (c : Channel) : (s.setChannel v c).fwd = s.fwd := rfl
@[simp] theorem State.setChannel_pace (s : State) (v : ValveId) (c : Channel) : (s.setChannel v c).pace = s.pace := rfl
@[simp] theorem State.setChannel_merge (s : State) (v : ValveId) (c : Channel) : (s.setChannel v c).merge = s.merge := rfl
@[simp] theorem State.setChannel_tracker (s : State) (v : ValveId) (c : Channel) : (s.setChannel v c).tracker = s.tracker := rfl
@[simp] theorem State.setChannel_engine (s : State) (v : ValveId) (c : Channel) : (s.setChannel v c).engine = s.engine := rfl
@[simp] theorem State.setChannel_channels (s : State) (v : ValveId) (c : Channel) : (s.setChannel v c).channels = s.channels.set v c := rfl
@[simp] theorem State.setChannel_tables (s : State) (v : ValveId) (c : Channel) : (s.setChannel v c).tables = s.tables := rfl
@[simp] theorem State.setChannel_sup (s : State) (v : ValveId) (c : Channel) : (s.setChannel v c).sup = s.sup := rfl
@[simp] theorem State.setChannel_agent (s : State) (v : ValveId) (c : Channel) : (s.setChannel v c).agent = s.agent := rfl
@[simp] theorem State.setChannel_notices (s : State) (v : ValveId) (c : Channel) : (s.setChannel v c).notices = s.notices := rfl
@[simp] theorem State.setChannel_port (s : State) (v : ValveId) (c : Channel) (p : PortId) : (s.setChannel v c).port p = s.port p := by cases p <;> rfl
@[simp] theorem State.setChannel_counter (s : State) (v : ValveId) (c : Channel) (k : Counter) : (s.setChannel v c).counter k = s.counter k := rfl
@[simp] theorem State.setChannel_par (s : State) (v : ValveId) (c : Channel) : (s.setChannel v c).par = s.par := rfl
@[simp] theorem State.setChannel_g (s : State) (v : ValveId) (c : Channel) : (s.setChannel v c).g = s.g := rfl

@[simp] theorem State.setTables_pending (s : State) (x : Tables) : (s.setTables x).pending = s.pending := rfl
@[simp] theorem State.setTables_nodeId (s : State) (x : Tables) : (s.setTables x).nodeId = s.nodeId := rfl
@[simp] theorem State.setTables_counters (s : State) (x : Tables) : (s.setTables x).counters = s.counters := rfl
@[simp] theorem State.setTables_pn (s : State) (x : Tables) : (s.setTables x).pn = s.pn := rfl
@[simp] theorem State.setTables_ps (s : State) (x : Tables) : (s.setTables x).ps = s.ps := rfl
@[simp] theorem State.setTables_fwd (s : State) (x : Tables) : (s.setTables x).fwd = s.fwd := rfl
@[simp] theorem State.setTables_pace (s : State) (x : Tables) : (s.setTables x).pace = s.pace := rfl
@[simp] theorem State.setTables_merge (s : State) (x : Tables) : (s.setTables x).merge = s.merge := rfl
@[simp] theorem State.setTables_tracker (s : State) (x : Tables) : (s.setTables x).tracker = s.tracker := rfl
@[simp] theorem State.setTables_engine (s : State) (x : Tables) : (s.setTables x).engine = s.engine := rfl
@[simp] theorem State.setTables_channels (s : State) (x : Tables) : (s.setTables x).channels = s.channels := rfl
@[simp] theorem State.setTables_tables (s : State) (x : Tables) : (s.setTables x).tables = x := rfl
@[simp] theorem State.setTables_sup (s : State) (x : Tables) : (s.setTables x).sup = s.sup := rfl
@[simp] theorem State.setTables_agent (s : State) (x : Tables) : (s.setTables x).agent = s.agent := rfl
@[simp] theorem State.setTables_notices (s : State) (x : Tables) : (s.setTables x).notices = s.notices := rfl
@[simp] theorem State.setTables_port (s : State) (x : Tables) (p : PortId) : (s.setTables x).port p = s.port p := by cases p <;> rfl
@[simp] theorem State.setTables_counter (s : State) (x : Tables) (c : Counter) : (s.setTables x).counter c = s.counter c := rfl
@[simp] theorem State.setTables_channel (s : State) (x : Tables) (v : ValveId) : (s.setTables x).channel v = s.channel v := rfl
@[simp] theorem State.setTables_g (s : State) (x : Tables) : (s.setTables x).g = s.g := rfl

@[simp] theorem State.setSup_pending (s : State) (x : Supervisor) : (s.setSup x).pending = s.pending := rfl
@[simp] theorem State.setSup_nodeId (s : State) (x : Supervisor) : (s.setSup x).nodeId = s.nodeId := rfl
@[simp] theorem State.setSup_counters (s : State) (x : Supervisor) : (s.setSup x).counters = s.counters := rfl
@[simp] theorem State.setSup_pn (s : State) (x : Supervisor) : (s.setSup x).pn = s.pn := rfl
@[simp] theorem State.setSup_ps (s : State) (x : Supervisor) : (s.setSup x).ps = s.ps := rfl
@[simp] theorem State.setSup_fwd (s : State) (x : Supervisor) : (s.setSup x).fwd = s.fwd := rfl
@[simp] theorem State.setSup_pace (s : State) (x : Supervisor) : (s.setSup x).pace = s.pace := rfl
@[simp] theorem State.setSup_merge (s : State) (x : Supervisor) : (s.setSup x).merge = s.merge := rfl
@[simp] theorem State.setSup_tracker (s : State) (x : Supervisor) : (s.setSup x).tracker = s.tracker := rfl
@[simp] theorem State.setSup_engine (s : State) (x : Supervisor) : (s.setSup x).engine = s.engine := rfl
@[simp] theorem State.setSup_channels (s : State) (x : Supervisor) : (s.setSup x).channels = s.channels := rfl
@[simp] theorem State.setSup_tables (s : State) (x : Supervisor) : (s.setSup x).tables = s.tables := rfl
@[simp] theorem State.setSup_sup (s : State) (x : Supervisor) : (s.setSup x).sup = x := rfl
@[simp] theorem State.setSup_agent (s : State) (x : Supervisor) : (s.setSup x).agent = s.agent := rfl
@[simp] theorem State.setSup_notices (s : State) (x : Supervisor) : (s.setSup x).notices = s.notices := rfl
@[simp] theorem State.setSup_port (s : State) (x : Supervisor) (p : PortId) : (s.setSup x).port p = s.port p := by cases p <;> rfl
@[simp] theorem State.setSup_counter (s : State) (x : Supervisor) (c : Counter) : (s.setSup x).counter c = s.counter c := rfl
@[simp] theorem State.setSup_channel (s : State) (x : Supervisor) (v : ValveId) : (s.setSup x).channel v = s.channel v := rfl
@[simp] theorem State.setSup_par (s : State) (x : Supervisor) : (s.setSup x).par = s.par := rfl
@[simp] theorem State.setSup_g (s : State) (x : Supervisor) : (s.setSup x).g = s.g := rfl

@[simp] theorem State.setMerge_pending (s : State) (x : Merge) : (s.setMerge x).pending = s.pending := rfl
@[simp] theorem State.setMerge_nodeId (s : State) (x : Merge) : (s.setMerge x).nodeId = s.nodeId := rfl
@[simp] theorem State.setMerge_counters (s : State) (x : Merge) : (s.setMerge x).counters = s.counters := rfl
@[simp] theorem State.setMerge_pn (s : State) (x : Merge) : (s.setMerge x).pn = s.pn := rfl
@[simp] theorem State.setMerge_ps (s : State) (x : Merge) : (s.setMerge x).ps = s.ps := rfl
@[simp] theorem State.setMerge_fwd (s : State) (x : Merge) : (s.setMerge x).fwd = s.fwd := rfl
@[simp] theorem State.setMerge_pace (s : State) (x : Merge) : (s.setMerge x).pace = s.pace := rfl
@[simp] theorem State.setMerge_merge (s : State) (x : Merge) : (s.setMerge x).merge = x := rfl
@[simp] theorem State.setMerge_tracker (s : State) (x : Merge) : (s.setMerge x).tracker = s.tracker := rfl
@[simp] theorem State.setMerge_engine (s : State) (x : Merge) : (s.setMerge x).engine = s.engine := rfl
@[simp] theorem State.setMerge_channels (s : State) (x : Merge) : (s.setMerge x).channels = s.channels := rfl
@[simp] theorem State.setMerge_tables (s : State) (x : Merge) : (s.setMerge x).tables = s.tables := rfl
@[simp] theorem State.setMerge_sup (s : State) (x : Merge) : (s.setMerge x).sup = s.sup := rfl
@[simp] theorem State.setMerge_agent (s : State) (x : Merge) : (s.setMerge x).agent = s.agent := rfl
@[simp] theorem State.setMerge_notices (s : State) (x : Merge) : (s.setMerge x).notices = s.notices := rfl
@[simp] theorem State.setMerge_port (s : State) (x : Merge) (p : PortId) : (s.setMerge x).port p = s.port p := by cases p <;> rfl
@[simp] theorem State.setMerge_counter (s : State) (x : Merge) (c : Counter) : (s.setMerge x).counter c = s.counter c := rfl
@[simp] theorem State.setMerge_channel (s : State) (x : Merge) (v : ValveId) : (s.setMerge x).channel v = s.channel v := rfl
@[simp] theorem State.setMerge_par (s : State) (x : Merge) : (s.setMerge x).par = s.par := rfl
@[simp] theorem State.setMerge_g (s : State) (x : Merge) : (s.setMerge x).g = s.g := rfl

@[simp] theorem State.setTracker_pending (s : State) (x : Tracker) : (s.setTracker x).pending = s.pending := rfl
@[simp] theorem State.setTracker_nodeId (s : State) (x : Tracker) : (s.setTracker x).nodeId = s.nodeId := rfl
@[simp] theorem State.setTracker_counters (s : State) (x : Tracker) : (s.setTracker x).counters = s.counters := rfl
@[simp] theorem State.setTracker_pn (s : State) (x : Tracker) : (s.setTracker x).pn = s.pn := rfl
@[simp] theorem State.setTracker_ps (s : State) (x : Tracker) : (s.setTracker x).ps = s.ps := rfl
@[simp] theorem State.setTracker_fwd (s : State) (x : Tracker) : (s.setTracker x).fwd = s.fwd := rfl
@[simp] theorem State.setTracker_pace (s : State) (x : Tracker) : (s.setTracker x).pace = s.pace := rfl
@[simp] theorem State.setTracker_merge (s : State) (x : Tracker) : (s.setTracker x).merge = s.merge := rfl
@[simp] theorem State.setTracker_tracker (s : State) (x : Tracker) : (s.setTracker x).tracker = x := rfl
@[simp] theorem State.setTracker_engine (s : State) (x : Tracker) : (s.setTracker x).engine = s.engine := rfl
@[simp] theorem State.setTracker_channels (s : State) (x : Tracker) : (s.setTracker x).channels = s.channels := rfl
@[simp] theorem State.setTracker_tables (s : State) (x : Tracker) : (s.setTracker x).tables = s.tables := rfl
@[simp] theorem State.setTracker_sup (s : State) (x : Tracker) : (s.setTracker x).sup = s.sup := rfl
@[simp] theorem State.setTracker_agent (s : State) (x : Tracker) : (s.setTracker x).agent = s.agent := rfl
@[simp] theorem State.setTracker_notices (s : State) (x : Tracker) : (s.setTracker x).notices = s.notices := rfl
@[simp] theorem State.setTracker_port (s : State) (x : Tracker) (p : PortId) : (s.setTracker x).port p = s.port p := by cases p <;> rfl
@[simp] theorem State.setTracker_counter (s : State) (x : Tracker) (c : Counter) : (s.setTracker x).counter c = s.counter c := rfl
@[simp] theorem State.setTracker_channel (s : State) (x : Tracker) (v : ValveId) : (s.setTracker x).channel v = s.channel v := rfl
@[simp] theorem State.setTracker_par (s : State) (x : Tracker) : (s.setTracker x).par = s.par := rfl

@[simp] theorem State.setEngine_pending (s : State) (x : Engine) : (s.setEngine x).pending = s.pending := rfl
@[simp] theorem State.setEngine_nodeId (s : State) (x : Engine) : (s.setEngine x).nodeId = s.nodeId := rfl
@[simp] theorem State.setEngine_counters (s : State) (x : Engine) : (s.setEngine x).counters = s.counters := rfl
@[simp] theorem State.setEngine_pn (s : State) (x : Engine) : (s.setEngine x).pn = s.pn := rfl
@[simp] theorem State.setEngine_ps (s : State) (x : Engine) : (s.setEngine x).ps = s.ps := rfl
@[simp] theorem State.setEngine_fwd (s : State) (x : Engine) : (s.setEngine x).fwd = s.fwd := rfl
@[simp] theorem State.setEngine_pace (s : State) (x : Engine) : (s.setEngine x).pace = s.pace := rfl
@[simp] theorem State.setEngine_merge (s : State) (x : Engine) : (s.setEngine x).merge = s.merge := rfl
@[simp] theorem State.setEngine_tracker (s : State) (x : Engine) : (s.setEngine x).tracker = s.tracker := rfl
@[simp] theorem State.setEngine_engine (s : State) (x : Engine) : (s.setEngine x).engine = x := rfl
@[simp] theorem State.setEngine_channels (s : State) (x : Engine) : (s.setEngine x).channels = s.channels := rfl
@[simp] theorem State.setEngine_tables (s : State) (x : Engine) : (s.setEngine x).tables = s.tables := rfl
@[simp] theorem State.setEngine_sup (s : State) (x : Engine) : (s.setEngine x).sup = s.sup := rfl
@[simp] theorem State.setEngine_agent (s : State) (x : Engine) : (s.setEngine x).agent = s.agent := rfl
@[simp] theorem State.setEngine_notices (s : State) (x : Engine) : (s.setEngine x).notices = s.notices := rfl
@[simp] theorem State.setEngine_port (s : State) (x : Engine) (p : PortId) : (s.setEngine x).port p = s.port p := by cases p <;> rfl
@[simp] theorem State.setEngine_counter (s : State) (x : Engine) (c : Counter) : (s.setEngine x).counter c = s.counter c := rfl
@[simp] theorem State.setEngine_channel (s : State) (x : Engine) (v : ValveId) : (s.setEngine x).channel v = s.channel v := rfl
@[simp] theorem State.setEngine_par (s : State) (x : Engine) : (s.setEngine x).par = s.par := rfl
@[simp] theorem State.setEngine_g (s : State) (x : Engine) : (s.setEngine x).g = s.g := rfl

@[simp] theorem State.setPace_pending (s : State) (x : Pace) : (s.setPace x).pending = s.pending := rfl
@[simp] theorem State.setPace_nodeId (s : State) (x : Pace) : (s.setPace x).nodeId = s.nodeId := rfl
@[simp] theorem State.setPace_counters (s : State) (x : Pace) : (s.setPace x).counters = s.counters := rfl
@[simp] theorem State.setPace_pn (s : State) (x : Pace) : (s.setPace x).pn = s.pn := rfl
@[simp] theorem State.setPace_ps (s : State) (x : Pace) : (s.setPace x).ps = s.ps := rfl
@[simp] theorem State.setPace_fwd (s : State) (x : Pace) : (s.setPace x).fwd = s.fwd := rfl
@[simp] theorem State.setPace_pace (s : State) (x : Pace) : (s.setPace x).pace = x := rfl
@[simp] theorem State.setPace_merge (s : State) (x : Pace) : (s.setPace x).merge = s.merge := rfl
@[simp] theorem State.setPace_tracker (s : State) (x : Pace) : (s.setPace x).tracker = s.tracker := rfl
@[simp] theorem State.setPace_engine (s : State) (x : Pace) : (s.setPace x).engine = s.engine := rfl
@[simp] theorem State.setPace_channels (s : State) (x : Pace) : (s.setPace x).channels = s.channels := rfl
@[simp] theorem State.setPace_tables (s : State) (x : Pace) : (s.setPace x).tables = s.tables := rfl
@[simp] theorem State.setPace_sup (s : State) (x : Pace) : (s.setPace x).sup = s.sup := rfl
@[simp] theorem State.setPace_agent (s : State) (x : Pace) : (s.setPace x).agent = s.agent := rfl
@[simp] theorem State.setPace_notices (s : State) (x : Pace) : (s.setPace x).notices = s.notices := rfl
@[simp] theorem State.setPace_port (s : State) (x : Pace) (p : PortId) : (s.setPace x).port p = s.port p := by cases p <;> rfl
@[simp] theorem State.setPace_counter (s : State) (x : Pace) (c : Counter) : (s.setPace x).counter c = s.counter c := rfl
@[simp] theorem State.setPace_channel (s : State) (x : Pace) (v : ValveId) : (s.setPace x).channel v = s.channel v := rfl
@[simp] theorem State.setPace_par (s : State) (x : Pace) : (s.setPace x).par = s.par := rfl
@[simp] theorem State.setPace_g (s : State) (x : Pace) : (s.setPace x).g = s.g := rfl

@[simp] theorem State.setAgent_pending (s : State) (x : Agent) : (s.setAgent x).pending = s.pending := rfl
@[simp] theorem State.setAgent_nodeId (s : State) (x : Agent) : (s.setAgent x).nodeId = s.nodeId := rfl
@[simp] theorem State.setAgent_counters (s : State) (x : Agent) : (s.setAgent x).counters = s.counters := rfl
@[simp] theorem State.setAgent_pn (s : State) (x : Agent) : (s.setAgent x).pn = s.pn := rfl
@[simp] theorem State.setAgent_ps (s : State) (x : Agent) : (s.setAgent x).ps = s.ps := rfl
@[simp] theorem State.setAgent_fwd (s : State) (x : Agent) : (s.setAgent x).fwd = s.fwd := rfl
@[simp] theorem State.setAgent_pace (s : State) (x : Agent) : (s.setAgent x).pace = s.pace := rfl
@[simp] theorem State.setAgent_merge (s : State) (x : Agent) : (s.setAgent x).merge = s.merge := rfl
@[simp] theorem State.setAgent_tracker (s : State) (x : Agent) : (s.setAgent x).tracker = s.tracker := rfl
@[simp] theorem State.setAgent_engine (s : State) (x : Agent) : (s.setAgent x).engine = s.engine := rfl
@[simp] theorem State.setAgent_channels (s : State) (x : Agent) : (s.setAgent x).channels = s.channels := rfl
@[simp] theorem State.setAgent_tables (s : State) (x : Agent) : (s.setAgent x).tables = s.tables := rfl
@[simp] theorem State.setAgent_sup (s : State) (x : Agent) : (s.setAgent x).sup = s.sup := rfl
@[simp] theorem State.setAgent_agent (s : State) (x : Agent) : (s.setAgent x).agent = x := rfl
@[simp] theorem State.setAgent_notices (s : State) (x : Agent) : (s.setAgent x).notices = s.notices := rfl
@[simp] theorem State.setAgent_port (s : State) (x : Agent) (p : PortId) : (s.setAgent x).port p = s.port p := by cases p <;> rfl
@[simp] theorem State.setAgent_counter (s : State) (x : Agent) (c : Counter) : (s.setAgent x).counter c = s.counter c := rfl
@[simp] theorem State.setAgent_channel (s : State) (x : Agent) (v : ValveId) : (s.setAgent x).channel v = s.channel v := rfl
@[simp] theorem State.setAgent_par (s : State) (x : Agent) : (s.setAgent x).par = s.par := rfl
@[simp] theorem State.setAgent_g (s : State) (x : Agent) : (s.setAgent x).g = s.g := rfl

@[simp] theorem State.setNotice_pending (s : State) (n : SourceId) (e : NoticeEntry) : (s.setNotice n e).pending = s.pending := rfl
@[simp] theorem State.setNotice_nodeId (s : State) (n : SourceId) (e : NoticeEntry) : (s.setNotice n e).nodeId = s.nodeId := rfl
@[simp] theorem State.setNotice_counters (s : State) (n : SourceId) (e : NoticeEntry) : (s.setNotice n e).counters = s.counters := rfl
@[simp] theorem State.setNotice_pn (s : State) (n : SourceId) (e : NoticeEntry) : (s.setNotice n e).pn = s.pn := rfl
@[simp] theorem State.setNotice_ps (s : State) (n : SourceId) (e : NoticeEntry) : (s.setNotice n e).ps = s.ps := rfl
@[simp] theorem State.setNotice_fwd (s : State) (n : SourceId) (e : NoticeEntry) : (s.setNotice n e).fwd = s.fwd := rfl
@[simp] theorem State.setNotice_pace (s : State) (n : SourceId) (e : NoticeEntry) : (s.setNotice n e).pace = s.pace := rfl
@[simp] theorem State.setNotice_merge (s : State) (n : SourceId) (e : NoticeEntry) : (s.setNotice n e).merge = s.merge := rfl
@[simp] theorem State.setNotice_tracker (s : State) (n : SourceId) (e : NoticeEntry) : (s.setNotice n e).tracker = s.tracker := rfl
@[simp] theorem State.setNotice_engine (s : State) (n : SourceId) (e : NoticeEntry) : (s.setNotice n e).engine = s.engine := rfl
@[simp] theorem State.setNotice_channels (s : State) (n : SourceId) (e : NoticeEntry) : (s.setNotice n e).channels = s.channels := rfl
@[simp] theorem State.setNotice_tables (s : State) (n : SourceId) (e : NoticeEntry) : (s.setNotice n e).tables = s.tables := rfl
@[simp] theorem State.setNotice_sup (s : State) (n : SourceId) (e : NoticeEntry) : (s.setNotice n e).sup = s.sup := rfl
@[simp] theorem State.setNotice_agent (s : State) (n : SourceId) (e : NoticeEntry) : (s.setNotice n e).agent = s.agent := rfl
@[simp] theorem State.setNotice_notices (s : State) (n : SourceId) (e : NoticeEntry) : (s.setNotice n e).notices = s.notices.set n e := rfl
@[simp] theorem State.setNotice_port (s : State) (n : SourceId) (e : NoticeEntry) (p : PortId) : (s.setNotice n e).port p = s.port p := by cases p <;> rfl
@[simp] theorem State.setNotice_counter (s : State) (n : SourceId) (e : NoticeEntry) (c : Counter) : (s.setNotice n e).counter c = s.counter c := rfl
@[simp] theorem State.setNotice_channel (s : State) (n : SourceId) (e : NoticeEntry) (v : ValveId) : (s.setNotice n e).channel v = s.channel v := rfl
@[simp] theorem State.setNotice_par (s : State) (n : SourceId) (e : NoticeEntry) : (s.setNotice n e).par = s.par := rfl
@[simp] theorem State.setNotice_g (s : State) (n : SourceId) (e : NoticeEntry) : (s.setNotice n e).g = s.g := rfl

@[simp] theorem State.setPort_pending (s : State) (p : PortId) (x : Port) : (s.setPort p x).pending = s.pending := by cases p <;> rfl
@[simp] theorem State.modPort_pending (s : State) (p : PortId) (f : Port → Port) : (s.modPort p f).pending = s.pending := by cases p <;> rfl
@[simp] theorem State.setPort_nodeId (s : State) (p : PortId) (x : Port) : (s.setPort p x).nodeId = s.nodeId := by cases p <;> rfl
@[simp] theorem State.modPort_nodeId (s : State) (p : PortId) (f : Port → Port) : (s.modPort p f).nodeId = s.nodeId := by cases p <;> rfl
@[simp] theorem State.setPort_counters (s : State) (p : PortId) (x : Port) : (s.setPort p x).counters = s.counters := by cases p <;> rfl
@[simp] theorem State.modPort_counters (s : State) (p : PortId) (f : Port → Port) : (s.modPort p f).counters = s.counters := by cases p <;> rfl
@[simp] theorem State.setPort_fwd (s : State) (p : PortId) (x : Port) : (s.setPort p x).fwd = s.fwd := by cases p <;> rfl
@[simp] theorem State.modPort_fwd (s : State) (p : PortId) (f : Port → Port) : (s.modPort p f).fwd = s.fwd := by cases p <;> rfl
@[simp] theorem State.setPort_pace (s : State) (p : PortId) (x : Port) : (s.setPort p x).pace = s.pace := by cases p <;> rfl
@[simp] theorem State.modPort_pace (s : State) (p : PortId) (f : Port → Port) : (s.modPort p f).pace = s.pace := by cases p <;> rfl
@[simp] theorem State.setPort_merge (s : State) (p : PortId) (x : Port) : (s.setPort p x).merge = s.merge := by cases p <;> rfl
@[simp] theorem State.modPort_merge (s : State) (p : PortId) (f : Port → Port) : (s.modPort p f).merge = s.merge := by cases p <;> rfl
@[simp] theorem State.setPort_tracker (s : State) (p : PortId) (x : Port) : (s.setPort p x).tracker = s.tracker := by cases p <;> rfl
@[simp] theorem State.modPort_tracker (s : State) (p : PortId) (f : Port → Port) : (s.modPort p f).tracker = s.tracker := by cases p <;> rfl
@[simp] theorem State.setPort_engine (s : State) (p : PortId) (x : Port) : (s.setPort p x).engine = s.engine := by cases p <;> rfl
@[simp] theorem State.modPort_engine (s : State) (p : PortId) (f : Port → Port) : (s.modPort p f).engine = s.engine := by cases p <;> rfl
@[simp] theorem State.setPort_channels (s : State) (p : PortId) (x : Port) : (s.setPort p x).channels = s.channels := by cases p <;> rfl
@[simp] theorem State.modPort_channels (s : State) (p : PortId) (f : Port → Port) : (s.modPort p f).channels = s.channels := by cases p <;> rfl
@[simp] theorem State.setPort_tables (s : State) (p : PortId) (x : Port) : (s.setPort p x).tables = s.tables := by cases p <;> rfl
@[simp] theorem State.modPort_tables (s : State) (p : PortId) (f : Port → Port) : (s.modPort p f).tables = s.tables := by cases p <;> rfl
@[simp] theorem State.setPort_sup (s : State) (p : PortId) (x : Port) : (s.setPort p x).sup = s.sup := by cases p <;> rfl
@[simp] theorem State.modPort_sup (s : State) (p : PortId) (f : Port → Port) : (s.modPort p f).sup = s.sup := by cases p <;> rfl
@[simp] theorem State.setPort_agent (s : State) (p : PortId) (x : Port) : (s.setPort p x).agent = s.agent := by cases p <;> rfl
@[simp] theorem State.modPort_agent (s : State) (p : PortId) (f : Port → Port) : (s.modPort p f).agent = s.agent := by cases p <;> rfl
@[simp] theorem State.setPort_notices (s : State) (p : PortId) (x : Port) : (s.setPort p x).notices = s.notices := by cases p <;> rfl
@[simp] theorem State.modPort_notices (s : State) (p : PortId) (f : Port → Port) : (s.modPort p f).notices = s.notices := by cases p <;> rfl
@[simp] theorem State.setPort_counter (s : State) (p : PortId) (x : Port) (c : Counter) : (s.setPort p x).counter c = s.counter c := by cases p <;> rfl
@[simp] theorem State.modPort_counter (s : State) (p : PortId) (f : Port → Port) (c : Counter) : (s.modPort p f).counter c = s.counter c := by cases p <;> rfl
@[simp] theorem State.setPort_channel (s : State) (p : PortId) (x : Port) (v : ValveId) : (s.setPort p x).channel v = s.channel v := by cases p <;> rfl
@[simp] theorem State.modPort_channel (s : State) (p : PortId) (f : Port → Port) (v : ValveId) : (s.modPort p f).channel v = s.channel v := by cases p <;> rfl
@[simp] theorem State.setPort_par (s : State) (p : PortId) (x : Port) : (s.setPort p x).par = s.par := by cases p <;> rfl
@[simp] theorem State.modPort_par (s : State) (p : PortId) (f : Port → Port) : (s.modPort p f).par = s.par := by cases p <;> rfl
@[simp] theorem State.setPort_gpos (s : State) (p : PortId) (x : Port) : (s.setPort p x).g = s.g := by cases p <;> rfl
@[simp] theorem State.modPort_gpos (s : State) (p : PortId) (f : Port → Port) : (s.modPort p f).g = s.g := by cases p <;> rfl

@[simp] theorem State.setPort_port (s : State) (p : PortId) (x : Port) : (s.setPort p x).port p = x := by cases p <;> rfl
@[simp] theorem State.modPort_port (s : State) (p : PortId) (f : Port → Port) : (s.modPort p f).port p = f (s.port p) := by
  cases p <;> rfl
theorem State.setPort_port_ne (s : State) {p q : PortId} (x : Port) (h : q ≠ p) : (s.setPort p x).port q = s.port q := by
  cases p <;> cases q <;> first | rfl | exact absurd rfl h
theorem State.modPort_port_ne (s : State) {p q : PortId} (f : Port → Port) (h : q ≠ p) :
    (s.modPort p f).port q = s.port q := State.setPort_port_ne s _ h
@[simp] theorem State.setPort_self (s : State) (p : PortId) : s.setPort p (s.port p) = s := by cases p <;> rfl
@[simp] theorem State.setPort_setPort (s : State) (p : PortId) (x y : Port) : (s.setPort p x).setPort p y = s.setPort p y := by
  cases p <;> rfl
@[simp] theorem State.pn_eq (s : State) : s.port .north = s.pn := rfl
@[simp] theorem State.ps_eq (s : State) : s.port .south = s.ps := rfl
@[simp] theorem State.setPort_north (s : State) (x : Port) : s.setPort .north x = { s with pn := x } := rfl
@[simp] theorem State.setPort_south (s : State) (x : Port) : s.setPort .south x = { s with ps := x } := rfl
@[simp] theorem State.channel_setChannel (s : State) (v : ValveId) (c : Channel) : (s.setChannel v c).channel v = c := by
  simp [State.channel, State.setChannel]
theorem State.channel_setChannel_ne (s : State) {v w : ValveId} (c : Channel) (h : w ≠ v) :
    (s.setChannel v c).channel w = s.channel w := by
  have h' : v.val ≠ w.val := fun e => h (Fin.ext e.symm)
  simp [State.channel, State.setChannel, h']

@[simp] theorem bump_pending (c : Counter) (s : State) : (bump c s).pending = s.pending := rfl
@[simp] theorem bumpIf_pending (b : Bool) (c : Counter) (s : State) : (bumpIf b c s).pending = s.pending := by cases b <;> rfl
@[simp] theorem bump_nodeId (c : Counter) (s : State) : (bump c s).nodeId = s.nodeId := rfl
@[simp] theorem bumpIf_nodeId (b : Bool) (c : Counter) (s : State) : (bumpIf b c s).nodeId = s.nodeId := by cases b <;> rfl
@[simp] theorem bump_pn (c : Counter) (s : State) : (bump c s).pn = s.pn := rfl
@[simp] theorem bumpIf_pn (b : Bool) (c : Counter) (s : State) : (bumpIf b c s).pn = s.pn := by cases b <;> rfl
@[simp] theorem bump_ps (c : Counter) (s : State) : (bump c s).ps = s.ps := rfl
@[simp] theorem bumpIf_ps (b : Bool) (c : Counter) (s : State) : (bumpIf b c s).ps = s.ps := by cases b <;> rfl
@[simp] theorem bump_fwd (c : Counter) (s : State) : (bump c s).fwd = s.fwd := rfl
@[simp] theorem bumpIf_fwd (b : Bool) (c : Counter) (s : State) : (bumpIf b c s).fwd = s.fwd := by cases b <;> rfl
@[simp] theorem bump_pace (c : Counter) (s : State) : (bump c s).pace = s.pace := rfl
@[simp] theorem bumpIf_pace (b : Bool) (c : Counter) (s : State) : (bumpIf b c s).pace = s.pace := by cases b <;> rfl
@[simp] theorem bump_merge (c : Counter) (s : State) : (bump c s).merge = s.merge := rfl
@[simp] theorem bumpIf_merge (b : Bool) (c : Counter) (s : State) : (bumpIf b c s).merge = s.merge := by cases b <;> rfl
@[simp] theorem bump_tracker (c : Counter) (s : State) : (bump c s).tracker = s.tracker := rfl
@[simp] theorem bumpIf_tracker (b : Bool) (c : Counter) (s : State) : (bumpIf b c s).tracker = s.tracker := by cases b <;> rfl
@[simp] theorem bump_engine (c : Counter) (s : State) : (bump c s).engine = s.engine := rfl
@[simp] theorem bumpIf_engine (b : Bool) (c : Counter) (s : State) : (bumpIf b c s).engine = s.engine := by cases b <;> rfl
@[simp] theorem bump_channels (c : Counter) (s : State) : (bump c s).channels = s.channels := rfl
@[simp] theorem bumpIf_channels (b : Bool) (c : Counter) (s : State) : (bumpIf b c s).channels = s.channels := by cases b <;> rfl
@[simp] theorem bump_tables (c : Counter) (s : State) : (bump c s).tables = s.tables := rfl
@[simp] theorem bumpIf_tables (b : Bool) (c : Counter) (s : State) : (bumpIf b c s).tables = s.tables := by cases b <;> rfl
@[simp] theorem bump_sup (c : Counter) (s : State) : (bump c s).sup = s.sup := rfl
@[simp] theorem bumpIf_sup (b : Bool) (c : Counter) (s : State) : (bumpIf b c s).sup = s.sup := by cases b <;> rfl
@[simp] theorem bump_agent (c : Counter) (s : State) : (bump c s).agent = s.agent := rfl
@[simp] theorem bumpIf_agent (b : Bool) (c : Counter) (s : State) : (bumpIf b c s).agent = s.agent := by cases b <;> rfl
@[simp] theorem bump_notices (c : Counter) (s : State) : (bump c s).notices = s.notices := rfl
@[simp] theorem bumpIf_notices (b : Bool) (c : Counter) (s : State) : (bumpIf b c s).notices = s.notices := by cases b <;> rfl
@[simp] theorem bump_port (c : Counter) (s : State) (p : PortId) : (bump c s).port p = s.port p := by cases p <;> rfl
@[simp] theorem bumpIf_port (b : Bool) (c : Counter) (s : State) (p : PortId) : (bumpIf b c s).port p = s.port p := by
  cases b <;> cases p <;> rfl
@[simp] theorem bump_channel (c : Counter) (s : State) (v : ValveId) : (bump c s).channel v = s.channel v := rfl
@[simp] theorem bump_par (c : Counter) (s : State) : (bump c s).par = s.par := rfl
@[simp] theorem bump_g (c : Counter) (s : State) : (bump c s).g = s.g := rfl

/-- The word offsets of the counters are all different, but for a counter and itself: what `bump` needs. -/
theorem counter_bump (c d : Counter) (s : State) :
    (bump c s).counter d = if c.offset = d.offset then s.counter d + 1 else s.counter d := by
  unfold bump State.counter
  simp only [Fin.getElem_fin, Vector.getElem_set]
  by_cases h : c.offset = d.offset
  · simp [h]
  · have h' : c.offset.val ≠ d.offset.val := fun e => h (Fin.ext e)
    simp [h, h']

@[simp] theorem counter_bump_self (c : Counter) (s : State) : (bump c s).counter c = s.counter c + 1 := by
  simp [counter_bump]

theorem counter_bump_ne {c d : Counter} (s : State) (h : c.offset ≠ d.offset) : (bump c s).counter d = s.counter d := by
  simp [counter_bump, h]

end Sys2Proof.Machine
end

