-- ==== Sys2Proof/Laws/Counters.lean ====
section
/-! SUPPORT. Every counter has a word of its own in the counters region (R201). -/

namespace Sys2Proof.Machine

/-- The counters of a port by number (R22). -/
def portCounterAt (p : PortId) (n : Nat) : Option Counter :=
  if h : n < 8 then some (.good p ⟨n, h⟩)
  else if h : n - 8 < 5 then some (.error p ⟨n - 8, h⟩)
  else if n < 25 then
    let c : TxClass := if (n - 13) % 4 = 0 then .timed else if (n - 13) % 4 = 1 then .access else if (n - 13) % 4 = 2 then .measure
      else .pass
    some (if n < 17 then .sent p c else if n < 21 then .overflow p c else .notReady p c)
  else if n = 25 then some (.trainingAttempts p) else some (.paceSeen p)

/-- The switch counters of a port by number (R29). -/
def switchCounterAt (p : PortId) (n : Nat) : Option Counter :=
  if n = 0 then some (.consumed p) else if n = 1 then some (.unclaimed p) else if n = 2 then some (.forwarded p)
  else some (.tableDrop p)

/-- The counter at a word of the counters region (R201). -/
def counterAt (n : Nat) : Option Counter :=
  if n < 32 then portCounterAt .north n
  else if n < 64 then portCounterAt .south (n - 32)
  else if n < 68 then switchCounterAt .north (n - 64)
  else if n < 72 then switchCounterAt .south (n - 68)
  else if h : n - 72 < 16 then some (.hit ⟨n - 72, h⟩)
  else if n < 160 then
    (if h : (n - 96) / 8 < 8 ∧ (n - 96) % 8 < 7 then some (.stream ⟨(n - 96) / 8, h.1⟩ ⟨(n - 96) % 8, h.2⟩) else none)
  else if n < 168 then
    [Counter.passesWithE, .passesWithoutE, .saturatedSteps, .incClamps, .passesCompleted, .passesOverrun, .windowsNotFormed,
      .demandSkipped][n - 160]?
  else if n < 177 then
    (if h : (n - 168) / 3 < 3 then some (.branch ⟨(n - 168) / 3, h⟩ ⟨(n - 168) % 3, Nat.mod_lt _ (by decide)⟩) else none)
  else if n < 288 then
    (if h : (n - 192) / 16 < 6 ∧ (n - 192) % 16 < 9 then some (.channel ⟨(n - 192) / 16, h.1⟩ ⟨(n - 192) % 16, h.2⟩) else none)
  else
    [Counter.blockEntries, .trips, .recoveries, .holdingEntries, .requestsServed, .refusedAtArrival, .discardedByReset,
      .noticesQueued, .noticesNotQueued][n - 288]?

/-- Each counter stands at a word of its own. -/
theorem counterAt_offset (c : Counter) : counterAt c.offset = some c := by
  cases c with
  | good p k => cases p <;> revert k <;> decide
  | error p k => cases p <;> revert k <;> decide
  | sent p c => cases p <;> cases c <;> rfl
  | overflow p c => cases p <;> cases c <;> rfl
  | notReady p c => cases p <;> cases c <;> rfl
  | trainingAttempts p => cases p <;> rfl
  | paceSeen p => cases p <;> rfl
  | consumed p => cases p <;> rfl
  | unclaimed p => cases p <;> rfl
  | forwarded p => cases p <;> rfl
  | tableDrop p => cases p <;> rfl
  | hit i => revert i; decide
  | stream s n => revert s n; decide
  | branch b n => revert b n; decide
  | channel v n => revert v n; decide
  | _ => rfl

theorem offset_injective (c d : Counter) (h : c.offset = d.offset) : c = d := by
  have e := counterAt_offset c
  rw [h, counterAt_offset d] at e
  exact (Option.some.inj e).symm

end Sys2Proof.Machine
end

