-- ==== Sys2Proof/Laws/Frames.lean ====
section
/-! SUPPORT. What the shared operations may leave changed: one frame lemma per operation, from counters and notices up to the supervisor's
moves. -/

namespace Sys2Proof.Machine

theorem SupFrame.refl (s : State) : SupFrame s s := ⟨rfl, rfl, rfl, rfl, rfl, rfl, rfl, rfl, fun _ _ => rfl⟩

theorem SupFrame.trans {s t u : State} (a : SupFrame s t) (b : SupFrame t u) : SupFrame s u :=
  ⟨b.pending.trans a.pending, b.nodeId.trans a.nodeId, b.fwd.trans a.fwd, b.merge.trans a.merge, b.engine.trans a.engine,
    b.agent.trans a.agent, b.pn.trans a.pn, b.ps.trans a.ps, fun c h => (b.counts c h).trans (a.counts c h)⟩

theorem GateFrame.refl (s : State) : GateFrame s s := ⟨.refl s, rfl, rfl, rfl, rfl, fun _ _ => rfl⟩

theorem GateFrame.trans {s t u : State} (a : GateFrame s t) (b : GateFrame t u) : GateFrame s u :=
  ⟨a.toSupFrame.trans b.toSupFrame, b.sup.trans a.sup, b.tables.trans a.tables, b.tracker.trans a.tracker,
    b.pace.trans a.pace, fun c h => (b.gates c h).trans (a.gates c h)⟩

theorem QuietFrame.refl (s : State) : QuietFrame s s := ⟨.refl s, rfl, rfl, fun _ _ => rfl⟩

theorem QuietFrame.trans {s t u : State} (a : QuietFrame s t) (b : QuietFrame t u) : QuietFrame s u :=
  ⟨a.toGateFrame.trans b.toGateFrame, b.channels.trans a.channels, b.timed.trans a.timed,
    fun c h => (b.notes c h).trans (a.notes c h)⟩

/-- A counter raised leaves every counter that a test tells apart from it. -/
theorem bump_other (f : Counter → Bool) {c d : Counter} (s : State) (hc : f c = true) (hd : f d = false) :
    (bump c s).counter d = s.counter d :=
  counter_bump_ne s fun e => by
    rw [offset_injective c d e, hd] at hc
    exact Bool.noConfusion hc

theorem Counter.byGates_of_byNotices {c : Counter} (h : c.byNotices = true) : c.byGates = true := by
  cases c <;> first | exact h | exact Bool.noConfusion h

theorem Counter.bySupervisor_of_byGates {c : Counter} (h : c.byGates = true) : c.bySupervisor = true := by
  cases c <;> first | exact h | rfl

theorem bump_frame (c : Counter) (s : State) (hc : c.bySupervisor = true) : SupFrame s (bump c s) :=
  ⟨rfl, rfl, rfl, rfl, rfl, rfl, rfl, rfl, fun _ hd => bump_other Counter.bySupervisor s hc hd⟩

theorem bump_gate (c : Counter) (s : State) (hc : c.byGates = true) : GateFrame s (bump c s) :=
  ⟨bump_frame c s (Counter.bySupervisor_of_byGates hc), rfl, rfl, rfl, rfl,
    fun _ hd => bump_other Counter.byGates s hc hd⟩

theorem bump_quiet (c : Counter) (s : State) (hc : c.byNotices = true) : QuietFrame s (bump c s) :=
  ⟨bump_gate c s (Counter.byGates_of_byNotices hc), rfl, rfl, fun _ hd => bump_other Counter.byNotices s hc hd⟩

theorem setNotice_quiet (n : SourceId) (e : NoticeEntry) (s : State) : QuietFrame s (s.setNotice n e) :=
  ⟨⟨⟨rfl, rfl, rfl, rfl, rfl, rfl, rfl, rfl, fun _ _ => rfl⟩, rfl, rfl, rfl, rfl, fun _ _ => rfl⟩, rfl, rfl, fun _ _ => rfl⟩

theorem setAccess_quiet (p : PortId) (q : List Frame) (s : State) :
    QuietFrame s (s.modPort p (fun x => x.setQueue .access q)) := by
  cases p <;> exact ⟨⟨⟨rfl, rfl, rfl, rfl, rfl, rfl, rfl, rfl, fun _ _ => rfl⟩, rfl, rfl, rfl, rfl, fun _ _ => rfl⟩, rfl, rfl, fun _ _ => rfl⟩

theorem offerQuiet_access_quiet (p : PortId) (f : Frame) (s : State) : QuietFrame s (offerQuiet p .access f s) := by
  unfold offerQuiet
  split
  · cases p <;> exact ⟨⟨⟨rfl, rfl, rfl, rfl, rfl, rfl, rfl, rfl, fun _ _ => rfl⟩, rfl, rfl, rfl, rfl, fun _ _ => rfl⟩, rfl, rfl, fun _ _ => rfl⟩
  · exact bump_quiet _ s rfl
  · exact bump_quiet _ s rfl

theorem sendNotice_quiet (n : SourceId) (k : Nat) (d : Word) (s : State) : QuietFrame s (sendNotice n k d s) := by
  unfold sendNotice
  dsimp only
  split
  · exact ((offerQuiet_access_quiet _ _ s).trans (setNotice_quiet _ _ _)).trans (bump_quiet _ _ rfl)
  · exact ((offerQuiet_access_quiet _ _ s).trans (setNotice_quiet _ _ _)).trans (bump_quiet _ _ rfl)

/-- An event at a notice source changes counters, the notice unit and an ACCESS queue, and nothing else (R204). -/
theorem raise_quiet (n : SourceId) (d : Word) (s : State) : QuietFrame s (raise n d s) := by
  unfold raise
  dsimp only
  split
  · split
    · exact setNotice_quiet _ _ s
    · exact sendNotice_quiet _ _ _ s
  · exact .refl s

theorem raiseIf_quiet (b : Bool) (n : SourceId) (d : Word) (s : State) : QuietFrame s (raiseIf b n d s) := by
  cases b
  · exact .refl s
  · exact raise_quiet n d s

theorem offer_access_quiet (p : PortId) (f : Frame) (s : State) : QuietFrame s (offer p .access f s) := by
  unfold offer
  split
  · exact (offerQuiet_access_quiet _ _ s).trans (raiseIf_quiet _ _ _ _)
  · exact offerQuiet_access_quiet _ _ s

theorem setChannel_gate (v : ValveId) (c : Channel) (s : State) : GateFrame s (s.setChannel v c) :=
  ⟨⟨rfl, rfl, rfl, rfl, rfl, rfl, rfl, rfl, fun _ _ => rfl⟩, rfl, rfl, rfl, rfl, fun _ _ => rfl⟩

theorem setTimed_gate (f : Port → List Frame) (s : State) :
    GateFrame s (s.modPort .south (fun x => { x with timed := f x })) :=
  ⟨⟨rfl, rfl, rfl, rfl, rfl, rfl, rfl, rfl, fun _ _ => rfl⟩, rfl, rfl, rfl, rfl, fun _ _ => rfl⟩

theorem offerQuiet_timed_gate (f : Frame) (s : State) : GateFrame s (offerQuiet .south .timed f s) := by
  unfold offerQuiet
  split
  · exact ⟨⟨rfl, rfl, rfl, rfl, rfl, rfl, rfl, rfl, fun _ _ => rfl⟩, rfl, rfl, rfl, rfl, fun _ _ => rfl⟩
  · exact (bump_quiet _ s rfl).toGateFrame
  · exact (bump_quiet _ s rfl).toGateFrame

theorem offer_timed_gate (f : Frame) (s : State) : GateFrame s (offer .south .timed f s) := by
  unfold offer
  split
  · exact (offerQuiet_timed_gate f s).trans (raiseIf_quiet _ _ _ _).toGateFrame
  · exact offerQuiet_timed_gate f s

theorem countReport_gate (v : ValveId) (r : FireReport) (s : State) : GateFrame s (countReport v r s) := by
  cases r
  · exact bump_gate _ s rfl
  · exact (bump_gate _ s rfl).trans (bump_gate _ _ rfl)
  · exact bump_gate _ s rfl
  · exact bump_gate _ s rfl

theorem reportFire_gate (c : GateCommand) (r : FireReport) (s : State) : GateFrame s (reportFire c r s) := by
  unfold reportFire
  dsimp only
  split
  · exact (setChannel_gate _ _ s).trans (countReport_gate _ _ _)
  · exact (countReport_gate _ _ _)

theorem reportNotSent_gate (c : GateCommand) (s : State) : GateFrame s (reportNotSent c s) := by
  unfold reportNotSent
  split
  · exact reportFire_gate c _ s
  · exact bump_gate _ s rfl

theorem foldl_gate {α : Type} (f : State → α → State) (hf : ∀ s a, GateFrame s (f s a)) (l : List α) (s : State) :
    GateFrame s (l.foldl f s) := by
  induction l generalizing s with
  | nil => exact .refl s
  | cons a l ih => exact (hf s a).trans (ih _)

theorem foldl_quiet {α : Type} (f : State → α → State) (hf : ∀ s a, QuietFrame s (f s a)) (l : List α) (s : State) :
    QuietFrame s (l.foldl f s) := by
  induction l generalizing s with
  | nil => exact .refl s
  | cons a l ih => exact (hf s a).trans (ih _)

theorem reportFrameNotSent_gate (f : Frame) (s : State) : GateFrame s (reportFrameNotSent f s) := by
  cases f with
  | gate cs => exact foldl_gate _ (fun s c => reportNotSent_gate c s) cs s
  | _ => exact .refl s

theorem gateQueueFull_gate (c : GateCommand) (s : State) : GateFrame s (gateQueueFull c s) :=
  ((offer_timed_gate _ s).trans (reportNotSent_gate c _)).trans (raiseIf_quiet _ _ _ _).toGateFrame

/-- A gate command issued (R35, R36): PS's TIMED queue, or the drops, reports and notices of a command not sent. -/
theorem issueGate_gate (c : GateCommand) (s : State) : GateFrame s (issueGate c s) := by
  unfold issueGate
  split
  · exact (offer_timed_gate _ s).trans (reportNotSent_gate c _)
  · split
    · exact setTimed_gate (fun _ => _) s
    · split
      · exact offer_timed_gate _ s
      · exact gateQueueFull_gate c s

theorem issueFire_gate (v : ValveId) (s : State) : GateFrame s (issueFire v s) :=
  (setChannel_gate v _ s).trans (issueGate_gate _ _)

theorem blockChannel_gate (v : ValveId) (s : State) : GateFrame s (blockChannel v s) := by
  unfold blockChannel
  dsimp only
  split
  · exact .refl s
  · exact (issueGate_gate _ s).trans (setChannel_gate v _ _)

theorem deblockChannel_gate (v : ValveId) (s : State) : GateFrame s (deblockChannel v s) := by
  unfold deblockChannel
  dsimp only
  split
  · exact (issueGate_gate _ s).trans (setChannel_gate v _ _)
  · exact .refl s

theorem blockAll_gate (s : State) : GateFrame s (blockAll s) := foldl_gate _ (fun s v => blockChannel_gate v s) _ s

theorem deblockAll_gate (s : State) : GateFrame s (deblockAll s) := foldl_gate _ (fun s v => deblockChannel_gate v s) _ s

theorem purgeQueue_gate (s : State) : GateFrame s (purgeQueue s) := setTimed_gate _ s

theorem purgeAndBlock_gate (s : State) : GateFrame s (purgeAndBlock s) :=
  ((purgeQueue_gate s).trans (blockAll_gate _)).trans (foldl_gate _ (fun s c => reportFire_gate c _ s) _ _)

theorem moveConsequences_gate (old new : OpState) (s : State) : GateFrame s (moveConsequences old new s) := by
  unfold moveConsequences
  split
  · split
    · exact deblockAll_gate s
    · exact .refl s
  · exact .refl s
  · split
    · exact purgeAndBlock_gate s
    · exact blockAll_gate s

theorem setSup_frame (u : Supervisor) (s : State) : SupFrame s (s.setSup u) := ⟨rfl, rfl, rfl, rfl, rfl, rfl, rfl, rfl, fun _ _ => rfl⟩

theorem setTables_frame (t : Tables) (s : State) : SupFrame s (s.setTables t) := ⟨rfl, rfl, rfl, rfl, rfl, rfl, rfl, rfl, fun _ _ => rfl⟩

theorem setTracker_frame (t : Tracker) (s : State) : SupFrame s (s.setTracker t) := ⟨rfl, rfl, rfl, rfl, rfl, rfl, rfl, rfl, fun _ _ => rfl⟩

/-- A move of the operating state (R171, R186, R188): the state it enters, and nothing outside the supervisor, the channels, PS's TIMED
queue, counters and notices. -/
theorem moveTo_gate (new : OpState) (c : Cause) (v : ValveId) (s : State) :
    GateFrame (enterState new s) (moveTo new c v s) :=
  (raise_quiet _ _ _).toGateFrame.trans (moveConsequences_gate _ _ _)

theorem moveTo_frame (new : OpState) (c : Cause) (v : ValveId) (s : State) : SupFrame s (moveTo new c v s) :=
  (setSup_frame _ s).trans (moveTo_gate new c v s).toSupFrame

theorem moveTo_sup (new : OpState) (c : Cause) (v : ValveId) (s : State) : (moveTo new c v s).sup = (enterState new s).sup :=
  (moveTo_gate new c v s).sup

@[simp] theorem enterState_state (new : OpState) (s : State) : (enterState new s).sup.state = new := rfl

@[simp] theorem moveTo_state (new : OpState) (c : Cause) (v : ValveId) (s : State) : (moveTo new c v s).sup.state = new := by
  rw [moveTo_sup]; rfl

theorem setItems_frame (f : Permissives → Permissives) (s : State) : SupFrame s (setItems f s) := setSup_frame _ s

theorem evalOff_frame (s : State) : SupFrame s (evalOff s) := by
  unfold evalOff
  split
  · exact moveTo_frame _ _ _ s
  · exact .refl s

theorem recordResult_frame (id : TableId) (n : CommitState) (r : CommitResult) (k : Nat) (s : State) :
    SupFrame s (recordResult id n r k s) :=
  (setTables_frame _ s).trans (raise_quiet _ _ _).toSupFrame

theorem applyFnChange_frame (s : State) : SupFrame s (applyFnChange s) := by
  have h : SupFrame s { s with pace := s.pace.retime (pFn s.par), tracker := s.tracker.setFree } :=
    ⟨rfl, rfl, rfl, rfl, rfl, rfl, rfl, rfl, fun _ _ => rfl⟩
  unfold applyFnChange
  dsimp only
  split
  · exact h
  · exact ((h.trans (raise_quiet _ _ _).toSupFrame).trans (setItems_frame _ _)).trans (evalOff_frame _)

theorem applyPassPhase_frame (s : State) : SupFrame s (applyPassPhase s) := setTracker_frame _ s

theorem ite_frame {P : State → State → Prop} {s t u : State} (b : Bool) (ht : P s t) (hu : P s u) :
    P s (if b then t else u) := by
  cases b
  · exact hu
  · exact ht

theorem activationEffects_frame (before : ParamRecord) (s : State) : SupFrame s (activationEffects before s) := by
  have h := ite_frame (P := SupFrame) (pFn before == pFn s.par) (.refl s) (applyFnChange_frame s)
  exact ite_frame (P := SupFrame) _ h (h.trans (applyPassPhase_frame _))

theorem activateParams_frame (s : State) : SupFrame s (activateParams s) :=
  ((((setTables_frame _ s).trans (recordResult_frame _ _ _ _ _)).trans (activationEffects_frame _ _)).trans
    (setItems_frame _ _)).trans (evalOff_frame _)

theorem exchangeAngle_frame (s : State) : SupFrame s (exchangeAngle s) :=
  (((setTables_frame _ s).trans (recordResult_frame _ _ _ _ _)).trans (setItems_frame _ _)).trans (evalOff_frame _)

theorem exchangeReference_frame (s : State) : SupFrame s (exchangeReference s) :=
  (setTables_frame _ s).trans (recordResult_frame _ _ _ _ _)

theorem activate_frame (id : TableId) (s : State) : SupFrame s (activate id s) := by
  cases id
  · exact exchangeAngle_frame s
  · exact exchangeReference_frame s
  · exact ite_frame (P := SupFrame) _ (activateParams_frame s) (recordResult_frame _ _ _ _ s)

theorem activateIfPending_frame (id : TableId) (s : State) : SupFrame s (activateIfPending id s) :=
  ite_frame (P := SupFrame) _ (activate_frame id s) (.refl s)

theorem activatePending_frame (s : State) : SupFrame s (activatePending s) :=
  ((activateIfPending_frame _ s).trans (activateIfPending_frame _ _)).trans (activateIfPending_frame _ _)

theorem idleTest_frame (s : State) : SupFrame s (idleTest s) :=
  ite_frame (P := SupFrame) _ (activatePending_frame s) (.refl s)

theorem enterOff_frame (c : Cause) (s : State) : SupFrame s (enterOff c s) :=
  ((moveTo_frame _ _ _ s).trans (idleTest_frame _)).trans (evalOff_frame _)

theorem evaluate_frame (s : State) : SupFrame s (evaluate s) := by
  unfold evaluate
  split
  · exact evalOff_frame s
  · exact ite_frame (P := SupFrame) _ (.refl s) (enterOff_frame _ s)
  · exact .refl s

theorem updateItems_frame (f : Permissives → Permissives) (s : State) : SupFrame s (updateItems f s) :=
  (setItems_frame f s).trans (evaluate_frame _)

theorem latchTrip_frame (c : Cause) (v : ValveId) (s : State) : SupFrame s (latchTrip c v s) := setSup_frame _ s

theorem trip_frame (c : Cause) (v : ValveId) (s : State) : SupFrame s (trip c v s) :=
  (((latchTrip_frame c v s).trans (bump_frame _ _ rfl)).trans (moveTo_frame _ _ _ _)).trans
    (raise_quiet _ _ _).toSupFrame

theorem blockEntry_frame (c : Cause) (v : ValveId) (s : State) : SupFrame s (blockEntry c v s) := by
  have h := (setSup_frame { s.sup with
    history := appendHistory s.sup.history (blockHistoryEntry c v s), holding := 0, ramp := false } s).trans
    (bump_frame .blockEntries _ rfl)
  unfold blockEntry
  dsimp only
  split
  · exact h.trans (trip_frame c v _)
  · exact h.trans ((setSup_frame _ _).trans (moveTo_frame _ _ _ _))

theorem protectiveEvent_frame (c : Cause) (v : ValveId) (s : State) : SupFrame s (protectiveEvent c v s) := by
  unfold protectiveEvent
  split
  · exact blockEntry_frame c v s
  · exact blockEntry_frame c v s
  · exact setSup_frame _ s
  · exact .refl s

theorem trackerChanged_frame (old new : TrackerState) (s : State) : SupFrame s (trackerChanged old new s) :=
  ite_frame (P := SupFrame) _ ((updateItems_frame _ s).trans (protectiveEvent_frame _ _ _)) (updateItems_frame _ s)

theorem psChanged_frame (old new : LinkState) (s : State) : SupFrame s (psChanged old new s) :=
  ite_frame (P := SupFrame) _ ((updateItems_frame _ s).trans (protectiveEvent_frame _ _ _)) (updateItems_frame _ s)

theorem enterHolding_frame (s : State) : SupFrame s (enterHolding s) :=
  ((bump_frame _ s rfl).trans (moveTo_frame _ _ _ _)).trans (setSup_frame _ _)

theorem recover_frame (s : State) : SupFrame s (recover s) := by
  have h := bump_frame .recoveries s rfl
  unfold recover
  dsimp only
  split
  · exact h.trans (moveTo_frame _ _ _ _)
  · split
    · exact h.trans (moveTo_frame _ _ _ _)
    · exact h.trans (enterOff_frame _ _)

theorem countRecovery_frame (s : State) : SupFrame s (countRecovery s) := by
  unfold countRecovery
  dsimp only
  split
  · exact (setSup_frame _ s).trans (recover_frame _)
  · exact setSup_frame _ s

theorem leaveHolding_frame (s : State) : SupFrame s (leaveHolding s) := (setSup_frame _ s).trans (moveTo_frame _ _ _ _)

theorem respondToRecord_frame (f : PassFlags) (s : State) : SupFrame s (respondToRecord f s) := by
  unfold respondToRecord
  split
  · split
    · exact blockEntry_frame _ _ s
    · exact ite_frame (P := SupFrame) _ (enterHolding_frame s) (.refl s)
  · split
    · exact blockEntry_frame _ _ s
    · exact ite_frame (P := SupFrame) _ (setSup_frame _ s) (leaveHolding_frame s)
  · split
    · exact setSup_frame _ s
    · exact countRecovery_frame s
  · exact .refl s

/-- The supervisor takes a record (R175): nothing outside itself, the channels, PS's TIMED queue, the table store, the tracker and the pace
generator of an activation at an entry into OFF, counters and notices. -/
theorem takeRecord_frame (r : PassRecord) (s : State) : SupFrame s (takeRecord r s) :=
  (setSup_frame _ s).trans (respondToRecord_frame _ _)

end Sys2Proof.Machine
end

