-- ==== Sys2Proof/Laws/Link.lean ====
section
/-! SUPPORT. What line events may leave changed: the fields of a port that notices and gate commands leave alone, and one frame lemma per
operation of the port state machine. -/

namespace Sys2Proof.Machine

theorem SupFrame.port {s t : State} (h : SupFrame s t) (p : PortId) :
    { t.port p with access := [], timed := [] } = { s.port p with access := [], timed := [] } := by
  cases p
  · exact congrArg (fun x : Port => { x with timed := [] }) h.pn
  · exact h.ps

theorem SupFrame.link {s t : State} (h : SupFrame s t) (p : PortId) : (t.port p).link = (s.port p).link :=
  (congrArg Port.link (h.port p) :)
theorem SupFrame.signal {s t : State} (h : SupFrame s t) (p : PortId) : (t.port p).signal = (s.port p).signal :=
  (congrArg Port.signal (h.port p) :)
theorem SupFrame.invalidRun {s t : State} (h : SupFrame s t) (p : PortId) : (t.port p).invalidRun = (s.port p).invalidRun :=
  (congrArg Port.invalidRun (h.port p) :)
theorem SupFrame.validRun {s t : State} (h : SupFrame s t) (p : PortId) : (t.port p).validRun = (s.port p).validRun :=
  (congrArg Port.validRun (h.port p) :)
theorem SupFrame.attempts {s t : State} (h : SupFrame s t) (p : PortId) : (t.port p).attempts = (s.port p).attempts :=
  (congrArg Port.attempts (h.port p) :)
theorem SupFrame.seekTimer {s t : State} (h : SupFrame s t) (p : PortId) : (t.port p).seekTimer = (s.port p).seekTimer :=
  (congrArg Port.seekTimer (h.port p) :)
theorem SupFrame.alignTimer {s t : State} (h : SupFrame s t) (p : PortId) : (t.port p).alignTimer = (s.port p).alignTimer :=
  (congrArg Port.alignTimer (h.port p) :)
theorem SupFrame.holdoffTimer {s t : State} (h : SupFrame s t) (p : PortId) : (t.port p).holdoffTimer = (s.port p).holdoffTimer :=
  (congrArg Port.holdoffTimer (h.port p) :)
theorem SupFrame.windowTimer {s t : State} (h : SupFrame s t) (p : PortId) : (t.port p).windowTimer = (s.port p).windowTimer :=
  (congrArg Port.windowTimer (h.port p) :)
theorem SupFrame.windowErrors {s t : State} (h : SupFrame s t) (p : PortId) : (t.port p).windowErrors = (s.port p).windowErrors :=
  (congrArg Port.windowErrors (h.port p) :)
theorem SupFrame.cleanRun {s t : State} (h : SupFrame s t) (p : PortId) : (t.port p).cleanRun = (s.port p).cleanRun :=
  (congrArg Port.cleanRun (h.port p) :)
theorem SupFrame.degraded {s t : State} (h : SupFrame s t) (p : PortId) : (t.port p).degraded = (s.port p).degraded :=
  (congrArg Port.degraded (h.port p) :)
theorem SupFrame.rx {s t : State} (h : SupFrame s t) (p : PortId) : (t.port p).rx = (s.port p).rx :=
  (congrArg Port.rx (h.port p) :)
theorem SupFrame.tx {s t : State} (h : SupFrame s t) (p : PortId) : (t.port p).tx = (s.port p).tx :=
  (congrArg Port.tx (h.port p) :)
theorem SupFrame.trainOwed {s t : State} (h : SupFrame s t) (p : PortId) : (t.port p).trainOwed = (s.port p).trainOwed :=
  (congrArg Port.trainOwed (h.port p) :)
theorem SupFrame.paceRequest {s t : State} (h : SupFrame s t) (p : PortId) : (t.port p).paceRequest = (s.port p).paceRequest :=
  (congrArg Port.paceRequest (h.port p) :)
theorem SupFrame.lastPaceSent {s t : State} (h : SupFrame s t) (p : PortId) : (t.port p).lastPaceSent = (s.port p).lastPaceSent :=
  (congrArg Port.lastPaceSent (h.port p) :)
theorem SupFrame.lineMark {s t : State} (h : SupFrame s t) (p : PortId) : (t.port p).lineMark = (s.port p).lineMark :=
  (congrArg Port.lineMark (h.port p) :)
theorem SupFrame.measure {s t : State} (h : SupFrame s t) (p : PortId) : (t.port p).measure = (s.port p).measure :=
  (congrArg Port.measure (h.port p) :)
theorem SupFrame.pass {s t : State} (h : SupFrame s t) (p : PortId) : (t.port p).pass = (s.port p).pass :=
  (congrArg Port.pass (h.port p) :)
theorem SupFrame.effAccess {s t : State} (h : SupFrame s t) (p : PortId) : (t.port p).effAccess = (s.port p).effAccess :=
  (congrArg Port.effAccess (h.port p) :)
theorem SupFrame.effMeasure {s t : State} (h : SupFrame s t) (p : PortId) : (t.port p).effMeasure = (s.port p).effMeasure :=
  (congrArg Port.effMeasure (h.port p) :)
theorem SupFrame.effPass {s t : State} (h : SupFrame s t) (p : PortId) : (t.port p).effPass = (s.port p).effPass :=
  (congrArg Port.effPass (h.port p) :)
theorem SupFrame.oneWay {s t : State} (h : SupFrame s t) (p : PortId) : (t.port p).oneWay = (s.port p).oneWay :=
  (congrArg Port.oneWay (h.port p) :)
theorem SupFrame.hiErrThreshold {s t : State} (h : SupFrame s t) (p : PortId) : (t.port p).hiErrThreshold = (s.port p).hiErrThreshold :=
  (congrArg Port.hiErrThreshold (h.port p) :)
theorem SupFrame.accessPriority {s t : State} (h : SupFrame s t) (p : PortId) : (t.port p).accessPriority = (s.port p).accessPriority :=
  (congrArg Port.accessPriority (h.port p) :)

/-- Readiness follows the port's state and one-way mode, which no notice and no gate command changes. -/
theorem SupFrame.transmitReady {s t : State} (h : SupFrame s t) (p : PortId) :
    (t.port p).transmitReady = (s.port p).transmitReady := by
  simp only [Port.transmitReady, h.link p, h.oneWay p]

theorem LinkFrame.refl (p : PortId) (s : State) : LinkFrame p s s := by
  refine ⟨?_, fun _ _ _ => rfl, fun _ => ⟨rfl, rfl, rfl, rfl⟩⟩
  cases p <;> exact ⟨rfl, rfl, rfl, rfl, rfl, rfl, rfl, rfl, fun _ _ => rfl⟩

theorem bump_link (p : PortId) (c : Counter) (s : State) (hc : c.bySupervisor = true ∨ c.ofLine p = true) :
    LinkFrame p s (bump c s) := by
  refine ⟨?_, fun d h1 h2 => ?_, fun _ => ⟨rfl, rfl, rfl, rfl⟩⟩
  · cases p <;> exact ⟨rfl, rfl, rfl, rfl, rfl, rfl, rfl, rfl, fun _ _ => rfl⟩
  · refine counter_bump_ne s fun e => ?_
    rw [offset_injective c d e, h1, h2] at hc
    exact hc.elim Bool.noConfusion Bool.noConfusion

theorem bumpIf_link (p : PortId) (b : Bool) (c : Counter) (s : State) (hc : c.bySupervisor = true ∨ c.ofLine p = true) :
    LinkFrame p s (bumpIf b c s) := by
  cases b
  · exact .refl p s
  · exact bump_link p c s hc

theorem LinkFrame.trans {p : PortId} {s t u : State} (a : LinkFrame p s t) (b : LinkFrame p t u) : LinkFrame p s u := by
  refine ⟨?_, fun c h1 h2 => (b.counts c h1 h2).trans (a.counts c h1 h2), fun h => ?_⟩
  · have x := a.frame
    have y := b.frame
    cases p
    · exact ⟨y.pending.trans x.pending, y.nodeId.trans x.nodeId, y.fwd.trans x.fwd, y.merge.trans x.merge,
        y.engine.trans x.engine, y.agent.trans x.agent, rfl, y.ps.trans x.ps, fun _ _ => rfl⟩
    · exact ⟨y.pending.trans x.pending, y.nodeId.trans x.nodeId, y.fwd.trans x.fwd, y.merge.trans x.merge,
        y.engine.trans x.engine, y.agent.trans x.agent, y.pn.trans x.pn, rfl, fun _ _ => rfl⟩
  · obtain ⟨a1, a2, a3, a4⟩ := a.north h
    obtain ⟨b1, b2, b3, b4⟩ := b.north h
    exact ⟨b1.trans a1, b2.trans a2, b3.trans a3, b4.trans a4⟩

theorem SupFrame.toPort {s t : State} (p : PortId) (h : SupFrame s t) :
    SupFrame { s.setPort p (t.port p) with counters := t.counters } t := by
  cases p
  · exact ⟨h.pending, h.nodeId, h.fwd, h.merge, h.engine, h.agent, rfl, h.ps, fun _ _ => rfl⟩
  · exact ⟨h.pending, h.nodeId, h.fwd, h.merge, h.engine, h.agent, h.pn, rfl, fun _ _ => rfl⟩

/-- What the supervisor's moves change is what an event at PS may change. -/
theorem SupFrame.toLink {s t : State} (h : SupFrame s t) : LinkFrame .south s t :=
  ⟨h.toPort .south, fun c h1 _ => h.counts c h1, fun h => PortId.noConfusion h⟩

/-- What gate commands and notices change is what an event at either port may change. -/
theorem GateFrame.toLink {s t : State} (p : PortId) (h : GateFrame s t) : LinkFrame p s t :=
  ⟨h.toSupFrame.toPort p, fun c h1 _ => h.counts c h1, fun _ => ⟨h.sup, h.tables, h.tracker, h.pace⟩⟩

theorem modPort_link (p : PortId) (f : Port → Port) (s : State) : LinkFrame p s (s.modPort p f) := by
  refine ⟨?_, fun c _ _ => by simp, fun _ => by simp⟩
  cases p <;> exact ⟨rfl, rfl, rfl, rfl, rfl, rfl, rfl, rfl, fun _ _ => rfl⟩

theorem foldl_link {α : Type} (p : PortId) (f : State → α → State) (hf : ∀ s a, LinkFrame p s (f s a)) (l : List α)
    (s : State) : LinkFrame p s (l.foldl f s) := by
  induction l generalizing s with
  | nil => exact .refl p s
  | cons a l ih => exact (hf s a).trans (ih _)

theorem countDrops_quiet (p : PortId) (c : TxClass) (q : List Frame) (s : State) : QuietFrame s (countDrops p c q s) :=
  foldl_quiet _ (fun s _ => bump_quiet _ s rfl) q s

/-- A port's flush (R19): its own queues, the drops, and the reports to the channels. -/
theorem flush_link (p : PortId) (s : State) : LinkFrame p s (flush p s) := by
  have h1 := modPort_link p Port.flushed s
  have h2 : GateFrame (s.modPort p Port.flushed)
      (match (s.port p).tx with
        | some t => bump (.notReady p t.cls) (s.modPort p Port.flushed)
        | none => s.modPort p Port.flushed) := by
    split
    · exact (bump_quiet _ _ rfl).toGateFrame
    · exact .refl _
  have h3 (u : State) : GateFrame u (countDrops p .pass (s.port p).pass (countDrops p .measure (s.port p).measure
      (countDrops p .access (s.port p).access (countDrops p .timed (s.port p).timed u)))) :=
    ((((countDrops_quiet p _ _ u).trans (countDrops_quiet p _ _ _)).trans (countDrops_quiet p _ _ _)).trans
      (countDrops_quiet p _ _ _)).toGateFrame
  exact h1.trans (((h2.trans (h3 _)).trans (foldl_gate _ (fun s f => reportFrameNotSent_gate f s) _ _)).toLink p)

theorem flushIfLost_link (b : Bool) (p : PortId) (s : State) : LinkFrame p s (flushIfLost b p s) :=
  ite_frame (P := LinkFrame p) _ (flush_link p s) (.refl p s)

theorem setDegraded_link (p : PortId) (v : Bool) (s : State) : LinkFrame p s (setDegraded p v s) :=
  ite_frame (P := LinkFrame p) _ (.refl p s) ((modPort_link p _ s).trans ((raise_quiet _ _ _).toGateFrame.toLink p))

theorem leaveWorking_link (p : PortId) (s : State) : LinkFrame p s (leaveWorking p s) :=
  (setDegraded_link p false s).trans (modPort_link p _ _)

/-- A change of a port's state (R10, R19 to R21, R172, R176). -/
theorem changeLink_link (p : PortId) (new : LinkState) (s : State) : LinkFrame p s (changeLink p new s) := by
  have h1 := ((modPort_link p (fun x => x.enter new) s).trans
    (flushIfLost_link (s.port p).transmitReady p _)).trans
    ((raiseIf_quiet ((s.port p).link != new) (srcPortState p) (linkDetail (s.port p).link new) _).toGateFrame.toLink p)
  have h2 := ite_frame (P := LinkFrame p) ((s.port p).link.receives && !new.receives) (h1.trans (leaveWorking_link p _)) h1
  unfold changeLink
  dsimp only
  split
  · next h =>
    obtain ⟨rfl, -⟩ : p = .south ∧ _ := by simpa using h
    exact h2.trans (psChanged_frame _ _ _).toLink
  · exact h2

theorem seekFromDown_link (p : PortId) (s : State) : LinkFrame p s (seekFromDown p s) :=
  ((changeLink_link p _ s).trans (modPort_link p _ _)).trans (bump_link p _ _ (.inr (by simp [Counter.ofLine])))

theorem applyR11_link (p : PortId) (s : State) : LinkFrame p s (applyR11 p s) :=
  ite_frame (P := LinkFrame p) _ (seekFromDown_link p s) (.refl p s)

theorem goDown_link (p : PortId) (s : State) : LinkFrame p s (goDown p s) :=
  (changeLink_link p _ s).trans (applyR11_link p _)

theorem failAttempt_link (p : PortId) (s : State) : LinkFrame p s (failAttempt p s) := by
  unfold failAttempt
  dsimp only
  split
  · exact (modPort_link p _ s).trans (changeLink_link p _ _)
  · exact (modPort_link p _ s).trans (goDown_link p _)

theorem seekAgain_link (p : PortId) (s : State) : LinkFrame p s (seekAgain p s) :=
  (changeLink_link p _ s).trans (modPort_link p _ _)

theorem enterUp_link (p : PortId) (s : State) : LinkFrame p s (enterUp p s) :=
  ((modPort_link p _ s).trans (changeLink_link p _ _)).trans (modPort_link p _ _)

theorem countErrored_link (p : PortId) (s : State) : LinkFrame p s (countErrored p s) := by
  unfold countErrored
  dsimp only
  split
  · exact ((modPort_link p _ s).trans (modPort_link p _ _)).trans (setDegraded_link p _ _)
  · exact modPort_link p _ s

theorem windowExpiry_link (p : PortId) (s : State) : LinkFrame p s (windowExpiry p s) := by
  have h := modPort_link p (fun x =>
      { x with cleanRun := if x.windowErrors < x.hiErrThreshold then min 8 (x.cleanRun + 1) else 0 }) s
  exact ite_frame (P := LinkFrame p) _
    ((ite_frame (P := LinkFrame p) _ (h.trans (setDegraded_link p false _)) h).trans (modPort_link p _ _)) (.refl p s)

theorem cutArrival_link (p : PortId) (s : State) : LinkFrame p s (cutArrival p s) := by
  unfold cutArrival
  split
  · exact .refl p s
  · exact ((modPort_link p _ s).trans (bump_link p _ _ (.inr (by simp [Counter.ofLine])))).trans (countErrored_link p _)

theorem receiveSymbols_link (p : PortId) (run : LineRun) (s : State) : LinkFrame p s (receiveSymbols p run s) :=
  (ite_frame (P := LinkFrame p) run.start (cutArrival_link p s) (.refl p s)).trans (modPort_link p _ _)

theorem seekMark_link (p : PortId) (s : State) : LinkFrame p s (seekMark p s) := by
  unfold seekMark
  dsimp only
  split
  · exact (modPort_link p _ s).trans (changeLink_link p _ _)
  · exact modPort_link p _ s

theorem markByState_link (p : PortId) (m : Mark) (s : State) : LinkFrame p s (markByState p m s) := by
  unfold markByState
  split
  · exact seekMark_link p s
  · exact enterUp_link p s
  · exact changeLink_link p _ s
  · exact changeLink_link p _ s
  · exact changeLink_link p _ s
  · exact changeLink_link p _ s
  · exact .refl p s

/-- A valid mark at a port (R4). -/
theorem receiveMark_link (p : PortId) (m : Mark) (s : State) : LinkFrame p s (receiveMark p m s) := by
  have h := modPort_link p (fun x => { x with invalidRun := 0 }) s
  unfold receiveMark
  dsimp only
  split
  · exact (h.trans (bumpIf_link p _ _ _ (.inr (by simp [Counter.ofLine])))).trans (markByState_link p _ _)
  · exact (h.trans (cutArrival_link p _)).trans (markByState_link p _ _)

theorem receiveIllFormed_link (p : PortId) (s1 s2 s3 : LineSymbol) (s : State) :
    LinkFrame p s (receiveIllFormed p s1 s2 s3 s) := (cutArrival_link p s).trans (modPort_link p _ _)

theorem loseAlignment_link (p : PortId) (s : State) : LinkFrame p s (loseAlignment p s) :=
  ite_frame (P := LinkFrame p) _ ((cutArrival_link p s).trans (seekAgain_link p _)) (.refl p s)

theorem receiveInvalid_link (p : PortId) (s : State) : LinkFrame p s (receiveInvalid p s) := by
  have h := (cutArrival_link p s).trans (modPort_link p (fun x =>
    { x with invalidRun := min 16 (x.invalidRun + 1), validRun := if x.link = .seeking then 0 else x.validRun }) _)
  unfold receiveInvalid
  dsimp only
  split
  · exact h.trans (loseAlignment_link p _)
  · exact h

theorem loseSignal_link (p : PortId) (s : State) : LinkFrame p s (loseSignal p s) := by
  have h := (cutArrival_link p s).trans (modPort_link p (fun x => { x with signal := false }) _)
  unfold loseSignal
  dsimp only
  split
  · exact h.trans (failAttempt_link p _)
  · exact h.trans (failAttempt_link p _)
  · exact h.trans (goDown_link p _)
  · exact h.trans (goDown_link p _)
  · exact h

theorem findSignal_link (p : PortId) (s : State) : LinkFrame p s (findSignal p s) :=
  (modPort_link p _ s).trans (applyR11_link p _)

theorem retrainPort_link (p : PortId) (s : State) : LinkFrame p s (retrainPort p s) :=
  (modPort_link p _ s).trans (goDown_link p _)

theorem setOneWay_link (p : PortId) (on : Bool) (s : State) : LinkFrame p s (setOneWay p on s) :=
  (modPort_link p _ s).trans (flushIfLost_link _ p _)

/-- The state of a port after its change, with its timers (R10). -/
theorem flushIfLost_port (b : Bool) (p : PortId) (s : State) :
    (flushIfLost b p s).port p = { (s.port p) with
      timed := ((flushIfLost b p s).port p).timed, access := ((flushIfLost b p s).port p).access,
      measure := ((flushIfLost b p s).port p).measure, pass := ((flushIfLost b p s).port p).pass,
      tx := ((flushIfLost b p s).port p).tx, effAccess := ((flushIfLost b p s).port p).effAccess,
      effMeasure := ((flushIfLost b p s).port p).effMeasure, effPass := ((flushIfLost b p s).port p).effPass } := by
  unfold flushIfLost
  split
  · have h1 := (foldl_gate _ (fun s f => reportFrameNotSent_gate f s) (s.port p).frames
      (countDrops p .pass (s.port p).pass (countDrops p .measure (s.port p).measure (countDrops p .access (s.port p).access
      (countDrops p .timed (s.port p).timed (match (s.port p).tx with
        | some t => bump (.notReady p t.cls) (s.modPort p Port.flushed)
        | none => s.modPort p Port.flushed)))))).toSupFrame
    have h2 (u : State) : SupFrame u (countDrops p .pass (s.port p).pass (countDrops p .measure (s.port p).measure
        (countDrops p .access (s.port p).access (countDrops p .timed (s.port p).timed u)))) :=
      ((((countDrops_quiet p _ _ u).trans (countDrops_quiet p _ _ _)).trans (countDrops_quiet p _ _ _)).trans
        (countDrops_quiet p _ _ _)).toSupFrame
    have h3 : SupFrame (s.modPort p Port.flushed)
        (match (s.port p).tx with
          | some t => bump (.notReady p t.cls) (s.modPort p Port.flushed)
          | none => s.modPort p Port.flushed) := by
      split
      · exact (bump_quiet _ _ rfl).toSupFrame
      · exact .refl _
    have h := ((h3.trans (h2 _)).trans h1).port p
    change (flush p s).port p = _
    change { (flush p s).port p with access := [], timed := [] } = _ at h
    rw [State.modPort_port] at h
    generalize (flush p s).port p = x at h ⊢
    obtain ⟨⟩ := x
    simp only [Port.flushed, Port.mk.injEq] at h ⊢
    simp [h]
  · rfl

@[simp] theorem flushIfLost_signal (b : Bool) (p : PortId) (s : State) : ((flushIfLost b p s).port p).signal = (s.port p).signal := by
  rw [flushIfLost_port]
@[simp] theorem flushIfLost_invalidRun (b : Bool) (p : PortId) (s : State) : ((flushIfLost b p s).port p).invalidRun = (s.port p).invalidRun := by
  rw [flushIfLost_port]
@[simp] theorem flushIfLost_validRun (b : Bool) (p : PortId) (s : State) : ((flushIfLost b p s).port p).validRun = (s.port p).validRun := by
  rw [flushIfLost_port]
@[simp] theorem flushIfLost_attempts (b : Bool) (p : PortId) (s : State) : ((flushIfLost b p s).port p).attempts = (s.port p).attempts := by
  rw [flushIfLost_port]
@[simp] theorem flushIfLost_windowErrors (b : Bool) (p : PortId) (s : State) : ((flushIfLost b p s).port p).windowErrors = (s.port p).windowErrors := by
  rw [flushIfLost_port]
@[simp] theorem flushIfLost_cleanRun (b : Bool) (p : PortId) (s : State) : ((flushIfLost b p s).port p).cleanRun = (s.port p).cleanRun := by
  rw [flushIfLost_port]
@[simp] theorem flushIfLost_lastPaceSent (b : Bool) (p : PortId) (s : State) : ((flushIfLost b p s).port p).lastPaceSent = (s.port p).lastPaceSent := by
  rw [flushIfLost_port]
@[simp] theorem flushIfLost_lineMark (b : Bool) (p : PortId) (s : State) : ((flushIfLost b p s).port p).lineMark = (s.port p).lineMark := by
  rw [flushIfLost_port]
@[simp] theorem flushIfLost_oneWay (b : Bool) (p : PortId) (s : State) : ((flushIfLost b p s).port p).oneWay = (s.port p).oneWay := by
  rw [flushIfLost_port]
@[simp] theorem flushIfLost_hiErrThreshold (b : Bool) (p : PortId) (s : State) : ((flushIfLost b p s).port p).hiErrThreshold = (s.port p).hiErrThreshold := by
  rw [flushIfLost_port]
@[simp] theorem flushIfLost_accessPriority (b : Bool) (p : PortId) (s : State) : ((flushIfLost b p s).port p).accessPriority = (s.port p).accessPriority := by
  rw [flushIfLost_port]
@[simp] theorem flushIfLost_rx (b : Bool) (p : PortId) (s : State) : ((flushIfLost b p s).port p).rx = (s.port p).rx := by
  rw [flushIfLost_port]
@[simp] theorem flushIfLost_paceRequest (b : Bool) (p : PortId) (s : State) : ((flushIfLost b p s).port p).paceRequest = (s.port p).paceRequest := by
  rw [flushIfLost_port]
@[simp] theorem flushIfLost_degraded (b : Bool) (p : PortId) (s : State) : ((flushIfLost b p s).port p).degraded = (s.port p).degraded := by
  rw [flushIfLost_port]
@[simp] theorem flushIfLost_windowTimer (b : Bool) (p : PortId) (s : State) : ((flushIfLost b p s).port p).windowTimer = (s.port p).windowTimer := by
  rw [flushIfLost_port]
@[simp] theorem flushIfLost_linkState (b : Bool) (p : PortId) (s : State) : ((flushIfLost b p s).port p).link = (s.port p).link := by
  rw [flushIfLost_port]
@[simp] theorem flushIfLost_seekTimer (b : Bool) (p : PortId) (s : State) : ((flushIfLost b p s).port p).seekTimer = (s.port p).seekTimer := by
  rw [flushIfLost_port]
@[simp] theorem flushIfLost_alignTimer (b : Bool) (p : PortId) (s : State) : ((flushIfLost b p s).port p).alignTimer = (s.port p).alignTimer := by
  rw [flushIfLost_port]
@[simp] theorem flushIfLost_holdoffTimer (b : Bool) (p : PortId) (s : State) : ((flushIfLost b p s).port p).holdoffTimer = (s.port p).holdoffTimer := by
  rw [flushIfLost_port]
@[simp] theorem flushIfLost_trainOwed (b : Bool) (p : PortId) (s : State) : ((flushIfLost b p s).port p).trainOwed = (s.port p).trainOwed := by
  rw [flushIfLost_port]
@[simp] theorem setDegraded_signal (p : PortId) (v : Bool) (s : State) : ((setDegraded p v s).port p).signal = (s.port p).signal := by
  unfold setDegraded
  split
  · rfl
  · rw [(raise_quiet _ _ _).toSupFrame.signal, State.modPort_port]
@[simp] theorem setDegraded_invalidRun (p : PortId) (v : Bool) (s : State) : ((setDegraded p v s).port p).invalidRun = (s.port p).invalidRun := by
  unfold setDegraded
  split
  · rfl
  · rw [(raise_quiet _ _ _).toSupFrame.invalidRun, State.modPort_port]
@[simp] theorem setDegraded_validRun (p : PortId) (v : Bool) (s : State) : ((setDegraded p v s).port p).validRun = (s.port p).validRun := by
  unfold setDegraded
  split
  · rfl
  · rw [(raise_quiet _ _ _).toSupFrame.validRun, State.modPort_port]
@[simp] theorem setDegraded_attempts (p : PortId) (v : Bool) (s : State) : ((setDegraded p v s).port p).attempts = (s.port p).attempts := by
  unfold setDegraded
  split
  · rfl
  · rw [(raise_quiet _ _ _).toSupFrame.attempts, State.modPort_port]
@[simp] theorem setDegraded_windowErrors (p : PortId) (v : Bool) (s : State) : ((setDegraded p v s).port p).windowErrors = (s.port p).windowErrors := by
  unfold setDegraded
  split
  · rfl
  · rw [(raise_quiet _ _ _).toSupFrame.windowErrors, State.modPort_port]
@[simp] theorem setDegraded_cleanRun (p : PortId) (v : Bool) (s : State) : ((setDegraded p v s).port p).cleanRun = (s.port p).cleanRun := by
  unfold setDegraded
  split
  · rfl
  · rw [(raise_quiet _ _ _).toSupFrame.cleanRun, State.modPort_port]
@[simp] theorem setDegraded_lastPaceSent (p : PortId) (v : Bool) (s : State) : ((setDegraded p v s).port p).lastPaceSent = (s.port p).lastPaceSent := by
  unfold setDegraded
  split
  · rfl
  · rw [(raise_quiet _ _ _).toSupFrame.lastPaceSent, State.modPort_port]
@[simp] theorem setDegraded_lineMark (p : PortId) (v : Bool) (s : State) : ((setDegraded p v s).port p).lineMark = (s.port p).lineMark := by
  unfold setDegraded
  split
  · rfl
  · rw [(raise_quiet _ _ _).toSupFrame.lineMark, State.modPort_port]
@[simp] theorem setDegraded_oneWay (p : PortId) (v : Bool) (s : State) : ((setDegraded p v s).port p).oneWay = (s.port p).oneWay := by
  unfold setDegraded
  split
  · rfl
  · rw [(raise_quiet _ _ _).toSupFrame.oneWay, State.modPort_port]
@[simp] theorem setDegraded_hiErrThreshold (p : PortId) (v : Bool) (s : State) : ((setDegraded p v s).port p).hiErrThreshold = (s.port p).hiErrThreshold := by
  unfold setDegraded
  split
  · rfl
  · rw [(raise_quiet _ _ _).toSupFrame.hiErrThreshold, State.modPort_port]
@[simp] theorem setDegraded_accessPriority (p : PortId) (v : Bool) (s : State) : ((setDegraded p v s).port p).accessPriority = (s.port p).accessPriority := by
  unfold setDegraded
  split
  · rfl
  · rw [(raise_quiet _ _ _).toSupFrame.accessPriority, State.modPort_port]
@[simp] theorem setDegraded_rx (p : PortId) (v : Bool) (s : State) : ((setDegraded p v s).port p).rx = (s.port p).rx := by
  unfold setDegraded
  split
  · rfl
  · rw [(raise_quiet _ _ _).toSupFrame.rx, State.modPort_port]
@[simp] theorem setDegraded_paceRequest (p : PortId) (v : Bool) (s : State) : ((setDegraded p v s).port p).paceRequest = (s.port p).paceRequest := by
  unfold setDegraded
  split
  · rfl
  · rw [(raise_quiet _ _ _).toSupFrame.paceRequest, State.modPort_port]
@[simp] theorem setDegraded_windowTimer (p : PortId) (v : Bool) (s : State) : ((setDegraded p v s).port p).windowTimer = (s.port p).windowTimer := by
  unfold setDegraded
  split
  · rfl
  · rw [(raise_quiet _ _ _).toSupFrame.windowTimer, State.modPort_port]
@[simp] theorem setDegraded_linkState (p : PortId) (v : Bool) (s : State) : ((setDegraded p v s).port p).link = (s.port p).link := by
  unfold setDegraded
  split
  · rfl
  · rw [(raise_quiet _ _ _).toSupFrame.link, State.modPort_port]
@[simp] theorem setDegraded_seekTimer (p : PortId) (v : Bool) (s : State) : ((setDegraded p v s).port p).seekTimer = (s.port p).seekTimer := by
  unfold setDegraded
  split
  · rfl
  · rw [(raise_quiet _ _ _).toSupFrame.seekTimer, State.modPort_port]
@[simp] theorem setDegraded_alignTimer (p : PortId) (v : Bool) (s : State) : ((setDegraded p v s).port p).alignTimer = (s.port p).alignTimer := by
  unfold setDegraded
  split
  · rfl
  · rw [(raise_quiet _ _ _).toSupFrame.alignTimer, State.modPort_port]
@[simp] theorem setDegraded_holdoffTimer (p : PortId) (v : Bool) (s : State) : ((setDegraded p v s).port p).holdoffTimer = (s.port p).holdoffTimer := by
  unfold setDegraded
  split
  · rfl
  · rw [(raise_quiet _ _ _).toSupFrame.holdoffTimer, State.modPort_port]
@[simp] theorem setDegraded_trainOwed (p : PortId) (v : Bool) (s : State) : ((setDegraded p v s).port p).trainOwed = (s.port p).trainOwed := by
  unfold setDegraded
  split
  · rfl
  · rw [(raise_quiet _ _ _).toSupFrame.trainOwed, State.modPort_port]
@[simp] theorem setDegraded_tx (p : PortId) (v : Bool) (s : State) : ((setDegraded p v s).port p).tx = (s.port p).tx := by
  unfold setDegraded
  split
  · rfl
  · rw [(raise_quiet _ _ _).toSupFrame.tx, State.modPort_port]
@[simp] theorem setDegraded_measure (p : PortId) (v : Bool) (s : State) : ((setDegraded p v s).port p).measure = (s.port p).measure := by
  unfold setDegraded
  split
  · rfl
  · rw [(raise_quiet _ _ _).toSupFrame.measure, State.modPort_port]
@[simp] theorem setDegraded_pass (p : PortId) (v : Bool) (s : State) : ((setDegraded p v s).port p).pass = (s.port p).pass := by
  unfold setDegraded
  split
  · rfl
  · rw [(raise_quiet _ _ _).toSupFrame.pass, State.modPort_port]
@[simp] theorem changeLink_signal (p : PortId) (new : LinkState) (s : State) : ((changeLink p new s).port p).signal = (s.port p).signal := by
  unfold changeLink
  dsimp only
  split <;> (try rw [(psChanged_frame _ _ _).signal]) <;> split <;>
    simp [leaveWorking, (raiseIf_quiet _ _ _ _).toSupFrame.signal, Port.enter]
@[simp] theorem changeLink_invalidRun (p : PortId) (new : LinkState) (s : State) : ((changeLink p new s).port p).invalidRun = (s.port p).invalidRun := by
  unfold changeLink
  dsimp only
  split <;> (try rw [(psChanged_frame _ _ _).invalidRun]) <;> split <;>
    simp [leaveWorking, (raiseIf_quiet _ _ _ _).toSupFrame.invalidRun, Port.enter]
@[simp] theorem changeLink_validRun (p : PortId) (new : LinkState) (s : State) : ((changeLink p new s).port p).validRun = (s.port p).validRun := by
  unfold changeLink
  dsimp only
  split <;> (try rw [(psChanged_frame _ _ _).validRun]) <;> split <;>
    simp [leaveWorking, (raiseIf_quiet _ _ _ _).toSupFrame.validRun, Port.enter]
@[simp] theorem changeLink_attempts (p : PortId) (new : LinkState) (s : State) : ((changeLink p new s).port p).attempts = (s.port p).attempts := by
  unfold changeLink
  dsimp only
  split <;> (try rw [(psChanged_frame _ _ _).attempts]) <;> split <;>
    simp [leaveWorking, (raiseIf_quiet _ _ _ _).toSupFrame.attempts, Port.enter]
@[simp] theorem changeLink_windowErrors (p : PortId) (new : LinkState) (s : State) : ((changeLink p new s).port p).windowErrors = (s.port p).windowErrors := by
  unfold changeLink
  dsimp only
  split <;> (try rw [(psChanged_frame _ _ _).windowErrors]) <;> split <;>
    simp [leaveWorking, (raiseIf_quiet _ _ _ _).toSupFrame.windowErrors, Port.enter]
@[simp] theorem changeLink_cleanRun (p : PortId) (new : LinkState) (s : State) : ((changeLink p new s).port p).cleanRun = (s.port p).cleanRun := by
  unfold changeLink
  dsimp only
  split <;> (try rw [(psChanged_frame _ _ _).cleanRun]) <;> split <;>
    simp [leaveWorking, (raiseIf_quiet _ _ _ _).toSupFrame.cleanRun, Port.enter]
@[simp] theorem changeLink_lastPaceSent (p : PortId) (new : LinkState) (s : State) : ((changeLink p new s).port p).lastPaceSent = (s.port p).lastPaceSent := by
  unfold changeLink
  dsimp only
  split <;> (try rw [(psChanged_frame _ _ _).lastPaceSent]) <;> split <;>
    simp [leaveWorking, (raiseIf_quiet _ _ _ _).toSupFrame.lastPaceSent, Port.enter]
@[simp] theorem changeLink_lineMark (p : PortId) (new : LinkState) (s : State) : ((changeLink p new s).port p).lineMark = (s.port p).lineMark := by
  unfold changeLink
  dsimp only
  split <;> (try rw [(psChanged_frame _ _ _).lineMark]) <;> split <;>
    simp [leaveWorking, (raiseIf_quiet _ _ _ _).toSupFrame.lineMark, Port.enter]
@[simp] theorem changeLink_oneWay (p : PortId) (new : LinkState) (s : State) : ((changeLink p new s).port p).oneWay = (s.port p).oneWay := by
  unfold changeLink
  dsimp only
  split <;> (try rw [(psChanged_frame _ _ _).oneWay]) <;> split <;>
    simp [leaveWorking, (raiseIf_quiet _ _ _ _).toSupFrame.oneWay, Port.enter]
@[simp] theorem changeLink_hiErrThreshold (p : PortId) (new : LinkState) (s : State) : ((changeLink p new s).port p).hiErrThreshold = (s.port p).hiErrThreshold := by
  unfold changeLink
  dsimp only
  split <;> (try rw [(psChanged_frame _ _ _).hiErrThreshold]) <;> split <;>
    simp [leaveWorking, (raiseIf_quiet _ _ _ _).toSupFrame.hiErrThreshold, Port.enter]
@[simp] theorem changeLink_accessPriority (p : PortId) (new : LinkState) (s : State) : ((changeLink p new s).port p).accessPriority = (s.port p).accessPriority := by
  unfold changeLink
  dsimp only
  split <;> (try rw [(psChanged_frame _ _ _).accessPriority]) <;> split <;>
    simp [leaveWorking, (raiseIf_quiet _ _ _ _).toSupFrame.accessPriority, Port.enter]
@[simp] theorem changeLink_linkState (p : PortId) (new : LinkState) (s : State) : ((changeLink p new s).port p).link = new := by
  unfold changeLink
  dsimp only
  split <;> (try rw [(psChanged_frame _ _ _).link]) <;> split <;>
    simp [leaveWorking, (raiseIf_quiet _ _ _ _).toSupFrame.link, Port.enter]
@[simp] theorem changeLink_trainOwed (p : PortId) (new : LinkState) (s : State) : ((changeLink p new s).port p).trainOwed = false := by
  unfold changeLink
  dsimp only
  split <;> (try rw [(psChanged_frame _ _ _).trainOwed]) <;> split <;>
    simp [leaveWorking, (raiseIf_quiet _ _ _ _).toSupFrame.trainOwed, Port.enter]
@[simp] theorem changeLink_seekTimer (p : PortId) (new : LinkState) (s : State) : ((changeLink p new s).port p).seekTimer = if new = .seeking then some seekClocks else none := by
  unfold changeLink
  dsimp only
  split <;> (try rw [(psChanged_frame _ _ _).seekTimer]) <;> split <;>
    simp [leaveWorking, (raiseIf_quiet _ _ _ _).toSupFrame.seekTimer, Port.enter]
@[simp] theorem changeLink_alignTimer (p : PortId) (new : LinkState) (s : State) : ((changeLink p new s).port p).alignTimer = if new = .aligned then some alignClocks else none := by
  unfold changeLink
  dsimp only
  split <;> (try rw [(psChanged_frame _ _ _).alignTimer]) <;> split <;>
    simp [leaveWorking, (raiseIf_quiet _ _ _ _).toSupFrame.alignTimer, Port.enter]
@[simp] theorem changeLink_holdoffTimer (p : PortId) (new : LinkState) (s : State) : ((changeLink p new s).port p).holdoffTimer = if new = .holdoff then some holdoffClocks else none := by
  unfold changeLink
  dsimp only
  split <;> (try rw [(psChanged_frame _ _ _).holdoffTimer]) <;> split <;>
    simp [leaveWorking, (raiseIf_quiet _ _ _ _).toSupFrame.holdoffTimer, Port.enter]
theorem changeLink_rx (p : PortId) (new : LinkState) (s : State) : ((changeLink p new s).port p).rx =
    if (s.port p).link.receives && !new.receives then none else (s.port p).rx := by
  unfold changeLink
  dsimp only
  split <;> (try rw [(psChanged_frame _ _ _).rx]) <;> split <;>
    simp [leaveWorking, (raiseIf_quiet _ _ _ _).toSupFrame.rx, Port.enter, *]
theorem changeLink_paceRequest (p : PortId) (new : LinkState) (s : State) : ((changeLink p new s).port p).paceRequest =
    if (s.port p).link.receives && !new.receives then none else (s.port p).paceRequest := by
  unfold changeLink
  dsimp only
  split <;> (try rw [(psChanged_frame _ _ _).paceRequest]) <;> split <;>
    simp [leaveWorking, (raiseIf_quiet _ _ _ _).toSupFrame.paceRequest, Port.enter, *]
theorem changeLink_windowTimer (p : PortId) (new : LinkState) (s : State) : ((changeLink p new s).port p).windowTimer =
    if (s.port p).link.receives && !new.receives then none else (s.port p).windowTimer := by
  unfold changeLink
  dsimp only
  split <;> (try rw [(psChanged_frame _ _ _).windowTimer]) <;> split <;>
    simp [leaveWorking, (raiseIf_quiet _ _ _ _).toSupFrame.windowTimer, Port.enter, *]

end Sys2Proof.Machine
end

