-- ==== Sys2Proof/Laws/Access.lean ====
section
/-! SUPPORT. What the access agent leaves when it answers a request: the reply, the count, and nothing else beside the effect. -/

namespace Sys2Proof.Machine

@[simp] theorem setNotice_port (n : SourceId) (e : NoticeEntry) (s : State) (p : PortId) : (s.setNotice n e).port p = s.port p := by
  cases p <;> rfl

@[simp] theorem dequeue_port (r : Request) (s : State) (p : PortId) : (dequeue r s).port p = s.port p := by
  unfold dequeue State.setAgent; split <;> cases p <;> rfl

@[simp] theorem dequeue_counter (r : Request) (s : State) (c : Counter) : (dequeue r s).counter c = s.counter c := by
  unfold dequeue State.setAgent; split <;> rfl

/-- Answering removes the request where it stands at the head, and touches the agent only (R194). -/
theorem dequeue_agent (r : Request) (s : State) :
    dequeue r s = { s with agent := { s.agent with
      queue := if s.agent.queue.head? = some r then s.agent.queue.tail else s.agent.queue } } := by
  unfold dequeue State.setAgent; split <;> rfl

/-- An offer to a full ACCESS queue leaves that queue as it is, the notice of the drop included (R31, R204). -/
theorem raise_full (n : SourceId) (d : Word) (s : State) (p : PortId) (h : offerOutcome p .access s = .full) :
    ((raise n d s).port p).access = (s.port p).access := by
  have hq (f : Frame) (q : PortId) : ((offerQuiet q .access f s).port p).access = (s.port p).access := by
    unfold offerQuiet
    split
    · next hp =>
      by_cases e : p = q
      · subst e; rw [h] at hp; cases hp
      · rw [State.modPort_port_ne s _ e]
    · simp
    · simp
  unfold raise sendNotice
  dsimp only
  split
  · split
    · simp
    · split <;> simp [hq]
  · rfl

/-- A reply is placed, lost to a full queue, or lost at a port that is not transmit-ready (R198, R31). -/
theorem sendReply_given (r : Request) (st : Status) (d : List Word) (s : State) : ReplyGiven r st d s (sendReply r st d s) := by
  unfold ReplyGiven sendReply offer
  by_cases hr : (s.port r.port).transmitReady = true
  · by_cases hl : (s.port r.port).access.length < 8
    · have ho : offerOutcome r.port .access s = .placed := by
        simp [offerOutcome, hr, Port.queue, capacity, hl]
      simp [hr, hl, ho, offerQuiet, Port.setQueue, Port.queue]
    · have ho : offerOutcome r.port .access s = .full := by
        simp [offerOutcome, hr, Port.queue, capacity, hl]
      have h2 : offerOutcome r.port .access (offerQuiet r.port .access (.reply r.source r.tag st d) s) = .full := by
        simp [offerQuiet, offerOutcome, hr, Port.queue, capacity, hl]
      simp only [hr, hl, ho, if_true, if_false]
      rw [show raiseIf (!(Frame.reply r.source r.tag st d).isNotice) = raise from rfl, raise_full _ _ _ _ h2]
      simp [offerQuiet, ho]
  · have ho : offerOutcome r.port .access s = .notReady := by simp [offerOutcome, hr]
    simp [hr, ho, offerQuiet]

theorem ReplyGiven.congr {r : Request} {st : Status} {d : List Word} {s s' t t' : State} (h : ReplyGiven r st d s t)
    (hs : ∀ p, s'.port p = s.port p) (ht : ∀ p, t'.port p = t.port p)
    (hc : s'.counter (.notReady r.port .access) = s.counter (.notReady r.port .access))
    (hd : t'.counter (.notReady r.port .access) = t.counter (.notReady r.port .access)) : ReplyGiven r st d s' t' := by
  unfold ReplyGiven at *
  rw [hs, ht, hc, hd]
  exact h

/-- The end of a request with a reply (R194, R198): what is left is the effect's state, the count, the shorter queue, and the reply. -/
theorem reply_served (r : Request) (st : Status) (d : List Word) (u : State) :
    Served r st d u (dequeue r (sendReply r st d (bump .requestsServed u))) := by
  have hq : QuietFrame (bump .requestsServed u) (sendReply r st d (bump .requestsServed u)) := offer_access_quiet _ _ _
  have ha : (sendReply r st d (bump .requestsServed u)).agent = u.agent := hq.agent
  refine ⟨?_, ?_, ?_⟩
  · rw [dequeue_agent]
    exact ⟨⟨⟨hq.pending, hq.nodeId, hq.fwd, hq.merge, hq.engine, rfl, hq.pn, hq.ps, hq.counts⟩, hq.sup, hq.tables, hq.tracker, hq.pace,
      hq.gates⟩, hq.channels, hq.timed, hq.notes⟩
  · unfold Dequeued
    rw [dequeue_agent, ha]
  · refine (sendReply_given r st d (bump .requestsServed u)).congr (by simp) (by simp) ?_ (by simp)
    refine (counter_bump_ne u ?_).symm
    cases r.port <;> decide

/-- An event raised leaves what `Raised` spells out (R204). -/
theorem raise_raised (n : SourceId) (d : Word) (s : State) : Raised n d s (raise n d s) := by
  rintro e rfl
  unfold raise sendNotice offerQuiet offerOutcome
  refine ⟨fun h => if_neg (by rw [h]; decide), fun h p => (if_pos h).trans (if_pos p), fun h p => ⟨fun r c => ?_, fun r c => ?_, fun r => ?_⟩⟩
  · have c' : ((s.port (s.notices[n]).route).queue .access).length < capacity .access := c
    simp only [h, p, r, c', if_true, Bool.false_eq_true, if_false]
    rfl
  · have c' : ¬((s.port (s.notices[n]).route).queue .access).length < capacity .access := Nat.not_lt.2 c
    simp only [h, p, r, c', if_true, Bool.false_eq_true, if_false]
  · simp only [h, p, r, if_true, Bool.false_eq_true, if_false]

/-- An offer to a full queue counts the overflow drop, and raises QUEUE_DROP but for a NOTICE frame (R31). -/
theorem offer_full_raised (p : PortId) (c : TxClass) (f : Frame) (s : State) (h : offerOutcome p c s = .full) :
    RaisedIf (!f.isNotice) srcQueueDrop (bytes4 (portCode p) (classCode c) f.kind.toNat 0) (bump (.overflow p c) s) (offer p c f s) := by
  unfold offer offerQuiet
  rw [h]
  dsimp only
  unfold RaisedIf raiseIf
  split
  · exact raise_raised _ _ _
  · rfl

/-- Raising an event neither reads nor changes the access agent (R204). -/
theorem raise_agent (n : SourceId) (d : Word) (s : State) (a : Agent) :
    raise n d { s with agent := a } = { raise n d s with agent := a } := by
  have hp : ∀ p : PortId, State.port { s with agent := a } p = s.port p := fun p => by cases p <;> rfl
  have hq (p : PortId) (f : Frame) : offerQuiet p .access f { s with agent := a } = { offerQuiet p .access f s with agent := a } := by
    unfold offerQuiet offerOutcome
    rw [hp]
    split
    · cases p <;> rfl
    · rfl
    · rfl
  unfold raise sendNotice
  have ho (p : PortId) : offerOutcome p .access { s with agent := a } = offerOutcome p .access s := by
    unfold offerOutcome; rw [hp]
  dsimp only
  split
  · split
    · rfl
    · rw [ho, hq]
      split <;> rfl
  · rfl

/-- The detail of ACCESS_ERROR (R197) as one number. -/
theorem accessErrorDetail_eq (r : Request) (st : Status) : accessErrorDetail r st
    = BitVec.ofNat 32 (r.tag.toNat * 65536 + r.operation.toNat * 256 + statusCode st) := by
  have ht := r.tag.isLt
  have ho := r.operation.isLt
  have hs : statusCode st < 2 ^ 8 := by cases st <;> decide
  unfold accessErrorDetail field
  rw [Nat.mod_eq_of_lt ht, Nat.mod_eq_of_lt ho, Nat.mod_eq_of_lt hs, Nat.pow_zero, Nat.mul_one]
  rfl

/-- The end of a posted request (R197): no reply, and ACCESS_ERROR where the status is not OK. -/
theorem posted_served (r : Request) (st : Status) (u : State) :
    Posted r st u (dequeue r (raiseIf (st != .ok) srcAccessError (accessErrorDetail r st) (bump .requestsServed u))) := by
  have hq : QuietFrame (bump .requestsServed u)
      (raiseIf (st != .ok) srcAccessError (accessErrorDetail r st) (bump .requestsServed u)) := raiseIf_quiet _ _ _ _
  have ha := hq.agent
  refine ⟨?_, ?_, ?_, ?_⟩
  · rw [dequeue_agent]
    exact ⟨⟨⟨hq.pending, hq.nodeId, hq.fwd, hq.merge, hq.engine, rfl, hq.pn, hq.ps, hq.counts⟩, hq.sup, hq.tables, hq.tracker, hq.pace,
      hq.gates⟩, hq.channels, hq.timed, hq.notes⟩
  · unfold Dequeued
    rw [dequeue_agent, ha]
    rfl
  · rintro rfl
    rw [dequeue_agent]
    exact ⟨rfl, rfl, rfl⟩
  · rw [dequeue_agent, ← accessErrorDetail_eq]
    by_cases hs : st = .ok
    · subst hs; rfl
    · simp only [raiseIf, bne_iff_ne, ne_eq, hs, not_false_eq_true, if_true, RaisedIf, decide_true]
      rw [← raise_agent]
      exact raise_raised _ _ _

/-- A command is served with the status and the state of its effect (R194, R202). -/
theorem serveCommand_served (r : Request) (effect : State → Status × State) (s : State) :
    Served r (effect s).1 [] (effect s).2 (serveCommand r effect s) := reply_served r _ _ _

/-- A write is answered with the status and the state of its outcome (R194, R195, R197). -/
theorem serveAccess_answered (r : Request) (s : State) (h : (accessOutcome r s).data = []) :
    Answered r (isPosted r s) (accessOutcome r s).status (accessOutcome r s).state (serveAccess r s) := by
  unfold serveAccess answer Answered
  dsimp only
  split
  · exact posted_served r _ _
  · rw [h]; exact reply_served r _ _ _

/-- A write request reads no words (R198). -/
theorem accessOutcome_write (r : Request) (s : State) (h : r.isWrite = true) : (accessOutcome r s).data = [] := by
  unfold accessOutcome
  split
  · rfl
  · simp [h]

end Sys2Proof.Machine
end

