-- ==== Sys2Proof/Laws/Marks.lean ====
section
/-! SUPPORT. The marks a port sends (R2, R11 to R16): what sending one leaves of the port, and that a sent mark is received as itself. -/

namespace Sys2Proof.Machine

@[simp] theorem Port.sendMark_lineMark (p : Port) : p.sendMark.lineMark = some p.nextMark := rfl
@[simp] theorem Port.sendMark_trainOwed (p : Port) : p.sendMark.trainOwed = false := rfl
@[simp] theorem Port.sendMark_link (p : Port) : p.sendMark.link = p.link := rfl

/-- Sending its mark changes the port in the mark and in the TRAIN mark still due, and nowhere else (R2, R14). -/
theorem Port.sendMark_eq (p : Port) : p.sendMark = { p with lineMark := some p.nextMark, trainOwed := false } := rfl

/-- What goes before another symbol in UP: the TRAIN mark, where it is still to be sent (R14). -/
theorem Port.sendOwed_eq (p : Port) :
    p.sendOwed = { p with lineMark := if p.trainOwed then some (.train true) else p.lineMark, trainOwed := false } := by
  unfold Port.sendOwed
  split
  · rfl
  · next h => simp only [Bool.not_eq_true] at h; cases p; simp_all

@[simp] theorem Port.sendOwed_trainOwed (p : Port) : p.sendOwed.trainOwed = false := by rw [Port.sendOwed_eq]
@[simp] theorem Port.sendOwed_link (p : Port) : p.sendOwed.link = p.link := by rw [Port.sendOwed_eq]

/-- A port with a frame in transmission sends no mark of its own (R2). -/
theorem Port.sendsMarks_busy (p : Port) (h : p.tx ≠ none) : p.sendsMarks = p := by
  unfold Port.sendsMarks
  split
  · next e => exact absurd (Option.isNone_iff_eq_none.mp e) h
  · rfl

/-- A port without a frame in transmission sends the mark of its state (R2). -/
theorem Port.sendsMarks_free (p : Port) (h : p.tx = none) : p.sendsMarks = p.sendMark := by
  unfold Port.sendsMarks
  rw [h]; rfl

/-- Outside the entry into UP the mark follows the state alone (R11 to R16). -/
theorem Port.nextMark_up (p : Port) (h : p.link = .up) : p.nextMark = if p.trainOwed then .train true else .idle := by
  unfold Port.nextMark; rw [h]

end Sys2Proof.Machine

namespace Sys2Proof

/-- The three symbols after MK of a sent mark are received as that mark (R2, Table 1). -/
theorem Mark.ofSymbols_symbols (m : Mark) :
    Mark.ofSymbols (.data m.typeArg.1) (.data m.typeArg.2) (.data (~~~m.typeArg.2)) = some m := by
  cases m with
  | idle => decide
  | pace tag => simp [Mark.ofSymbols, LineSymbol.byte?, Mark.typeArg, Mark.ofBytes]
  | train r => cases r <;> decide
  | noReceive => decide

end Sys2Proof
end

