-- ==== Sys2Proof/Tests/Slice0.lean ====
section
/-! SUPPORT. The model's own tests: ill-formed operands refused, the spec's worked examples, one small step of each family, and, for the
statements with hypotheses, states that meet them (the theorems whose names begin with test_meets). -/

namespace Sys2Proof.Tests

set_option Elab.async false

open Sys2Proof.Machine

/-- The state an outcome answers; the reset state for any other outcome. -/
def after (o : Host.Outcome State Fault Refusal) : State :=
  match o with
  | .next t => t
  | _ => State.reset

/-- A port in UP that sees signal. -/
def upPort : Port := { portPowerOn true with link := .up, windowTimer := some 25000 }

/-- The reset state with both ports in UP. -/
def upState : State := { State.reset with pn := upPort, ps := upPort }

/-- A supervisor in a given state, every permissive but TRACKER and VOLTAGE met. -/
def supIn (o : OpState) : Supervisor :=
  { supervisorPowerOn with
    state := o,
    items := { angle := true, parameters := true, tracker := true, voltage := true, feeders := true, link := true,
               notTripped := decide (o ≠ .tripped) } }

/-- Both ports in UP and every channel in IDLE, in a given operating state. -/
def supState (o : OpState) : State :=
  { upState with sup := supIn o, channels := Vector.replicate 6 { channelPowerOn 0 with state := .idle } }

/-- A command request with an argument, from node 2 at PN. -/
def req (argument : Word) : CommandRequest := { count := 1, tag := 7, argument := argument, source := 2, port := .north }

/-- A write of words at an address, from node 2 at PN. -/
def wreq (address : Word) (data : List Word) : WriteRequest :=
  { posted := false, count := BitVec.ofNat 8 data.length, tag := 7, address := address, data := data, source := 2, port := .north }

/-- A FIRE command. -/
def fireCmd (v : ValveId) (position latest : Pos) (pulse : Nat) (style : Style) : GateCommand :=
  { valve := v, code := .fire, pulse := pulse, position := position, latest := latest, style := style, sustainEnd := 0,
    late := false }

/-! Ill-formed operands (WellFormed.lean), and the host's decoding. -/

theorem test_wellformed_refuses_valid_mark :
    (Instr.illFormedMarkReceived .north LineRun.none (.data 0x2D) (.data 0x05) (.data 0xFA)).wellFormed = false := by decide
theorem test_wellformed_refuses_short_write :
    ∀ k ∈ [Instr.portConfigurationWrite, Instr.forwardingTableWrite, Instr.streamTableWrite, Instr.accessWindowWrite,
      Instr.noticeVectorWrite, Instr.counterClear, Instr.standbyOrStagedWrite, Instr.readOnlyRegionWrite],
    (k { wreq 0x4000 [1] with count := 2 }).wellFormed = false ∧ (k (wreq 0x4000 [1])).wellFormed = true := by decide
theorem test_wellformed_refuses_order :
    (Instr.passCompletion [.tracker, .tracker, .delivery, .supervisor]).wellFormed = false
      ∧ (Instr.passCompletion [.supervisor, .delivery]).wellFormed = false
      ∧ (Instr.passCompletion [.supervisor, .delivery, .tracker, .notices]).wellFormed = true := by decide
theorem test_table_spells_no_command : decodeTableWord 32 0x12345678 = none := rfl

/-! Marks (R2, Table 1): the words of each valid mark, and three ill-formed ones. -/

theorem test_marks :
    Mark.ofSymbols (.data 0x1E) (.data 0x00) (.data 0xFF) = some .idle
      ∧ Mark.ofSymbols (.data 0x2D) (.data 0xA5) (.data 0x5A) = some (.pace 0xA5)
      ∧ Mark.ofSymbols (.data 0x3C) (.data 0x01) (.data 0xFE) = some (.train true)
      ∧ Mark.ofSymbols (.data 0x3C) (.data 0x00) (.data 0xFF) = some (.train false)
      ∧ Mark.ofSymbols (.data 0x4B) (.data 0x00) (.data 0xFF) = some .noReceive
      ∧ Mark.ofSymbols (.data 0x3C) (.data 0x02) (.data 0xFD) = none
      ∧ Mark.ofSymbols (.data 0x2D) (.data 0xA5) (.data 0x5B) = none
      ∧ Mark.ofSymbols (.data 0x1E) .invalid (.data 0xFF) = none := by decide

/-! The numbers of the spec's worked examples. -/

/-- The check value of the digits 1 to 9 for the CRC of R162 (08_table_banks_and_parameter_staging.md). -/
theorem test_crc16 : crc16 [0x31, 0x32, 0x33, 0x34, 0x35, 0x36, 0x37, 0x38, 0x39] = 0x29B1#16 := by decide +kernel
/-- 05_the_compensation_pass_measurement.md, Example: one resampled value. -/
theorem test_resample : fraction 1000300 1000000 1000512 = 150 ∧ resample 1000 1400 150 = 1234 := by decide +kernel
/-- 05_the_compensation_pass_measurement.md, Example: a balanced bus. -/
theorem test_balanced_bus :
    positiveSeq ⟨20000, 0⟩ ⟨-10000, -17321⟩ ⟨-10000, 17321⟩ = ⟨20000, 0⟩
      ∧ negativeSeq ⟨20000, 0⟩ ⟨-10000, -17321⟩ ⟨-10000, 17321⟩ = ⟨0, 0⟩ ∧ magnitude ⟨20000, 0⟩ = 20000 := by decide +kernel
/-- 05_the_compensation_pass_measurement.md, Example: an angle error and the rotated currents. -/
theorem test_angle_error :
    magnitude ⟨19990, 600⟩ = 19999 ∧ errorOf ⟨19990, 600⟩ 19999 = 313
      ∧ rotated ⟨4000, -9000⟩ ⟨19990, 600⟩ 19999 = ⟨3728, -9116⟩ := by decide +kernel

/-! The link (01_the_station_link.md). -/

/-- A port in SEEKING with three valid marks counted, its timer running, at the seventh attempt. -/
def seekPort : Port := { portPowerOn true with link := .seeking, seekTimer := some 9, validRun := 3, attempts := 7 }

theorem test_meets_signal_present :
    State.reset.pn.link = .down ∧ (after (execSignalPresent .north State.reset)).pn.link = .seeking
      ∧ upState.pn.link ≠ .down ∧ (after (execSignalPresent .north upState)).pn.link = .up := by decide +kernel
theorem test_eighth_attempt_holds_off :
    (after (execLossOfSignal .north LineRun.none { State.reset with pn := seekPort })).pn.link = .holdoff
      ∧ (after (execLossOfSignal .north LineRun.none { State.reset with pn := { seekPort with attempts := 6 } })).pn.link = .down := by
  decide +kernel
theorem test_meets_alignment :
    upState.ps.link = .up ∧ (after (execLossOfAlignment .south LineRun.none upState)).ps.link = .seeking
      ∧ State.reset.ps.link = .down ∧ (after (execLossOfAlignment .south LineRun.none State.reset)).ps.link = .down := by
  decide +kernel
theorem test_meets_marks :
    seekPort.link ≠ .aligned ∧ (after (execValidMarkReceived .north LineRun.none .idle { State.reset with pn := seekPort })).pn.link = .aligned
      ∧ (after (execValidMarkReceived .south LineRun.none (.train true)
          { State.reset with ps := { seekPort with link := .aligned } })).ps.link = .up := by decide +kernel
theorem test_meets_marks_in_frames :
    (∀ tag : Byte, Mark.idle ≠ .pace tag) ∧ Mark.ofSymbols (.data 0x1E) (.data 0x01) (.data 0xFE) = none
      ∧ seekPort.link = .seeking
      ∧ (after (execIllFormedMarkReceived .north LineRun.none (.data 0x1E) (.data 0x01) (.data 0xFE)
          { State.reset with pn := seekPort })).pn.validRun = 0 := by
  refine ⟨fun _ => by simp, ?_⟩
  decide +kernel
theorem test_meets_invalid_symbols :
    (after (execInvalidSymbolReceived .north LineRun.none { upState with pn := { upPort with invalidRun := 15 } })).pn.link = .seeking
      ∧ (after (execInvalidSymbolReceived .north LineRun.none { upState with pn := { upPort with invalidRun := 15 } })).pn.invalidRun = 16
      ∧ (after (execInvalidSymbolReceived .north LineRun.none { upState with pn := { upPort with invalidRun := 14 } })).pn.link = .up
      ∧ (after (execInvalidSymbolReceived .north LineRun.none { upState with pn := { upPort with invalidRun := 14 } })).pn.invalidRun = 15
      ∧ (after (execInvalidSymbolReceived .north LineRun.none { upState with pn := seekPort })).pn.link = .seeking := by decide +kernel

/-- A run of symbols: SF, then the bytes. -/
def sf (bytes : List Byte) : LineRun := { start := true, data := bytes }
/-- What a port of `upState` has in reception after SF and the bytes. -/
def received (bytes : List Byte) : RxFrame := { bytes := bytes, count := bytes.length }

theorem test_meets_cut_frames :
    (receiveSymbols .north LineRun.none upState).pn.rx = none
      ∧ (receiveSymbols .north (sf [0xA7]) upState).pn.rx = some (received [0xA7])
      ∧ (receiveSymbols .north (sf []) upState).pn.rx = some (received [])
      ∧ (after (execFrameArrival .north (sf [0xA7]) (.cut true) upState)).counter (.error .north 1) = 1
      ∧ (after (execFrameArrival .north (sf [0xA6]) (.cut false) upState)).counter (.error .north 0) = 1 := by decide +kernel
theorem test_meets_failed_checks :
    (receiveSymbols .south (sf [0xA7, 0x23, 7, 9, 0, 6]) upState).ps.rx = some (received [0xA7, 0x23, 7, 9, 0, 6])
      ∧ receiveChecks (received [0xA7, 0x23, 7, 9, 0, 6]) = some 2
      ∧ (after (execFrameArrival .south (sf [0xA7, 0x23, 7, 9, 0, 6]) .complete upState)).counter (.error .south 2) = 1 := by
  decide +kernel

/-- A port in UP whose window has met its threshold but for one frame, with every timer and queue in use. -/
def busyPort : Port :=
  { upPort with windowErrors := 7, cleanRun := 7, degraded := true, measure := [.timemark, .forwarded []],
                pass := [.forwarded [1]], tx := some { cls := .pass, frame := .forwarded [2], bytes := [2] } }

theorem test_meets_flush :
    busyPort.transmitReady = true
      ∧ (after (execLossOfSignal .south LineRun.none { upState with ps := busyPort })).counter (.notReady .south .pass) = 2
      ∧ (after (execLossOfSignal .south LineRun.none { upState with ps := busyPort })).counter (.notReady .south .measure) = 2 := by
  decide +kernel
theorem test_meets_training_timers :
    seekPort.seekTimer.isSome = true ∧ (after (execSeekTimerExpiry .north { State.reset with pn := seekPort })).pn.link = .holdoff
      ∧ (after (execAlignTimerExpiry .north
          { State.reset with pn := { portPowerOn true with link := .aligned, alignTimer := some 0 } })).pn.link = .seeking
      ∧ (after (execHoldoffTimerExpiry .north
          { State.reset with pn := { portPowerOn false with link := .holdoff, attempts := 8, holdoffTimer := some 0 } })).pn.link = .down
      ∧ upPort.seekTimer = none ∧ upPort.alignTimer = none ∧ upPort.holdoffTimer = none := by decide +kernel
theorem test_meets_window :
    busyPort.windowTimer.isSome = true ∧ State.reset.pn.windowTimer = none
      ∧ (after (execMonitoringWindowExpiry .north { upState with pn := busyPort })).pn.degraded = false
      ∧ (after (execMonitoringWindowExpiry .north { upState with pn := { busyPort with windowErrors := 8 } })).pn.degraded = true := by
  decide +kernel

/-! The frame switch (02_frame_switching_and_transmit_scheduling.md). -/

/-- A READ of one word at 0, from node 2 to node 0. -/
def readFrame : List Byte := buildFrame 0x31 0 2 [1, 1, 0, 7, 0, 0, 0, 0]
/-- A WRITE_POSTED of one word. -/
def postedFrame : List Byte := buildFrame 0x31 0 2 [3, 1, 0, 7, 0, 0, 0, 0, 0, 0, 0, 1]
/-- Requests that fill the queue. -/
def fullQueue : List Request := List.replicate 4 (requestOf (payloadOf readFrame) 2 .north)
/-- A state in UP with four requests waiting. -/
def fullState : State := { upState with agent := { upState.agent with queue := fullQueue } }

theorem test_meets_request_arrival :
    upState.pn.link = .up ∧ (receiveSymbols .north (sf readFrame) upState).pn.rx = some (received readFrame)
      ∧ receiveChecks (received readFrame) = none ∧ byteAt readFrame 1 = 0x31 ∧ destOf readFrame = upState.nodeId
      ∧ upState.agent.queue.length < 4
      ∧ (after (execFrameArrival .north (sf readFrame) .complete upState)).agent.queue = [requestOf (payloadOf readFrame) 2 .north] := by
  decide +kernel
theorem test_meets_refused_arrival :
    4 ≤ fullState.agent.queue.length ∧ (receiveSymbols .north (sf readFrame) fullState).pn.rx = some (received readFrame)
      ∧ (requestOf (payloadOf readFrame) 2 .north).operation ≠ 3
      ∧ (after (execFrameArrival .north (sf readFrame) .complete fullState)).pn.access = [.reply 2 7 .busy []]
      ∧ (receiveSymbols .north (sf postedFrame) fullState).pn.rx = some (received postedFrame)
      ∧ receiveChecks (received postedFrame) = none ∧ (requestOf (payloadOf postedFrame) 2 .north).operation = 3
      ∧ fullState.notices[21].enable = false := by decide +kernel

/-- A state in UP with one forwarding entry, for kind 0x60 from any port. -/
def tableState (a : FwdAction) (kind : Byte) : State :=
  { upState with fwd := upState.fwd.set 3 {
      fwdPowerOn with enable := true, arrival := .either, action := a, kind := kind, destMode := .any, sourceAny := true } }
/-- A frame of kind 0x60 to node 9, and one to node 0. -/
def otherFrame : List Byte := buildFrame 0x60 9 2 [1, 2]
/-- The same kind for this node. -/
def ownFrame : List Byte := buildFrame 0x60 0 2 []

theorem test_meets_forwarding :
    receiveChecks (received otherFrame) = none
      ∧ (receiveSymbols .south (sf otherFrame) (tableState .forward 0x60)).ps.rx = some (received otherFrame)
      ∧ (receiveSymbols .south (sf otherFrame) (tableState .drop 0x60)).ps.rx = some (received otherFrame)
      ∧ matchingEntry .south otherFrame (tableState .forward 0x60) = some 3
      ∧ matchingEntry .south otherFrame (tableState .drop 0x60) = some 3 ∧ matchingEntry .south otherFrame upState = none
      ∧ destOf otherFrame ≠ upState.nodeId
      ∧ (after (execFrameArrival .south (sf otherFrame) .complete (tableState .forward 0x60))).pn.measure = [.forwarded otherFrame]
      ∧ (after (execFrameArrival .south (sf otherFrame) .complete upState)).pn.pass = [.forwarded otherFrame] := by decide +kernel
theorem test_meets_unclaimed :
    receiveChecks (received ownFrame) = none ∧ (receiveSymbols .north (sf ownFrame) upState).pn.rx = some (received ownFrame)
      ∧ matchingEntry .north ownFrame upState = none ∧ destOf ownFrame = upState.nodeId ∧ byteAt ownFrame 1 ≠ 0x11
      ∧ byteAt ownFrame 1 ≠ 0x23
      ∧ (after (execFrameArrival .north (sf ownFrame) .complete upState)).counter (.unclaimed .north) = 1 := by decide +kernel

/-- A MEASURE frame of one set of three channels with tag 1, from node 5. -/
def measureFrame : List Byte := buildFrame 0x11 0 5 [1, 1, 3, 0, 0, 0, 0, 100, 0, 200, 0xFF, 0x9C]
/-- A VALVE_REPORT of a conduction of valve v. -/
def reportFrame (v : Byte) : List Byte := buildFrame 0x23 0 5 [v, 1, 0, 0, 0, 0]
/-- A stream of node 5 enabled as entry 2, and row 1 open. -/
def streamState : State :=
  { upState with
    pace := { upState.pace with count := 1 },
    merge := { upState.merge with
      table := upState.merge.table.set 2
        { streamPowerOn with enable := true, source := 5, mapB := { index := 1, invert := false },
                             mapC := { index := 2, invert := true } },
      rows := [{ index := 1, position := 0, slots := Vector.replicate 8 none }] } }

theorem test_meets_measure :
    receiveChecks (received measureFrame) = none
      ∧ (receiveSymbols .north (sf measureFrame) streamState).pn.rx = some (received measureFrame)
      ∧ matchingEntry .north measureFrame streamState = none ∧ destOf measureFrame = streamState.nodeId
      ∧ byteAt measureFrame 1 = 0x11 ∧ (streamState.merge.table[2]).enable = true
      ∧ (streamState.merge.table[2]).source = sourceOf measureFrame
      ∧ (∀ j : StreamId, j < 2 → (streamState.merge.table[j]).enable = false)
      ∧ (after (execFrameArrival .north (sf measureFrame) .complete streamState)).merge.rows.map (fun r => r.slots[2])
        = [some { values := ⟨100, 200, 100⟩, overrange := false }] := by decide +kernel
theorem test_meets_no_stream :
    (receiveSymbols .north (sf measureFrame) upState).pn.rx = some (received measureFrame)
      ∧ (∀ i : StreamId, (upState.merge.table[i]).enable = false)
      ∧ (receiveSymbols .south (sf measureFrame) (tableState .consume 0x11)).ps.rx = some (received measureFrame)
      ∧ matchingEntry .south measureFrame (tableState .consume 0x11) = some 3
      ∧ (after (execFrameArrival .south (sf measureFrame) .complete (tableState .consume 0x11))).counter (.unclaimed .south) = 1 := by
  decide +kernel
theorem test_meets_reports :
    receiveChecks (received (reportFrame 5)) = none ∧ receiveChecks (received (reportFrame 6)) = none
      ∧ (receiveSymbols .south (sf (reportFrame 5)) upState).ps.rx = some (received (reportFrame 5))
      ∧ (receiveSymbols .south (sf (reportFrame 6)) upState).ps.rx = some (received (reportFrame 6))
      ∧ (receiveSymbols .north (sf (reportFrame 5)) upState).pn.rx = some (received (reportFrame 5))
      ∧ matchingEntry .south (reportFrame 5) upState = none ∧ destOf (reportFrame 5) = upState.nodeId
      ∧ byteAt (reportFrame 5) 1 = 0x23 ∧ (byteAt (payloadOf (reportFrame 5)) 0).toNat = 5
      ∧ 6 ≤ (byteAt (payloadOf (reportFrame 6)) 0).toNat
      ∧ (after (execFrameArrival .south (sf (reportFrame 5)) .complete upState)).counter (.channel 5 7) = 1
      ∧ (after (execFrameArrival .south (sf (reportFrame 6)) .complete upState)).counter (.unclaimed .south) = 1 := by decide +kernel

/-! The merge unit (03_pacing_and_stream_merging.md). -/

/-- 03_pacing_and_stream_merging.md, Worked example: index extension: P = 5127, last closed row 5124, the rows 5125 to 5127 open. -/
def indexState : State :=
  { streamState with
    pace := { streamState.pace with count := 5127 },
    merge := { streamState.merge with
      lastClosed := 5124,
      rows := [{ index := 5125, position := 0, slots := Vector.replicate 8 none },
               { index := 5126, position := 512, slots := (Vector.replicate 8 none).set 2 (some { values := Phases.zero, overrange := false }) },
               { index := 5127, position := 1024, slots := Vector.replicate 8 none }] } }
/-- A set of a tag and quality. -/
def setOf (tag : Byte) (quality : Half) : MeasuredSet := { tag := tag, quality := quality, channels := [1, 2, 3] }

theorem test_index_extension :
    ([0x07, 0x05, 0xF8, 0x18, 0x17, 0x10].map fun tag : Byte =>
        let t := placeSet 2 indexState (setOf tag 0)
        [t.counter (.stream 2 0), t.counter (.stream 2 1), t.counter (.stream 2 2)])
      = [[1, 0, 0], [1, 0, 0], [0, 1, 0], [0, 1, 0], [0, 0, 1], [0, 0, 1]] := by decide +kernel
theorem test_meets_dispositions :
    pFutureGuard indexState.par = 16 ∧ setAge 5127 0x17 = 240 ∧ setAge 5127 0x18 = 239 ∧ setAge 5127 0x04 = 3 ∧ setAge 5127 0x05 = 2
      ∧ diff (5127 - 3) 5124 = 0 ∧ diff (5127 - 2) 5124 = 1
      ∧ [(setOf 0x05 1), (setOf 0x05 4)].map (fun x => (placeSet 2 indexState x).merge.rows == indexState.merge.rows) = [true, true]
      ∧ (placeSet 2 { indexState with merge := { indexState.merge with rows := [] } } (setOf 0x05 0)).counter (.stream 2 0) = 0
      ∧ (placeSet 2 indexState (setOf 0x06 0)).counter (.stream 2 3) = 1
      ∧ (indexState.merge.rows.find? (fun r => r.index == 5126)).map (fun r => (r.slots[2]).isSome) = some true
      ∧ (indexState.merge.rows.find? (fun r => r.index == 5127)).map (fun r => r.slots[2]) = some none
      ∧ indexState.merge.rows.head?.map (fun h => (h.index, indexState.merge.rowComplete h)) = some (5125, false)
      ∧ (placeSet 2 indexState (setOf 0x07 0)).merge.rows.length = 3 := by decide +kernel

theorem test_meets_pace_event :
    indexState.merge.rows.head?.map (fun r => diff (5127 + 1) r.index) = some 3 ∧ pMergeDelay indexState.par = 4
      ∧ (after (execPaceEvent indexState)).merge.rows.length = 4 ∧ (after (execPaceEvent indexState)).pn.paceRequest = some 8
      ∧ State.reset.merge.rows = [] ∧ 0 < pMergeDelay State.reset.par ∧ State.reset.pn.paceRequest = none
      ∧ (after (execPaceEvent State.reset)).tracker.g48 = 0x0000_0200_0000#48
      ∧ (after (execPaceMarkSent { upState with pn := { upPort with paceRequest := some 3 } })).pn.lastPaceSent = some 3 := by
  decide +kernel
theorem test_meets_row_close :
    indexState.merge.rows = { index := 5125, position := 0, slots := Vector.replicate 8 none } :: indexState.merge.rows.tail
      ∧ (closeRow { index := 5125, position := 0, slots := Vector.replicate 8 none } indexState).merge.lastClosed = 5125 := by
  decide +kernel

/-! Transmission (02_frame_switching_and_transmit_scheduling.md). -/

/-- 02_frame_switching_and_transmit_scheduling.md, Worked example: six transmit opportunities. -/
def queuedPort : Port :=
  { upPort with timed := [.timemark], measure := [.forwarded [1], .forwarded [2], .forwarded [3]],
                pass := [.forwarded [4], .forwarded [5]] }
/-- Start and end of one frame at PS, after a frame joined ACCESS or MEASURE. -/
def opportunityAfter (access measure : List Frame) (s : State) : State :=
  after (execTransmitEnd .south (after (execTransmitStart .south
    { s with ps := { s.ps with access := s.ps.access ++ access, measure := s.ps.measure ++ measure } })))
/-- The queue lengths and effective priorities of PS. -/
def shape (s : State) : List Nat :=
  [s.ps.timed.length, s.ps.access.length, s.ps.measure.length, s.ps.pass.length, s.ps.effAccess, s.ps.effMeasure, s.ps.effPass]

theorem test_six_opportunities :
    let s1 := opportunityAfter [] [] { upState with ps := queuedPort }
    let s2 := opportunityAfter [] [] s1
    let s3 := opportunityAfter [.reply 2 7 .ok []] [] s2
    let s4 := opportunityAfter [] [] s3
    let s5 := opportunityAfter [] [] s4
    let s6 := opportunityAfter [.notice 2 0 0 0 .off 0] [.forwarded [6]] s5
    [s1, s2, s3, s4, s5, s6].map shape
      = [[0, 0, 3, 2, 2, 4, 6], [0, 0, 2, 2, 2, 4, 5], [0, 0, 2, 2, 2, 3, 4], [0, 0, 1, 2, 2, 4, 3], [0, 0, 1, 1, 2, 3, 6],
         [0, 0, 2, 1, 2, 2, 5]] := by decide +kernel

theorem test_meets_aged_choice :
    let x : Port := { queuedPort with timed := [] }
    x.transmitReady = true ∧ x.tx = none ∧ x.queue .measure = .forwarded [1] :: [.forwarded [2], .forwarded [3]]
      ∧ x.eff .measure < x.eff .pass ∧ x.queue .access = []
      ∧ queuedPort.timed = [.timemark] ∧ upPort.queue .pass = [] ∧ State.reset.pn.transmitReady = false ∧ busyPort.tx ≠ none := by
  decide +kernel

/-- 02_frame_switching_and_transmit_scheduling.md, Worked example: a GATE frame at transmit start. -/
def gateState : State :=
  { supState .running with
    tracker := { trackerPowerOn with g48 := (posOf 16 65000).append 0#16 },
    ps := { upPort with timed := [.gate [fireCmd 0 (posOf 16 65191) (posOf 17 10595) 4096 .pulse,
      fireCmd 5 (posOf 17 9077) (posOf 17 21517) 4096 .pulse, fireCmd 3 (posOf 16 65068) (posOf 16 65208) 4096 .pulse]] } }

theorem test_gate_example :
    (after (execTransmitStart .south gateState)).ps.tx.map (fun x => (x.frame.fires.map (fun c => (c.valve, c.position, c.late)), x.bytes.length))
      = some ([(0, posOf 16 65256, true), (5, posOf 17 9077, false)], 28)
      ∧ (after (execTransmitStart .south gateState)).counter (.channel 3 2) = 1 := by decide +kernel

/-- The same with one command. -/
def oneFire (c : GateCommand) : State := { gateState with ps := { upPort with timed := [.gate [c]] } }

theorem test_meets_late_check :
    pLateMargin gateState.par 0 = 256 ∧ gateState.sup.state = .running ∧ gateState.notices[14].enable = false
      ∧ diff (posOf 16 65256) gateState.g = 256
      ∧ diff (posOf 16 65191) gateState.g = 191 ∧ ¬(0 < diff (gateState.g + 256) (posOf 17 10595))
      ∧ 0 < diff (gateState.g + 256) (posOf 16 65208)
      ∧ (after (execTransmitStart .south (oneFire (fireCmd 0 (posOf 16 65191) (posOf 17 10595) 11268 .sustain)))).ps.tx.map
          (fun x => x.frame.fires.map (fun c => c.pulse)) = some [11203]
      ∧ (after (execTransmitStart .south (oneFire (fireCmd 3 (posOf 16 65068) (posOf 16 65208) 4096 .pulse)))).ps.tx = none := by
  decide +kernel
theorem test_meets_no_fire :
    (supState .blocked).sup.state ≠ .running ∧ (supState .blocked).sup.state ≠ .holding
      ∧ (after (execTransmitStart .south
          { supState .blocked with ps := { upPort with timed := [.gate [fireCmd 0 9999 9999 4096 .pulse, plainCommand 0 .block]] } })).ps.tx.map
          (fun x => x.frame.fires) = some [] := by decide +kernel
theorem test_meets_transmit_end :
    upPort.tx = none ∧ (TxFrame.mk .timed .timemark []).frame.fires = []
      ∧ (TxFrame.mk .timed (.gate [fireCmd 0 5 6 7 .pulse]) []).frame.fires = [fireCmd 0 5 6 7 .pulse]
      ∧ ((after (execTransmitEnd .south
          { supState .running with
            channels := Vector.replicate 6 { channelPowerOn 0 with state := .issued, latest := 6 },
            ps := { upPort with tx := some (TxFrame.mk .timed (.gate [fireCmd 0 5 6 7 .pulse]) []) } })).channel 0).state = .await := by
  decide +kernel

/-! Firing channels (07_valve_firing_channels.md). -/

/-- `supState` with one channel given, at G 0. -/
def channelState (v : ValveId) (c : Channel) : State := (supState .running).setChannel v c
/-- A channel with next load point 1:43691, fire position 500. -/
def ch (st : ChannelState) : Channel :=
  { channelPowerOn 0 with state := st, alpha := 21500, nextLoadPoint := posOf 0 43691, alphaOff := 32440, lead := 2048, fire := 500,
                          issue := posOf 0 700, latest := 900, pulse := 4096 }

theorem test_meets_load_points :
    pMissLimit (supState .running).par 0 = 3 ∧ (ch .issued).misses = 0
      ∧ [ChannelState.blocked, .idle, .suppressed, .issued, .await].map
          (fun st => ((after (execLoadPointReached 0 (channelState 0 (ch st)))).channel 0).state)
        = [.blocked, .armed, .armed, .armed, .armed]
      ∧ [ChannelState.idle, .await].map
          (fun st => ((after (execLoadPointReached 0 (channelState 0 { ch st with alpha := 32440 }))).channel 0).state)
        = [.suppressed, .suppressed]
      ∧ ((after (execLoadPointReached 0 (channelState 0 (ch .await)))).channel 0).misses = 1
      ∧ ((after (execLoadPointReached 0 (channelState 0 (ch .idle)))).channel 0).fire = posOf 0 65191
      ∧ ((after (execLoadPointReached 0 (channelState 0 (ch .idle)))).channel 0).issue = posOf 0 63143 := by decide +kernel
theorem test_meets_issue :
    (ch .idle).state ≠ .armed ∧ upPort.transmitReady = true ∧ upPort.timed = []
      ∧ ((after (execIssuePositionReached 0 (channelState 0 (ch .armed)))).channel 0).state = .issued
      ∧ (after (execIssuePositionReached 0 { channelState 0 (ch .armed) with
          ps := { upPort with timed := [] ++ [.gate (List.replicate 5 (plainCommand 1 .block))] } })).ps.timed.length = 1
      ∧ (after (execIssuePositionReached 0 { channelState 0 (ch .armed) with ps := portPowerOn true })).counter (.channel 0 3) = 1 := by
  decide +kernel
theorem test_meets_delivery :
    [(Buffering.double, ChannelState.armed, 20000), (.single, .idle, 20000), (.single, .armed, 32440), (.single, .armed, 32439)].map
        (fun x => let c := (deliverAngle 0 x.2.2 (channelState 0 { ch x.2.1 with buffering := x.1 })).channel 0
                  (c.state, c.alpha, c.pendingValid))
      = [(.armed, 21500, true), (.idle, 21500, true), (.suppressed, 32440, false), (.armed, 32439, false)]
      ∧ 0 < diff ((ch .armed).loadPoint + 32439 - 2048) (channelState 0 (ch .armed)).g := by decide +kernel
theorem test_meets_capture :
    let r : ValveReport := { conducted := true, noFire := false, fault := false, blockAck := true, flags := 9, position := 865 }
    r.fault = false ∧ (ch .await).state = .await ∧ pFireTolerance (supState .running).par 0 = 364
      ∧ ((takeReport 0 r (channelState 0 (ch .await))).channel 0).captureError = 365
      ∧ (takeReport 0 r (channelState 0 (ch .await))).counter (.channel 0 8) = 1
      ∧ ((takeReport 0 r (channelState 0 (ch .blocked))).channel 0).blockAck = true
      ∧ (takeReport 0 r (channelState 0 (ch .idle))).counter (.channel 0 7) = 1 := by decide +kernel

/-! Boundaries, passes and tables (04, 05, 06 and 08 of the spec). -/

/-- Sets around the boundary 2:0: one before its first instant, one after its last. -/
def windowSets : List CompositeSet :=
  [{ index := 2, position := posOf 2 100, v := Phases.zero, i := Phases.zero, quality := Quality.clear },
   { index := 1, position := posOf 0 65500, v := Phases.zero, i := Phases.zero, quality := Quality.clear }]
/-- The boundary 2:0 stands next, with a history of sets. -/
def boundaryState (h : List CompositeSet) : State :=
  { State.reset with
    tracker := { trackerPowerOn with nextBoundary := posOf 2 0 }, merge := { mergePowerOn with history := h } }
/-- A pass in flight over those sets. -/
def flight : InFlight :=
  { boundary := posOf 2 0, window := windowSets.reverse, reference := defaultReference, angle := Vector.replicate 257 20000,
    angleValid := true, params := defaultParams, paramsValid := true, timer := 0 }
/-- `boundaryState` with a pass in flight. -/
def flightState : State :=
  { boundaryState windowSets with engine := { enginePowerOn with inFlight := some flight } }

theorem test_meets_boundaries :
    windowComplete [] (posOf 2 0) = false ∧ windowComplete windowSets (posOf 2 0) = true
      ∧ windowFormed windowSets (posOf 2 0) = true ∧ windowFormed (windowSets.take 1) (posOf 2 0) = false
      ∧ (boundaryState windowSets).engine.pendingBoundaries = [] ∧ (boundaryState windowSets).engine.inFlight = none
      ∧ (after (execPassBoundaryReached (boundaryState []))).engine.pendingBoundaries = [posOf 2 0]
      ∧ (after (execPassBoundaryReached (boundaryState windowSets))).engine.inFlight.map (fun f => f.timer) = some 1200
      ∧ flightState.engine.inFlight.isSome = true
      ∧ (after (execPassBoundaryReached flightState)).counter .passesOverrun = 1 := by decide +kernel
theorem test_meets_completion :
    flightState.engine.inFlight = some flight ∧ State.reset.engine.inFlight = none
      ∧ (after (execPassCompletion PassOutput.all flightState)).engine.passNumber = 1
      ∧ (after (execPassCompletion PassOutput.all flightState)).sup.lastPass = 1
      ∧ (after (execPassCompletion PassOutput.all flightState)).counter .passesWithoutE = 1 := by decide +kernel

/-- The angle table in CHECKING, its standby bank all 20000, with an expected check. -/
def checkState (o : OpState) (quiet : Option Nat) (expected : Half) (standby : AngleTable) : State :=
  { supState o with
    tables := { tablesPowerOn with angleB := standby, quiet := quiet,
                                   angleCommit := { commitPowerOn 0 with state := .checking, timer := 0, expected := expected } } }
/-- An angle bank of 20000. -/
def goodAngles : AngleTable := Vector.replicate 257 20000
/-- Its check value. -/
def goodCheck : Half := checkOfWords goodAngles.toList
/-- A bank whose first word out of range is word 5, and its check. -/
def highAngles : AngleTable := (goodAngles.set 5 32769).set 9 0
/-- Its check value. -/
def highCheck : Half := checkOfWords highAngles.toList

/-- A word is not one more than itself. -/
theorem test_half_ne_succ (x : Half) : x ≠ x + 1 := by simp

/-- The verdict over a given standby bank and expected check. -/
theorem test_verdict_of (o : OpState) (quiet : Option Nat) (e : Half) (x : AngleTable) :
    checkVerdict .angle (checkState o quiet e x) =
      if checkOfWords x.toList ≠ e then some (.checkMismatch, 0)
      else
        match firstFailing (fun _ => inRange 16384 32768) 0 x.toList with
        | some i => some (.outOfRange, i)
        | none =>
          match firstRising 0 x.toList with
          | some i => some (.notMonotonic, i)
          | none => none := rfl
/-- What the check of such a state is made of. -/
theorem test_check_fields (o : OpState) (quiet : Option Nat) (e : Half) (x : AngleTable) :
    (checkState o quiet e x).tables.angleStandby = x ∧ (checkState o quiet e x).tables.angleCommit.expected = e := ⟨rfl, rfl⟩
theorem test_meets_verdicts :
    checkOfWords goodAngles.toList = goodCheck ∧ checkOfWords goodAngles.toList ≠ goodCheck + 1
      ∧ checkOfWords highAngles.toList = highCheck
      ∧ (∀ (j : Nat) (hj : j < 5), 16384 ≤ highAngles[j].toNat ∧ highAngles[j].toNat ≤ 32768) ∧ highAngles[5].toNat = 32769 :=
  ⟨by rw [goodCheck], by rw [← goodCheck]; exact test_half_ne_succ _, by rw [highCheck], by decide +kernel, by decide +kernel⟩
theorem test_good_angles_pass (o : OpState) (quiet : Option Nat) :
    checkVerdict .angle (checkState o quiet goodCheck goodAngles) = none := by
  have h1 : firstFailing (fun _ => inRange 16384 32768) 0 goodAngles.toList = none := by decide +kernel
  have h2 : firstRising 0 goodAngles.toList = none := by decide +kernel
  rw [test_verdict_of, if_neg (not_not.2 test_meets_verdicts.1), h1, h2]
theorem test_other_check_fails :
    checkVerdict .angle (checkState .off none (goodCheck + 1) goodAngles) = some (.checkMismatch, 0) := by
  rw [test_verdict_of, if_pos test_meets_verdicts.2.1]
theorem test_meets_checks :
    (State.reset.tables.commit .angle).state ≠ .checking
      ∧ ((checkState .off none goodCheck goodAngles).tables.commit .angle).state = .checking
      ∧ (checkState .off none goodCheck goodAngles).sup.state = .off ∧ (checkState .off none goodCheck goodAngles).engine.inFlight = none
      ∧ (checkState .off none goodCheck goodAngles).tables.quiet = none
      ∧ (checkState .ready none goodCheck goodAngles).sup.state ≠ .off := by decide +kernel

/-- The angle table PENDING with the quiet timer running. -/
def quietState (o : OpState) : State :=
  { supState o with
    tables := { tablesPowerOn with quiet := some 1, angleCommit := { commitPowerOn 0 with state := .pending } } }

theorem test_meets_quiet_timer :
    (quietState .off).tables.quiet.isSome = true ∧ (quietState .off).engine.inFlight = none
      ∧ (quietState .off).tables.angleCommit.state = .pending ∧ (quietState .off).tables.refCommit.state ≠ .pending
      ∧ (quietState .off).tables.paramsCommit.state ≠ .pending ∧ (quietState .ready).sup.state ≠ .off
      ∧ (after (execQuietTimerExpiry (quietState .off))).tables.angleActiveB = true
      ∧ (after (execQuietTimerExpiry (quietState .ready))).tables.angleActiveB = false
      ∧ (checkState .off none 0 goodAngles).tables.quiet = none := by decide +kernel

/-- A pass with V_min 0, so that its zero voltage lets the demand stage run. -/
def zeroMinFlight : InFlight := { flight with params := defaultParams.set 3 0, window := [] }

/-- 06_the_compensation_pass_demand_and_firing_angle.md: I1q 9000, x 1200 and y 600 give D of 3493, 3400 and 2107. -/
theorem test_meets_demands :
    demandT 1200 = 2078 ∧ [0, 1, 2].map (fun b : BranchId => branchDemand b 9000 600 2078) = [3493, 3400, 2107]
      ∧ [0, 1, 2].map (fun b : BranchId => branchDemand b 2 0 0) = [1, 1, 1]
      ∧ branchDemand 0 32767 (-32767) (demandT 32767) = 40763
      ∧ demandRuns zeroMinFlight (measureFlight zeroMinFlight) = true := by decide +kernel
theorem test_meets_conduction :
    conductionOf 2507 8000 = 20537 ∧ conductionOf 0 8000 = 0 ∧ conductionOf 8000 8000 = 65536 ∧ conductionOf 65535 65535 = 65536 := by
  decide +kernel
theorem test_meets_magnitude : magnitude ⟨32767, -32767⟩ = 46339 ∧ magnitude ⟨0, 0⟩ = 0 := by decide +kernel

/-! The tracker (04_grid_timebase_and_phase_tracking.md). -/

/-- The tracker at a gain step. -/
def gainState (g : Nat) : State := { State.reset with tracker := { trackerPowerOn with gain := g } }

theorem test_meets_corrections :
    (stagePhase (-760) (gainState 3)).tracker.lastStep = -364 ∧ (stagePhase (-760) (gainState 3)).counter .saturatedSteps = 1
      ∧ (stagePhase 764 (gainState 2)).tracker.lastStep = 191 ∧ (gainState 0).tracker.gain = 0
      ∧ (stageFrequency 0 8192 (gainState 0)).tracker.inc = 34078720
      ∧ (stageFrequency 3 8192 (gainState 3)).tracker.inc = 36909875
      ∧ (stageFrequency 3 (-8192) (gainState 3)).tracker.inc = 30198989 := by decide +kernel

/-! The supervisor (09_operating_states_and_protective_responses.md). -/

/-- A record whose pass carries CURRENT_INVALID or UNDERVOLTAGE. -/
def record (current under : Bool) : PassRecord :=
  { recordPowerOn with number := 5, flags := { PassFlags.clear with currentInvalid := current, undervoltage := under } }

theorem test_meets_records :
    recordCause (record true false).flags (supIn .running).items = none
      ∧ recordCause (record false true).flags (supIn .blocked).items ≠ none
      ∧ [(OpState.running, false, false), (.running, true, false), (.holding, true, false), (.holding, false, false),
          (.blocked, false, false), (.blocked, false, true), (.off, true, true)].map
          (fun x => (takeRecord (record x.2.1 x.2.2) (supState x.1)).sup.state)
        = [.running, .holding, .holding, .running, .blocked, .blocked, .off]
      ∧ (takeRecord (record false false) { supState .blocked with sup := { supIn .blocked with recovery := 19 } }).sup.recovery = 20
      ∧ pRecoveryDelay (supState .blocked).par = 20 ∧ pHoldingLimit (supState .holding).par = 10
      ∧ pAutoRecover (supState .blocked).par = false
      ∧ (takeRecord (record true false) { supState .holding with sup := { supIn .holding with holding := 9 } }).sup.ramp = true := by
  decide +kernel
/-- The parameters with automatic recovery on, valid. -/
def autoState : State :=
  { supState .blocked with sup := { supIn .blocked with recovery := 19 },
                           channels := Vector.replicate 6 (channelPowerOn 0),
                           tables := { tablesPowerOn with active := defaultParams.set 52 1, paramsValid := true } }
theorem test_meets_recovery :
    pAutoRecover autoState.par = true ∧ (takeRecord (record false false) autoState).sup.state = .running
      ∧ ((takeRecord (record false false) autoState).channel 4).state = .idle := by decide +kernel
/-- Two unexpired entries, so that a third trips. -/
def tripHistory : List HistoryEntry := List.replicate 2 { pass := 0, cause := .misfire, valve := 0, expired := false }
theorem test_meets_loss_of_ps :
    upPort.link = .up ∧ (supState .running).sup.state = .running
      ∧ (after (execLossOfSignal .south LineRun.none (supState .running))).sup.state = .blocked
      ∧ (after (execLossOfSignal .south LineRun.none
          { supState .holding with sup := { supIn .holding with history := tripHistory } })).sup.state = .tripped := by
  decide +kernel

/-! Commands (10_access_requests_and_notices.md). -/

theorem test_meets_start_stop :
    (after (execStart (req 0) (supState .ready))).sup.state = .running
      ∧ (after (execStart (req 0) (supState .off))).pn.access = [.reply 2 7 .state []]
      ∧ (after (execResetTrip (req 0) (supState .tripped))).sup.state = .ready
      ∧ (after (execResetTrip (req 0) (supState .ready))).pn.access = [.reply 2 7 .state []]
      ∧ (supIn .running).items.hold = true ∧ (after (execStop (req 0) (supState .running))).sup.state = .ready
      ∧ ({ (supIn .running).items with voltage := false } : Permissives).hold = false
      ∧ (after (execStop (req 0) { supState .running with
          sup := { supIn .running with items := { (supIn .running).items with voltage := false } } })).sup.state = .off
      ∧ (after (execStop (req 0) (supState .off))).pn.access = [.reply 2 7 .ok []]
      ∧ (after (execStop (req 0) (supState .tripped))).pn.access = [.reply 2 7 .state []] := by decide +kernel
theorem test_meets_modes :
    (after (execHold (req 0) upState)).engine.mode = .hold ∧ upState.engine.mode ≠ .hold
      ∧ (after (execRelease (req 0) { upState with
          engine := { enginePowerOn with mode := .hold, rememberedManual := true } })).engine.mode = .manual
      ∧ (after (execSetMode (req 1) upState)).engine.mode = .manual
      ∧ (after (execSetMode (req 2) upState)).pn.access = [.reply 2 7 .badArgument []] := by decide +kernel
theorem test_meets_manual_and_commit :
    (0x0002FFFF#32).toNat / 65536 = 2 ∧ (after (execSetManualL (req 0x0002FFFF) upState)).engine.manual[2] = 65535
      ∧ (after (execSetManualL (req 0x00030000) upState)).pn.access = [.reply 2 7 .badArgument []]
      ∧ tableCode .parameters = 2 ∧ (after (execCommit (req 0x00021234) upState)).tables.paramsCommit.expected = 0x1234
      ∧ (after (execCommit (req 0x00030000) upState)).pn.access = [.reply 2 7 .badArgument []]
      ∧ (after (execCommit (req 0) (checkState .off none 0 goodAngles))).pn.access = [.reply 2 7 .busy []] := by decide +kernel
theorem test_meets_style_and_buffering :
    ((after (execSetStyle (req 0x00050001) upState)).channel 5).style = .sustain
      ∧ ((after (execSetBuffering (req 0x00050001) upState)).channel 5).buffering = .single
      ∧ (after (execSetStyle (req 0x00060000) upState)).pn.access = [.reply 2 7 .badArgument []]
      ∧ (after (execSetBuffering (req 0x00050002) upState)).pn.access = [.reply 2 7 .badArgument []] := by decide +kernel
theorem test_meets_retrain :
    portCode .south = (1#32).toNat ∧ upState.ps.transmitReady = true ∧ (after (execRetrain (req 1) upState)).ps.link = .seeking
      ∧ (after (execRetrain (req 2) upState)).pn.access = [.reply 2 7 .badArgument []] := by decide +kernel
/-- Source 5 with a vector, pending or not, and its repeats. -/
def noticeState (pending : Bool) (repeats : Nat) : State :=
  upState.setNotice 5 { noticePowerOn with enable := true, vector := 9, dest := 2, pending := pending, repeats := repeats, latest := some 8 }
theorem test_meets_clear_notice :
    (5#32).toNat = (5 : SourceId).val ∧ 22 ≤ (22#32).toNat
      ∧ (after (execClearNotice (req 5) (noticeState true 3))).pn.access = [.notice 2 5 9 3 .off 8, .reply 2 7 .ok []]
      ∧ ((after (execClearNotice (req 5) (noticeState true 0))).notices[5]).pending = false
      ∧ (after (execClearNotice (req 5) (noticeState false 0))).pn.access = [.reply 2 7 .ok []]
      ∧ (after (execClearNotice (req 22) upState)).pn.access = [.reply 2 7 .badArgument []] := by decide +kernel
theorem test_meets_warm_reset :
    upState.pn.transmitReady = true ∧ upState.ps.link = .up ∧ State.reset.ps.link ≠ .up
      ∧ (after (execWarmReset (req 0) fullState)).counter .discardedByReset = 4
      ∧ (after (execWarmReset (req 0) { supState .tripped with notices := upState.notices })).sup.state = .tripped
      ∧ ((after (execWarmReset (req 0) (supState .running))).channel 3).state = .blocked := by decide +kernel

/-! Writes (10_access_requests_and_notices.md, The access address map). -/

/-- What a write reaches in `upState`, whose window 0 every address hits. -/
def target (w : WriteRequest) : Except Status (Region × Nat) := accessTarget (writeRequest w) upState
/-- The ACCESS queue of PN after a write row. -/
def replyOf (o : Host.Outcome State Fault Refusal) : List Frame := (after o).pn.access
/-- The reply of a write with a status. -/
def replied (st : Status) : List Frame := [.reply 2 7 st []]

theorem test_meets_port_configuration :
    (wreq 0x10009 [255, 15]).wellFormed = true ∧ target (wreq 0x10009 [255, 15]) = .ok (.portConfig, 9)
      ∧ target (wreq 0x10009 [255, 16]) = .ok (.portConfig, 9)
      ∧ (after (execPortConfigurationWrite (wreq 0x10009 [255, 15]) upState)).ps.hiErrThreshold = 255
      ∧ (after (execPortConfigurationWrite (wreq 0x10009 [255, 15]) upState)).ps.accessPriority = 15
      ∧ (after (execPortConfigurationWrite (wreq 0x10009 [255, 16]) upState)).ps.hiErrThreshold = 8
      ∧ replyOf (execPortConfigurationWrite (wreq 0x10008 [2]) upState) = replied .badArgument := by decide +kernel
theorem test_meets_table_writes :
    target (wreq 0x11004 [0x27]) = .ok (.forwarding, 4) ∧ target (wreq 0x11004 [6]) = .ok (.forwarding, 4)
      ∧ target (wreq 0x13004 [1]) = .ok (.windows, 4) ∧ target (wreq 0x1402A [1]) = .ok (.vectors, 42)
      ∧ replyOf (execForwardingTableWrite (wreq 0x11004 [6]) upState) = replied .badArgument
      ∧ (upState.fwd[1]).enable = false ∧ ((after (execForwardingTableWrite (wreq 0x11004 [0x21]) upState)).fwd[1]).enable = true
      ∧ ((after (execAccessWindowWrite (wreq 0x1301C [1]) upState)).agent.windows[7]).enable = true
      ∧ ((after (execNoticeVectorWrite (wreq 0x1400A [0x20902]) (noticeState true 3))).notices[5]).pending = false
      ∧ ((after (execNoticeVectorWrite (wreq 0x1400A [0x20903]) (noticeState true 3))).notices[5]).repeats = 3 := by decide +kernel
theorem test_meets_counter_and_standby_writes :
    target (wreq 0x4124 [0]) = .ok (.counters, 292) ∧ target (wreq 0x2003F [5]) = .ok (.staged, 63)
      ∧ target (wreq 0x21100 [5]) = .ok (.angleStandby, 256) ∧ target (wreq 0x22000 [5]) = .ok (.refStandby, 0)
      ∧ (upState.tables.commit .angle).state = .idle
      ∧ ((checkState .off none 0 goodAngles).tables.commit .angle).state ≠ .idle
      ∧ paramUnnamed 63 = true ∧ readWord .staged 63 upState = 0
      ∧ readWord .counters 0 (after (execCounterClear (wreq 0x4000 [0]) (bump (.good .north 0) upState))) = 0
      ∧ replyOf (execCounterClear (wreq 0x4000 [1]) upState) = replied .badArgument
      ∧ readWord .staged 63 (after (execStandbyOrStagedWrite (wreq 0x2003F [5]) upState)) = 0
      ∧ readWord .angleStandby 256 (after (execStandbyOrStagedWrite (wreq 0x21100 [5]) upState)) = 5
      ∧ replyOf (execStandbyOrStagedWrite (wreq 0x21100 [5]) (checkState .off none 0 goodAngles)) = replied .busy := by decide +kernel
theorem test_unnamed_words_read_zero : ∀ k, k < 64 → paramUnnamed k = true → readWord .staged k upState = 0 := by decide +kernel
theorem test_meets_stream_table :
    target (wreq 0x12000 [0x501, 0x210, 32768, 4]) = .ok (.streamTable, 0)
      ∧ ((after (execStreamTableWrite (wreq 0x12000 [0x501, 0x210, 32768, 4]) upState)).merge.status[0]).state = .silent
      ∧ replyOf (execStreamTableWrite (wreq 0x12000 [0x501, 0x210, 32768, 0]) upState) = replied .badArgument
      ∧ replyOf (execStreamTableWrite (wreq 0x12004 [6]) upState) = replied .badArgument
      ∧ replyOf (execStreamTableWrite (wreq 0x12004 [0x501]) streamState) = replied .badArgument := by decide +kernel
theorem test_meets_refused_writes :
    Region.ident.writable = false ∧ (fullState.agent.windows[0]).readOnly = false
      ∧ target (wreq 0x10000 []) = .error .badCount ∧ target (wreq 0x10000 (List.replicate 33 0)) = .error .badCount
      ∧ target (wreq 0x5000 [1]) = .error .badAddress ∧ target (wreq 0x1000F [1, 1]) = .error .badAddress
      ∧ target (wreq 0x0 [1]) = .error .readOnly
      ∧ replyOf (execReadOnlyRegionWrite (wreq 0x0 [1]) upState) = replied .readOnly
      ∧ replyOf (execPortConfigurationWrite (wreq 0x5000 [1]) upState) = replied .badAddress := by decide +kernel

/-- 10_access_requests_and_notices.md, Worked example: window translation. -/
def windowState : State :=
  let w0 : Window := { windowZero with enable := true, translate := true, base := 0x80000000, mask := 0xFFFF0000, value := 0x00020000 }
  let w1 : Window := { windowZero with enable := true, forcePosted := true, base := 0x00014000, mask := 0xFFFFF000 }
  let w2 : Window := { windowZero with enable := true, readOnly := true }
  { upState with agent := { queue := [], windows := (((Vector.replicate 8 windowZero).set 0 w0).set 1 w1).set 2 w2 } }

theorem test_window_example :
    accessTarget { writeRequest (wreq 0x80001080 []) with operation := 1, count := 4 } windowState = .ok (.angleStandby, 128)
      ∧ accessTarget (writeRequest (wreq 0x800010F0 (List.replicate 32 0))) windowState = .error .badAddress
      ∧ accessTarget (writeRequest (wreq 0x00014010 [1])) windowState = .ok (.vectors, 16)
      ∧ isPosted (writeRequest (wreq 0x00014010 [1])) windowState = true
      ∧ ((windowState.agent.windows[0]).hit 0x00014010 = false ∧ (windowState.agent.windows[1]).hit 0x00014010 = true)
      ∧ accessTarget (writeRequest (wreq 0x00010000 [1])) windowState = .error .readOnly
      ∧ (windowState.agent.windows[2]).hit 0x00010000 = true ∧ (windowState.agent.windows[2]).readOnly = true
      ∧ (∀ j : StreamId, (fullState.agent.windows[j]).hit 5 = decide (j = 0)) := by decide +kernel
theorem test_meets_no_window :
    ∀ j : StreamId, (({ upState with agent := { queue := [], windows := Vector.replicate 8 windowZero } } : State).agent.windows[j]).hit 0
      = false := by decide +kernel

/-! The queue, the clock and resets. -/

/-- A READ of one word of the identification region waits. -/
def readState : State := { upState with agent := { upState.agent with queue := [requestOf (payloadOf readFrame) 2 .north] } }

theorem test_meets_read :
    readState.pending = [] ∧ dueCommands readState = [] ∧ (requestOf (payloadOf readFrame) 2 .north).operation = 1
      ∧ accessTarget (requestOf (payloadOf readFrame) 2 .north) readState = .ok (.ident, 0)
      ∧ (after (step readState)).agent.queue = []
      ∧ (after (step readState)).pn.access = [.reply 2 7 .ok [readWord .ident 0 readState]] := by decide +kernel
theorem test_meets_empty_queue :
    State.reset.pending = [] ∧ dueCommands State.reset = [] ∧ State.reset.agent.queue = []
      ∧ (after (step State.reset)).pace.clock = 1
      ∧ dueCommands { State.reset with tables := { tablesPowerOn with quiet := some 0 } } = [.quietTimerExpiry] := by decide +kernel
theorem test_meets_front_command :
    ({ State.reset with pending := [.paceEvent, .paceMarkSent] } : State).pending = .paceEvent :: [.paceMarkSent]
      ∧ (after (step { State.reset with pending := [.paceEvent, .paceMarkSent] })).pending = [.paceMarkSent]
      ∧ (after (step { State.reset with pending := [.paceEvent, .paceMarkSent] })).pace.count = 1 := by decide +kernel
theorem test_power_on_reset :
    (after (execPowerOnReset 255 { supState .running with pending := [.paceEvent] })).nodeId = 254
      ∧ (after (execPowerOnReset 255 { supState .running with pending := [.paceEvent] })).ps.link = .seeking
      ∧ (after (execPowerOnReset 7 (supState .running))).sup = supervisorPowerOn := by decide +kernel
theorem test_timemark :
    (after (execTimemarkPositionReached upState)).ps.timed = [.timemark]
      ∧ (after (execTimemarkPositionReached upState)).tracker.nextTimemark = posOf 1 0
      ∧ (after (execTransmitStart .south (after (execTimemarkPositionReached upState)))).ps.tx.map (fun x => x.frame)
        = some (.stampedTimemark (posOf 0 32768) 33554432 0 0) := by decide +kernel

/-! The invariants of the tier 3 statements are met by states that a step takes on. -/

theorem test_meets_port_invariant : PortInv upPort ∧ PortInv (portPowerOn true) := by
  refine ⟨?_, ?_⟩ <;> constructor <;> decide
theorem test_meets_merge_invariant : MergeInv indexState := by
  refine ⟨?_, by decide +kernel, ?_, by decide +kernel⟩
  · intro k h
    match k, h with
    | 0, _ => rfl
    | 1, _ => rfl
    | 2, _ => rfl
  · intro k h
    exact absurd h (Nat.not_lt_zero k)
/-- A supervisor in TRIPPED with its latch. -/
def trippedSup : Supervisor :=
  { supIn .tripped with trip := { latched := true, causeCode := 7, valve := 0, pass := 0 } }
theorem test_meets_number_invariants : TrackerInv (gainState 0).tracker ∧ SupInv trippedSup ∧ BlockInv readState := by
  refine ⟨?_, ?_, ?_⟩ <;> constructor <;> decide +kernel
theorem test_meets_firing_invariant :
    FiringInv State.reset ∧ FiringInv (supState .running) ∧ (supState .running).sup.state.fires = true :=
  ⟨⟨by decide +kernel, by decide +kernel⟩, ⟨by decide +kernel, by decide +kernel⟩, rfl⟩

/-! The cases at the edges of the statements. -/

/-- A port of `upState` in another link state. -/
def linkState (l : LinkState) (owed : Bool) : State :=
  { upState with pn := { upPort with link := l, trainOwed := owed, windowTimer := if l.receives then some 25000 else none } }
/-- `upState` with a port in FAR_FAULT. -/
def farState (oneWay : Bool) : State := { upState with ps := { busyPort with link := .farFault, oneWay := oneWay } }

theorem test_meets_line_marks :
    ([(LinkState.down, false), (.seeking, false), (.aligned, false), (.up, true), (.up, false), (.farFault, false), (.holdoff, false)].map
        fun x => (dueCommands (linkState x.1 x.2), (after (step (linkState x.1 x.2))).pn.lineMark))
      = [([], some (.train false)), ([], some (.train false)), ([], some (.train true)), ([], some (.train true)), ([], some .idle),
         ([], some .idle), ([], some .noReceive)]
      ∧ upState.agent.queue = [] ∧ busyPort.tx ≠ none := by decide +kernel
theorem test_owed_train_mark_goes_first :
    (after (execTransmitStart .south { upState with ps := { queuedPort with trainOwed := true } })).ps.lineMark = some (.train true)
      ∧ (after (execTransmitStart .south { upState with ps := { queuedPort with trainOwed := true } })).ps.trainOwed = false
      ∧ (after (execPaceMarkSent { upState with pn := { upPort with paceRequest := some 3, trainOwed := true } })).pn.lineMark
        = some (.pace 3) := by decide +kernel
theorem test_meets_symbols :
    upState.pn.rx = none
      ∧ (receiveSymbols .north (sf (List.replicate 507 0xA7)) upState).pn.rx.map (fun r => (r.bytes.length, r.count)) = some (506, 507)
      ∧ (receiveSymbols .north (sf [1]) (linkState .aligned false)).pn.rx = none
      ∧ ([[], [0xA7], [0xA6]].map fun first =>
          let t := receiveSymbols .north (sf [9]) (receiveSymbols .north (sf first) upState)
          (t.counter (.error .north 0), t.counter (.error .north 1), t.pn.rx.map RxFrame.bytes, t.pn.windowErrors))
        = [(1, 0, some [9], 1), (0, 1, some [9], 1), (1, 0, some [9], 1)] := by decide +kernel
theorem test_meets_far_fault_arrival :
    (farState false).ps.link = .farFault ∧ GoodFrame .south (sf readFrame) (farState false) (received readFrame)
      ∧ (after (execFrameArrival .south (sf readFrame) .complete (farState false))).ps.link = .up
      ∧ (after (execFrameArrival .south (sf readFrame) .complete (farState false))).agent.queue.length = 1 :=
  ⟨rfl, ⟨Or.inr rfl, by decide +kernel, by decide +kernel⟩, by decide +kernel, by decide +kernel⟩
theorem test_meets_copy :
    GoodFrame .south (sf ownFrame) (tableState .copy 0x60) (received ownFrame)
      ∧ matchingEntry .south ownFrame (tableState .copy 0x60) = some 3
      ∧ (after (execFrameArrival .south (sf ownFrame) .complete (tableState .copy 0x60))).counter (.unclaimed .south) = 1
      ∧ (after (execFrameArrival .south (sf ownFrame) .complete (tableState .copy 0x60))).pn.measure = [.forwarded ownFrame] :=
  ⟨⟨Or.inl rfl, by decide +kernel, by decide +kernel⟩, by decide +kernel, by decide +kernel, by decide +kernel⟩

/-! Placing sets and closing rows. -/

/-- An entry with the channels 0, 1 and inverted 2 at twice the unit gain less one. -/
def scaledEntry : StreamEntry :=
  { streamPowerOn with mapB := { index := 1, invert := false }, mapC := { index := 2, invert := true }, gain := 65535 }

theorem test_meets_format_and_scaling :
    (placeFrame 2 2 [setOf 0x07 0] indexState).counter (.stream 2 4) = 1 ∧ (placeFrame 2 3 [setOf 0x07 0] indexState).counter (.stream 2 0) = 1
      ∧ slotValues scaledEntry false { tag := 0, quality := 0, channels := [3, 20000, -5] } = ⟨6, 32767, 10⟩
      ∧ slotValues scaledEntry true { tag := 0, quality := 0, channels := [3, 20000, -5] } = ⟨6, 10, 32767⟩
      ∧ ([StreamState.silent, .acquiring, .lost].map fun st =>
          let s := { indexState with merge := { indexState.merge with
            status := indexState.merge.status.set 2 { statusPowerOn with state := st, filled := 9, missing := 4 } } }
          let x := (placeSet 2 s (setOf 0x07 0)).merge.status[2]
          (x.state, x.filled, x.missing)) = [(.acquiring, 0, 0), (.acquiring, 9, 4), (.acquiring, 0, 0)] := by decide +kernel

/-- One stream as VOLTAGE_MAIN, one as VOLTAGE_STANDBY and a feeder, each in a state, with the counts one short of their limits. -/
def closeState (sel : Selection) (main standby feeder : StreamState) (run : Nat) : State :=
  { upState with
    merge := { mergePowerOn with
      table := ((mergePowerOn.table.set 0 { streamPowerOn with enable := true, source := 5, role := .voltageMain, holdLimit := 2 }).set 1
        { streamPowerOn with enable := true, source := 6, role := .voltageStandby, holdLimit := 2 }).set 2
          { streamPowerOn with enable := true, source := 7, holdLimit := 2 },
      status := ((mergePowerOn.status.set 0 { statusPowerOn with state := main, filled := 15, missing := 1 }).set 1
        { statusPowerOn with state := standby, filled := 15, missing := 1, last := ⟨7, 8, 9⟩ }).set 2
          { statusPowerOn with state := feeder, filled := 15, missing := 0, last := ⟨30000, 1, 2⟩ },
      selection := sel, mainRun := run } }
/-- A row in which stream 0 alone is filled. -/
def mainRow : Row := { index := 1, position := 0, slots := (Vector.replicate 8 none).set 0 (some { values := ⟨1, 2, 3⟩, overrange := true }) }
/-- What closing it leaves: the three states, the selection, and the newest set with its quality. -/
def closedOf (s : State) : List StreamState × Selection × Option CompositeSet :=
  let m := (closeRow mainRow s).merge
  ([0, 1, 2].map (fun i : StreamId => (m.status[i]).state), m.selection, m.history.head?)

theorem test_meets_stream_updates :
    closedOf (closeState .none .acquiring .acquiring .locked 0) = ([.locked, .lost, .locked], .main, some {
        index := 1, position := 0, v := ⟨1, 2, 3⟩, i := ⟨30000, 1, 2⟩,
        quality := { Quality.clear with substitutedI := true, overrange := true, mixedVoltage := true } })
      ∧ closedOf (closeState .none .lost .silent .silent 0) = ([.lost, .silent, .silent], .none, some {
        index := 1, position := 0, v := Phases.zero, i := Phases.zero,
        quality := { Quality.clear with invalidV := true, feederIncomplete := true } }) := by decide +kernel
theorem test_meets_selection_table :
    ([(Selection.standby, 255, StreamState.locked), (.standby, 254, .locked), (.main, 0, .lost), (.standby, 0, .lost)].map
        fun x => (closedOf (closeState x.1 x.2.2 .lost .silent x.2.1)).2.1) = [.main, .main, .none, .none]
      ∧ (closeRow { mainRow with slots := mainRow.slots.set 1 (some { values := ⟨4, 5, 6⟩, overrange := false }) }
          (closeState .standby .locked .locked .silent 254)).merge.selection = .standby
      ∧ (closeRow { mainRow with slots := mainRow.slots.set 1 (some { values := ⟨4, 5, 6⟩, overrange := false }) }
          (closeState .standby .locked .locked .silent 255)).merge.selection = .main := by decide +kernel

/-! Reports, load points and the TIMED queue. -/

/-- A report with the flags CONDUCTED, NO_FIRE, FAULT and BLOCK_ACK given. -/
def report (conducted noFire fault ack : Bool) : ValveReport :=
  { conducted := conducted, noFire := noFire, fault := fault, blockAck := ack, flags := 0, position := 500 }
/-- What it leaves at channel 0 in a state with two misses: the operating state, misses, the channel state, stray reports and the flag. -/
def reported (r : ValveReport) (st : ChannelState) (misses : Nat) : OpState × Nat × ChannelState × Word × Bool :=
  let t := takeReport 0 r (channelState 0 { ch st with misses := misses })
  (t.sup.state, (t.channel 0).misses, (t.channel 0).state, t.counter (.channel 0 7), (t.channel 0).blockAck)

theorem test_meets_misses :
    reported (report false true false false) .await 1 = (.running, 2, .idle, 0, false)
      ∧ (reported (report false true false false) .await 2).1 = .blocked
      ∧ reported (report false false false false) .await 0 = (.running, 0, .await, 1, false)
      ∧ reported (report false false false true) .blocked 0 = (.running, 0, .blocked, 0, true)
      ∧ (reported (report false false true false) .idle 0).1 = .blocked
      ∧ (reported (report true false true false) .await 0).1 = .blocked
      ∧ (reported (report false true true false) .await 2).1 = .blocked
      ∧ (takeReport 0 (report false true true false) (channelState 0 { ch .await with misses := 2 })).counter .blockEntries = 1 := by
  decide +kernel
/-- A running state with G just past an issue position. -/
def lateState (st : ChannelState) (misses : Nat) : State :=
  { channelState 0 { ch st with misses := misses, nextLoadPoint := posOf 0 100, alpha := 16384 } with
    tracker := { trackerPowerOn with g48 := (posOf 0 20000).append 0#16 } }

theorem test_meets_late_load_points :
    ((after (execLoadPointReached 0 (lateState .idle 0))).channel 0).state = .issued
      ∧ ((after (execLoadPointReached 0 (lateState .await 0))).channel 0).state = .issued
      ∧ ((after (execLoadPointReached 0 (lateState .await 0))).channel 0).misses = 1
      ∧ (ch .armed).issue = posOf 0 700 ∧ ((after (execIssuePositionReached 0 (lateState .armed 0))).channel 0).state = .issued
      ∧ ((after (execLoadPointReached 0 (lateState .armed 0))).channel 0).misses = 1
      ∧ (after (execLoadPointReached 0 (channelState 0 { ch .await with misses := 2 }))).sup.state = .blocked
      ∧ (after (execLoadPointReached 0 (channelState 0 { ch .issued with misses := 2, alpha := 32440 }))).sup.state = .blocked := by
  decide +kernel
/-- A running state with a given TIMED queue, channel 0 ARMED. -/
def timedState (q : List Frame) : State := { channelState 0 (ch .armed) with ps := { upPort with timed := q } }
/-- A GATE frame of six commands. -/
def fullGate : Frame := .gate (List.replicate 6 (plainCommand 1 .block))

theorem test_meets_issue_places :
    (after (execIssuePositionReached 0 (timedState [.timemark]))).ps.timed.length = 2
      ∧ (after (execIssuePositionReached 0 (timedState [fullGate]))).ps.timed.length = 2
      ∧ ((after (execIssuePositionReached 0 (timedState [fullGate, fullGate, .timemark, fullGate]))).channel 0).outcome = .notSent
      ∧ (after (execIssuePositionReached 0 (timedState [fullGate, fullGate, .timemark, fullGate]))).counter (.overflow .south .timed) = 1 := by
  decide +kernel
/-- PS busy with a FIRE command of channel 0, a reply, a TIMEMARK and a PASS frame in transmission. -/
def heldState : State :=
  { channelState 0 { ch .issued with latest := 900 } with
    ps := { busyPort with timed := [.timemark, .gate [fireCmd 0 800 900 7 .pulse]], access := [.reply 2 7 .ok []] } }

theorem test_meets_lost_readiness :
    heldState.ps.transmitReady = true ∧ heldState.ps.link = .up ∧ heldState.ps.oneWay = false
      ∧ (∀ n : SourceId, (heldState.notices[n]).enable = false)
      ∧ (∀ v : ValveId, (upState.channel v).state = .blocked)
      ∧ ([Instr.lossOfSignal .south LineRun.none, .lossOfAlignment .south LineRun.none, .validMarkReceived .south LineRun.none (.train false),
          .validMarkReceived .south LineRun.none .noReceive].map fun c =>
          let t := after (exec c heldState)
          (t.counter (.notReady .south .pass), t.counter (.notReady .south .access), (t.channel 0).outcome))
        = [(2, 1, .notSent), (2, 1, .notSent), (2, 1, .notSent), (2, 1, .notSent)] := by decide +kernel
theorem test_port_write_ends_readiness :
    (farState true).ps.transmitReady = true ∧ accessTarget (writeRequest (wreq 0x10008 [0, 8, 9])) (farState true) = .ok (.portConfig, 8)
      ∧ (after (execPortConfigurationWrite (wreq 0x10008 [0, 8, 9]) (farState true))).ps.measure = []
      ∧ (after (execPortConfigurationWrite (wreq 0x10008 [0, 8, 9]) (farState true))).ps.accessPriority = 9
      ∧ (after (execPortConfigurationWrite (wreq 0x10008 [0, 8, 9]) (farState true))).ps.effAccess = 2 := by decide +kernel

/-! Boundaries, completions and table exchanges. -/

/-- Two boundaries whose windows are complete together, the first of them formed. -/
def twoBoundaries (inFlight : Option InFlight) : State :=
  { boundaryState windowSets with
    tracker := { trackerPowerOn with nextBoundary := posOf 2 0 },
    engine := { enginePowerOn with pendingBoundaries := [posOf 1 32768], inFlight := inFlight } }

theorem test_meets_two_boundaries :
    windowComplete windowSets (posOf 1 32768) = true ∧ windowFormed windowSets (posOf 1 32768) = false
      ∧ (after (execPassBoundaryReached (twoBoundaries none))).counter .windowsNotFormed = 1
      ∧ (after (execPassBoundaryReached (twoBoundaries none))).engine.inFlight.map InFlight.boundary = some (posOf 2 0)
      ∧ (after (execPassBoundaryReached (twoBoundaries (some flight)))).counter .passesOverrun = 1 := by decide +kernel
/-- `flightState` with the quiet timer expired and the angle table PENDING. -/
def idleFlight : State :=
  { flightState with tables := { tablesPowerOn with quiet := none, angleCommit := { commitPowerOn 0 with state := .pending } } }

theorem test_meets_output_orders :
    PassOutput.isOrder [.notices, .tracker, .delivery, .supervisor] = true
      ∧ PassOutput.isOrder [.supervisor, .delivery, .tracker, .notices] = true
      ∧ (measureFlight flight).e = none ∧ idleFlight.engine.inFlight = some flight ∧ idleFlight.sup.state = .off
      ∧ (after (execPassCompletion [.supervisor, .delivery, .tracker, .notices] idleFlight)).tables.angleActiveB = true := by decide +kernel

/-- A record at 60 Hz with a pass phase that the commit range allows. -/
def newParams : ParamRecord := ((defaultParams.set 0 60).set 2 100).set 4 5120
/-- Its check value. -/
def newCheck : Half := checkOfWords newParams.toList
/-- `newParams` staged over 50 Hz and the reference table, both in a commit state, with the record's expected check. -/
def stagedState (o : OpState) (quiet : Option Nat) (st : CommitState) (e : Half) : State :=
  { supState o with
    tracker := { trackerPowerOn with state := .locked, gain := 0 },
    tables := { tablesPowerOn with
      staged := newParams, active := newParams.set 0 50, paramsValid := true, quiet := quiet,
      paramsCommit := { commitPowerOn 0 with state := st, expected := e }, refCommit := { commitPowerOn 0 with state := st } } }

/-- The verdict over the staged record. -/
theorem test_params_verdict_of (o : OpState) (quiet : Option Nat) (st : CommitState) (e : Half) :
    checkVerdict .parameters (stagedState o quiet st e) =
      if checkOfWords newParams.toList ≠ e then some (.checkMismatch, 0)
      else
        match firstFailing (paramWordOk newParams) 0 newParams.toList with
        | some i => some (.outOfRange, i)
        | none => if condition4 (stagedState o quiet st e) then none else some (.state, 0) := rfl
theorem test_new_params_in_range : firstFailing (paramWordOk newParams) 0 newParams.toList = none := by decide +kernel
theorem test_meets_parameter_verdict (quiet : Option Nat) :
    checkVerdict .parameters (stagedState .off quiet .checking newCheck) = none := by
  rw [test_params_verdict_of, ← newCheck, if_neg (not_not.2 rfl), test_new_params_in_range]
  rfl
theorem test_parameter_verdict_outside_off :
    checkVerdict .parameters (stagedState .ready none .checking newCheck) = some (.state, 0) := by
  rw [test_params_verdict_of, ← newCheck, if_neg (not_not.2 rfl), test_new_params_in_range]
  rfl
theorem test_meets_pending_tables :
    (stagedState .off (some 1) .pending 0).tables.quiet.isSome = true ∧ (stagedState .off (some 1) .pending 0).engine.inFlight = none
      ∧ (after (execQuietTimerExpiry (stagedState .off (some 1) .pending 0))).tables.refActiveB = true
      ∧ (after (execQuietTimerExpiry (stagedState .off (some 1) .pending 0))).tracker.state = .free
      ∧ pFn (after (execQuietTimerExpiry (stagedState .off (some 1) .pending 0))).par = 60 := by decide +kernel
/-- An angle bank whose word 4 lies above word 3. -/
def risingAngles : AngleTable := (goodAngles.set 3 19999).set 2 19999
theorem test_meets_rising_verdict :
    (∀ (j : Nat) (hj : j < 257), 16384 ≤ risingAngles[j].toNat ∧ risingAngles[j].toNat ≤ 32768)
      ∧ risingAngles[3].toNat < risingAngles[4].toNat ∧ (∀ (j : Nat) (hj : j < 3), risingAngles[j + 1].toNat ≤ risingAngles[j].toNat)
      ∧ firstRising 0 risingAngles.toList = some 4 := by decide +kernel

/-! The tracker and the supervisor. -/

/-- The tracker in a state with its runs one short of a move, in an operating state. -/
def trackState (o : OpState) (st : TrackerState) : State :=
  { supState o with tracker := { trackerPowerOn with state := st, gain := 1, lockRun := 7, unlockRun := 1, holdoverRun := 99 } }
/-- The tracker and operating states after the state stage of a completion with e. -/
def stagedBy (e : Int) (o : OpState) (st : TrackerState) : TrackerState × OpState :=
  ((stageState e (trackState o st)).tracker.state, (stageState e (trackState o st)).sup.state)
/-- The same after a completion without e. -/
def withoutE (o : OpState) (st : TrackerState) : TrackerState × OpState :=
  ((completionWithoutE (trackState o st)).tracker.state, (completionWithoutE (trackState o st)).sup.state)

theorem test_meets_tracker_moves :
    pLockThreshold (supState .off).par = 182 ∧ pUnlockThreshold (supState .off).par = 910 ∧ pHoldoverLimit (supState .off).par = 100
      ∧ stagedBy 9 .running .free = (.pullIn, .running) ∧ stagedBy 9 .running .holdover = (.pullIn, .running)
      ∧ stagedBy 182 .running .pullIn = (.locked, .running) ∧ stagedBy 183 .running .pullIn = (.pullIn, .running)
      ∧ stagedBy 911 .running .locked = (.pullIn, .blocked) ∧ stagedBy 910 .running .locked = (.locked, .running)
      ∧ stagedBy 911 .ready .locked = (.pullIn, .off) ∧ stagedBy 182 .off .pullIn = (.locked, .ready) := by decide +kernel
theorem test_meets_completions_without_e :
    withoutE .running .free = (.free, .running) ∧ withoutE .running .pullIn = (.holdover, .running)
      ∧ withoutE .running .locked = (.holdover, .blocked) ∧ withoutE .running .holdover = (.free, .running)
      ∧ (completionWithoutE { trackState .off .holdover with
          tracker := { trackerPowerOn with state := .holdover, holdoverRun := 98 } }).tracker.state = .holdover
      ∧ (stageGain defaultParams 729 (gainState 3)).tracker.gain = 3 ∧ (stageGain defaultParams 728 (gainState 2)).tracker.gain = 2
      ∧ (stageGain defaultParams 91 (gainState 2)).tracker.gain = 2 ∧ (stageGain defaultParams (-90) (gainState 0)).tracker.gain = 0 := by
  decide +kernel
/-- A supervisor one record short of its recovery, with items that hold or not. -/
def recoveringState (holds : Bool) (history : List HistoryEntry) : State :=
  { supState .blocked with sup := { supIn .blocked with
      recovery := 19, history := history, items := { (supIn .blocked).items with voltage := holds } } }

theorem test_meets_record_entries :
    recordCause (record false true).flags (supIn .running).items = some .undervoltage
      ∧ (takeRecord (record false true) (supState .running)).sup.history
        = [{ pass := 5, cause := .undervoltage, valve := 0, expired := false }]
      ∧ (takeRecord (record false false) (recoveringState true [])).sup.state = .ready
      ∧ (takeRecord (record false false) (recoveringState false [])).sup.state = .off
      ∧ pTripWindow (supState .running).par = 1200
      ∧ ((takeRecord { record false false with number := 1200 } (recoveringState true tripHistory)).sup.history.map HistoryEntry.expired)
        = [true, true]
      ∧ ((takeRecord { record false false with number := 1199 } (recoveringState true tripHistory)).sup.history.map HistoryEntry.expired)
        = [false, false]
      ∧ (takeRecord (record true false) { supState .running with
          tables := { tablesPowerOn with active := defaultParams.set 51 0, paramsValid := true } }).sup.ramp = true := by decide +kernel
theorem test_reset_trip_without_permissives :
    (after (execResetTrip (req 0) { supState .tripped with
      sup := { supIn .tripped with items := { (supIn .tripped).items with voltage := false } } })).sup.state = .off := by decide +kernel

/-! Notices and the stream table. -/

theorem test_meets_raised :
    (upState.notices[5]).enable = false ∧ (raise 5 1 upState).pn.access = []
      ∧ ((raise 5 1 (noticeState true 255)).notices[5]).repeats = 255 ∧ ((raise 5 1 (noticeState true 255)).notices[5]).latest = some 1
      ∧ (raise 5 1 (noticeState false 0)).pn.access = [.notice 2 5 9 0 .off 1]
      ∧ ((raise 5 1 { noticeState false 0 with pn := { upPort with access := List.replicate 8 .timemark } }).notices[5]).pending = false
      ∧ (raise 5 1 { noticeState false 0 with pn := portPowerOn true }).counter .noticesNotQueued = 1 := by decide +kernel
/-- Whether a write of the stream table, from its first word on, is answered OK in `closeState`. -/
def streamWriteOk (address : Word) (words : List Word) : Bool :=
  decide (replyOf (execStreamTableWrite (wreq address words) (closeState .none .silent .silent .silent 0)) = replied .ok)

theorem test_meets_stream_conditions :
    accessTarget (writeRequest (wreq 0x1200C [0x901, 0, 32768, 1])) (closeState .none .silent .silent .silent 0) = .ok (.streamTable, 12)
      ∧ streamWriteOk 0x1200C [0x901, 0, 32768, 1] = true ∧ streamWriteOk 0x1200C [0x900, 0, 32768, 0] = false
      ∧ streamWriteOk 0x1200C [0x906] = false ∧ streamWriteOk 0x1200C [0x903] = false ∧ streamWriteOk 0x1200C [0x905] = false
      ∧ streamWriteOk 0x1200C [0x701] = false ∧ streamWriteOk 0x1200C [0x902] = true
      ∧ streamWriteOk 0x1200C [0xA01, 0, 32768, 1, 0xB01, 0, 32768, 1, 0xC01, 0, 32768, 1, 0xD01, 0, 32768, 1, 0xE01] = true
      ∧ streamWriteOk 0x12004 [0x601, 0, 32768, 1, 0x701, 0, 32768, 1, 0xA01, 0, 32768, 1, 0xB01, 0, 32768, 1, 0xC01, 0, 32768, 1,
          0xD01, 0, 32768, 1, 0xE01] = false := by decide +kernel
theorem test_restart_of_a_silent_stream_is_told :
    ((after (execStreamTableWrite (wreq 0x12000 [0xA03]) ((closeState .none .silent .silent .silent 0).setNotice srcStreamState
      { noticePowerOn with enable := true }))).notices[srcStreamState]).pending = true := by decide +kernel

/-! Cut frames, transmit ends, details of notices, rows that close, and the demand stage of a branch. -/

/-- A state with a notice source enabled and routed to PN. -/
def told (n : SourceId) (s : State) : State := s.setNotice n { noticePowerOn with enable := true, dest := 2 }
/-- The latest detail of that source. -/
def detailOf (n : SourceId) (s : State) : Option Word := (s.notices[n]).latest
/-- DELIMITER and TRUNCATED at PN after a line event, with SF and one byte before it. -/
def cutBy (c : LineRun → Instr) (first : Byte) : Word × Word :=
  let t := after (exec (c (sf [first])) upState)
  (t.counter (.error .north 0), t.counter (.error .north 1))

theorem test_meets_frames_cut_by_line_events :
    (receiveSymbols .north (sf [0xA7]) upState).pn.rx = some (received [0xA7])
      ∧ Mark.ofSymbols .invalid .invalid .invalid = none
      ∧ ([Instr.lossOfSignal .north, Instr.lossOfAlignment .north, (Instr.validMarkReceived .north · .idle),
          (Instr.illFormedMarkReceived .north · .invalid .invalid .invalid), Instr.invalidSymbolReceived .north].map
          fun c => (cutBy c 0xA7, cutBy c 0xA6)) = List.replicate 5 ((0, 1), (1, 0))
      ∧ cutBy (Instr.validMarkReceived .north · (.pace 3)) 0xA7 = (0, 0) := by decide +kernel
/-- A GATE frame in transmission at PS with FIRE commands of valves 0 and 1, the second late, and a BLOCK command. -/
def sendingState : State :=
  { supState .running with
    channels := Vector.replicate 6 { channelPowerOn 0 with state := .issued, latest := 6 },
    ps := { upPort with tx := some (TxFrame.mk .timed (.gate [fireCmd 0 5 6 7 .pulse, plainCommand 2 .block,
      { fireCmd 1 5 6 7 .pulse with late := true }, fireCmd 3 5 9 7 .pulse]) []) } }

theorem test_meets_transmit_end_of_several_fires :
    let t := after (execTransmitEnd .south sendingState)
    (t.counter (.sent .south .timed), [0, 1, 2, 3].map (fun v : ValveId => (t.counter (.channel v 0), t.counter (.channel v 1))))
        = (1, [(1, 0), (1, 1), (0, 0), (1, 0)])
      ∧ [0, 1, 2, 3].map (fun v : ValveId => ((t.channel v).state, (t.channel v).outcome, (t.channel v).fire))
        = [(.await, .sent, 0), (.await, .late, 5), (.issued, .none, 0), (.issued, .none, 0)] := by decide +kernel
theorem test_meets_deviation :
    [865, 864, 135].map (fun x : Pos => detailOf 17 (takeReport 0 { report true false false false with position := x }
        (told 17 (channelState 0 (ch .await))))) = [some 365, none, some 65171] := by decide +kernel
/-- 02_frame_switching_and_transmit_scheduling.md, Worked example: a GATE frame at transmit start: valve 0 late, valve 3 skipped. -/
theorem test_gate_example_notices :
    (∀ f, f ∈ gateState.ps.timed → ∀ c, c ∈ f.fires → pLateMargin gateState.par c.valve ≤ 2048 ∧ -1073741824 ≤ diff c.position gateState.g)
      ∧ detailOf 13 (after (execTransmitStart .south (told 13 gateState))) = some 65
      ∧ detailOf 14 (after (execTransmitStart .south (told 14 gateState))) = some 0x0301FE2C
      ∧ (after (execTransmitStart .south { gateState with ps := { upPort with
          timed := [.gate [fireCmd 3 (posOf 16 65068) (posOf 16 65208) 4096 .pulse], .timemark] } })).ps.tx.map TxFrame.cls = some .timed
      ∧ (after (execTransmitStart .south { gateState with sup := supIn .blocked })).ps.tx = none := by decide +kernel
theorem test_meets_access_errors :
    detailOf 21 (after (execCounterClear { wreq 0x50000 [1] with posted := true } (told 21 upState))) = some 0x00070306
      ∧ isPosted (writeRequest { wreq 0x50000 [1] with posted := true }) upState = true
      ∧ detailOf 21 (after (execFrameArrival .north (sf postedFrame) .complete (told 21 fullState))) = some 0x00070301
      ∧ detailOf 21 (after (execFrameArrival .north (sf readFrame) .complete (told 21 fullState))) = none := by decide +kernel
/-- Two open rows of `closeState`, the first without its feeder's slot, and the second with the feeder's slot filled or not. -/
def openRows (second : Bool) : State :=
  { closeState .main .locked .locked .locked 0 with
    pace := { pacePowerOn with count := 2 },
    merge := { (closeState .main .locked .locked .locked 0).merge with
      rows := [mainRow, { mainRow with index := 2, slots := mainRow.slots.set 2 (if second then some { values := ⟨1, 1, 1⟩, overrange := false } else none) }] } }

theorem test_meets_completed_rows :
    [false, true].map (fun b => (placeSet 2 (openRows b) (setOf 1 0)).merge.rows.length) = [1, 0]
      ∧ (placeSet 2 (openRows true) (setOf 1 0)).merge.lastClosed = 2
      ∧ (openRows false).merge.rowComplete mainRow = false ∧ (mainRow.slots[2]) = none
      ∧ detailOf 5 (placeSet 2 (told 5 { indexState with merge := { indexState.merge with
          status := indexState.merge.status.set 2 { statusPowerOn with state := .silent } } }) (setOf 7 0)) = some 0x02010200 := by
  decide +kernel
/-- `indexState` at a later pace count: a merge delay of 4 has passed for one row more with each event missed. -/
theorem test_meets_deadlines :
    [5127, 5128, 5129].map (fun p : Word =>
        (after (execPaceEvent { indexState with pace := { indexState.pace with count := p } })).merge.lastClosed)
      = [5124, 5125, 5126] := by decide +kernel
theorem test_meets_misfire_with_issue :
    let t := after (execLoadPointReached 0 (told 15 (lateState .await 2)))
    diff (posOf 0 100 + 16384 - 2048) (lateState .await 2).g ≤ 0 ∧ detailOf 15 t = some 0x000301F4 ∧ t.sup.state = .blocked
      ∧ (t.channel 0).state = .blocked ∧ (t.channel 0).fire = posOf 0 16484 := by decide +kernel
/-- A table that falls from 180 degrees to 90 degrees in its first step. -/
def steepAngles : AngleTable := (Vector.replicate 257 16384).set 0 32768
/-- The result of branch AB in AUTO with V_nom and |V1| 14000, B_Lmax 65535 and a slew limit. -/
def branchOfTest (src : TargetSource) (slew : Word) (i1q : Int) (lPrev manual : Nat) : BranchResult :=
  branchStage ((defaultParams.set 2 14000).set 11 slew) steepAngles i1q 0 0 14000 src { lPrev := lPrev, manual := manual } 0

theorem test_branch_results :
    [128, 256, 65535, 65536].map (lookupAngle steepAngles) = [24576, 16384, 16384, 16384]
      ∧ [(branchOfTest .auto 65535 300 0 0), (branchOfTest .manual 65535 0 0 65535), (branchOfTest .manual 100 0 1000 30000),
          (branchOfTest .manual 100 0 30000 29901), (branchOfTest .manual 100 0 30000 0), (branchOfTest .hold 100 0 70000 0)].map
          (fun z => (z.target, z.reactor, z.capLimit, z.slew))
        = [(0, 0, true, false), (65535, 65535, false, false), (30000, 1100, false, true), (29901, 29901, false, false),
           (0, 29900, false, true), (65535, 65535, false, false)]
      ∧ (branchOfTest .auto 65535 (-300) 0 0).target = 100 ∧ (branchOfTest .manual 65535 0 0 65535).conduction = 65536
      ∧ demandRuns zeroMinFlight (measureFlight zeroMinFlight) = true := by decide +kernel
theorem test_phase_errors :
    [((100, 100), 141), ((1, 1), 1), ((-1, 0), 1), ((0, -1), 1), ((50, -1), 50)].map
        (fun x : (Int × Int) × Nat => errorOf { re := x.1.1, im := x.1.2 } x.2) = [7397, 8192, 8192, -8192, -209] := by decide +kernel
/-- `upState` with a full PASS queue at PN and QUEUE_DROP enabled. -/
def fullPass : State := told 4 { upState with pn := { upState.pn with pass := List.replicate 16 (.forwarded otherFrame) } }
/-- A NOTICE frame of another unit. -/
def foreignNotice : List Byte := buildFrame 0x33 9 2 [0, 8, 0, 0, 0, 0, 0, 0]

/-- R31: a dropped NOTICE frame raises no QUEUE_DROP, one that the switch forwards included; the overflow is counted. -/
theorem test_dropped_notice_frame_is_not_told :
    [otherFrame, foreignNotice].map (fun f =>
        let t := after (execFrameArrival .south (sf f) .complete fullPass)
        (t.counter (.overflow .north .pass), detailOf 4 t, t.pn.pass == fullPass.pn.pass))
      = [(1, some 0x00036000, true), (1, none, true)] := by decide +kernel

end Sys2Proof.Tests
end

section
/-! Proofs of 05_the_compensation_pass_measurement.md: the magnitudes (R101), and the phase error with its way to the record and the
tracker (R105). -/

namespace Sys2Proof.Machine

/-! ### The integer square root -/

/-- Each bit of the root keeps r² ≤ n < (r + 2^bits)², so that the last one leaves the floor of the root. -/
theorem isqrtBits_bounds (bits n r : Nat) (lower : r * r ≤ n) (upper : n < (r + 2 ^ bits) * (r + 2 ^ bits)) :
    isqrtBits bits n r * isqrtBits bits n r ≤ n ∧ n < (isqrtBits bits n r + 1) * (isqrtBits bits n r + 1) := by
  induction bits generalizing r with
  | zero => exact ⟨lower, upper⟩
  | succ bits ih =>
    unfold isqrtBits
    split
    case isTrue fits =>
      have double : r + 2 ^ bits + 2 ^ bits = r + 2 ^ (bits + 1) := by rw [pow_succ]; omega
      exact ih _ fits (double ▸ upper)
    case isFalse tooLarge => exact ih _ lower (Nat.lt_of_not_le tooLarge)

theorem isqrt_eq_sqrt (n : Nat) (h : n < 2 ^ 34) : isqrt n = Nat.sqrt n := by
  obtain ⟨lower, upper⟩ := isqrtBits_bounds 17 n 0 (Nat.zero_le n) (by omega)
  exact Nat.eq_sqrt.mpr ⟨lower, upper⟩

/-! ### Magnitudes (R101) -/

/-- The components lie in the working range of 00_scope.md section 5.3. -/
def Phasor.InRange (p : Phasor) : Prop := -32767 ≤ p.re ∧ p.re ≤ 32767 ∧ -32767 ≤ p.im ∧ p.im ≤ 32767

/-- The exact sum of squares of R101. -/
def Phasor.sumSq (p : Phasor) : Nat := (p.re * p.re + p.im * p.im).toNat

theorem Phasor.cast_sumSq (p : Phasor) : (p.sumSq : Int) = p.re * p.re + p.im * p.im :=
  Int.toNat_of_nonneg (add_nonneg (mul_self_nonneg _) (mul_self_nonneg _))

theorem mul_self_le_of_working {x : Int} (lower : -32767 ≤ x) (upper : x ≤ 32767) : x * x ≤ 1073676289 := by
  nlinarith

theorem Phasor.InRange.sumSq_le {p : Phasor} (h : p.InRange) : p.sumSq ≤ 2147352578 := by
  obtain ⟨reLower, reUpper, imLower, imUpper⟩ := h
  have re := mul_self_le_of_working reLower reUpper
  have im := mul_self_le_of_working imLower imUpper
  have cast := p.cast_sumSq
  omega

theorem Phasor.InRange.magnitude_eq {p : Phasor} (h : p.InRange) : magnitude p = Nat.sqrt p.sumSq :=
  isqrt_eq_sqrt p.sumSq (by have := h.sumSq_le; omega)

theorem Phasor.InRange.magnitude_le {p : Phasor} (h : p.InRange) : magnitude p ≤ 46339 := by
  rw [h.magnitude_eq]
  have : Nat.sqrt p.sumSq < 46340 := Nat.sqrt_lt.mpr (by have := h.sumSq_le; omega)
  omega

/-- The magnitude is the floor of the square root of the exact sum (R101). -/
theorem Phasor.InRange.magnitude_floor {p : Phasor} (h : p.InRange) :
    (magnitude p : Int) * magnitude p ≤ p.re * p.re + p.im * p.im
      ∧ p.re * p.re + p.im * p.im < ((magnitude p : Int) + 1) * (magnitude p + 1) := by
  rw [h.magnitude_eq, ← p.cast_sumSq]
  exact ⟨mod_cast Nat.sqrt_le p.sumSq, mod_cast Nat.lt_succ_sqrt p.sumSq⟩

/-! ### The measurement stage -/

theorem saturate_eq (lo hi x : Int) (h : lo ≤ hi) : saturate lo hi x = max lo (min hi x) := by
  unfold saturate
  split
  · omega
  · split <;> omega

theorem sat16_bounds (x : Int) : -32767 ≤ sat16 x ∧ sat16 x ≤ 32767 := by
  unfold sat16
  rw [saturate_eq _ _ _ (by decide)]
  omega

/-- Every sequence component is saturated to the working range (R100). -/
theorem third_inRange (p q r : Phasor) : (third p q r).InRange :=
  ⟨(sat16_bounds _).1, (sat16_bounds _).2, (sat16_bounds _).1, (sat16_bounds _).2⟩

section MeasureSamples
variable {ref : ReferenceTable} {xs : List Sample} {q : Quality} {vMin : Nat} {m : Measurement}
  (hm : m = measureSamples ref xs q vMin)
include hm

theorem measured_mag1 : m.mag1 = magnitude m.v1 := by
  subst hm
  simp only [measureSamples]

theorem measured_mag2 : m.mag2 = magnitude m.v2 := by
  subst hm
  simp only [measureSamples]

theorem measured_voltageInvalid : m.voltageInvalid = q.invalidV := by rw [hm]; rfl

theorem measured_v1_inRange : m.v1.InRange := hm ▸ third_inRange _ _ _

theorem measured_v2_inRange : m.v2.InRange := hm ▸ third_inRange _ _ _

/-- The rotation check compares 2 |V2| with |V1|, in a pass that is neither VOLTAGE_INVALID nor UNDERVOLTAGE. -/
theorem measured_rotationFault_iff :
    m.rotationFault = true ↔ m.voltageInvalid = false ∧ m.undervoltage = false ∧ m.mag1 < 2 * m.mag2 := by
  have unfolded : m.rotationFault = (!m.voltageInvalid && !m.undervoltage && decide (m.mag1 < 2 * m.mag2)) := hm ▸ rfl
  simp [unfolded, and_assoc]

theorem measured_e : m.e = if !m.voltageInvalid && decide (1 ≤ m.mag1) then some (errorOf m.v1 m.mag1) else none := hm ▸ rfl

theorem measured_e_none (h : m.voltageInvalid = true ∨ m.mag1 = 0) : m.e = none := by
  rw [measured_e hm]
  obtain invalid | zero := h
  · simp [invalid]
  · simp [zero]

theorem measured_e_some (valid : m.voltageInvalid = false) (present : 1 ≤ m.mag1) : m.e = some (errorOf m.v1 m.mag1) := by
  simp [measured_e hm, valid, present]

end MeasureSamples

/-- The error in the spec's terms: saturated where Re(V1) is above 0, and its limit on the side of Im(V1) elsewhere (R105). -/
theorem errorOf_eq (v : Phasor) (mag : Nat) :
    errorOf v mag = if 0 < v.re then max (-8192) (min 8192 (roundDiv (v.im * 10430) mag))
      else if 0 ≤ v.im then 8192 else -8192 := by
  unfold errorOf
  rw [saturate_eq _ _ _ (by decide)]

/-! ### What keeps the measured results

The record and the tracker's last e are written at a completion alone. The tracker's phase step may reach positions, and the supervisor may
enter OFF and activate tables, within the same completion: none of that touches either. `GateFrame` keeps the tracker whole and so gives
both; `SupFrame` leaves the tracker free, and what it allows is followed here for the last e. -/

/-- The pass record and the tracker's last e of s stand in t. -/
structure ErrorKept (s t : State) : Prop where
  record : t.engine.record = s.engine.record
  lastE : t.tracker.lastE = s.tracker.lastE

theorem ErrorKept.refl (s : State) : ErrorKept s s := ⟨rfl, rfl⟩

theorem ErrorKept.trans {s t u : State} (a : ErrorKept s t) (b : ErrorKept t u) : ErrorKept s u :=
  ⟨b.record.trans a.record, b.lastE.trans a.lastE⟩

theorem GateFrame.errorKept {s t : State} (h : GateFrame s t) : ErrorKept s t :=
  ⟨congrArg Engine.record h.engine, congrArg Tracker.lastE h.tracker⟩

theorem QuietFrame.errorKept {s t : State} (h : QuietFrame s t) : ErrorKept s t := h.toGateFrame.errorKept

theorem foldl_errorKept {α : Type} (f : State → α → State) (hf : ∀ s a, ErrorKept s (f s a)) (l : List α) (s : State) :
    ErrorKept s (l.foldl f s) := by
  induction l generalizing s with
  | nil => exact .refl s
  | cons a l ih => exact (hf s a).trans (ih _)

/-! The updates of a single part of the state. -/

theorem bump_errorKept (c : Counter) (s : State) : ErrorKept s (bump c s) := ⟨rfl, rfl⟩
theorem bumpIf_errorKept (b : Bool) (c : Counter) (s : State) : ErrorKept s (bumpIf b c s) := ⟨by simp, by simp⟩
theorem setSup_errorKept (u : Supervisor) (s : State) : ErrorKept s (s.setSup u) := ⟨rfl, rfl⟩
theorem setTables_errorKept (t : Tables) (s : State) : ErrorKept s (s.setTables t) := ⟨rfl, rfl⟩
theorem setTracker_errorKept (x : Tracker) (s : State) (h : x.lastE = s.tracker.lastE := by rfl) :
    ErrorKept s (s.setTracker x) := ⟨rfl, h⟩
theorem setEngine_errorKept (x : Engine) (s : State) (h : x.record = s.engine.record := by rfl) :
    ErrorKept s (s.setEngine x) := ⟨h, rfl⟩

/-! The supervisor's moves and the activations of the table store. -/

theorem moveTo_errorKept (new : OpState) (c : Cause) (v : ValveId) (s : State) : ErrorKept s (moveTo new c v s) :=
  (setSup_errorKept _ s).trans (moveTo_gate new c v s).errorKept

theorem setItems_errorKept (f : Permissives → Permissives) (s : State) : ErrorKept s (setItems f s) := setSup_errorKept _ s

theorem evalOff_errorKept (s : State) : ErrorKept s (evalOff s) :=
  ite_frame (P := ErrorKept) _ (moveTo_errorKept _ _ _ s) (.refl s)

theorem recordResult_errorKept (id : TableId) (n : CommitState) (r : CommitResult) (k : Nat) (s : State) :
    ErrorKept s (recordResult id n r k s) :=
  (setTables_errorKept _ s).trans (raise_quiet _ _ _).errorKept

/-- A change of fn sets the tracker FREE, and leaves its last e (R84). -/
theorem applyFnChange_errorKept (s : State) : ErrorKept s (applyFnChange s) := by
  have retimed : ErrorKept s { s with pace := s.pace.retime (pFn s.par), tracker := s.tracker.setFree } := ⟨rfl, rfl⟩
  exact ite_frame (P := ErrorKept) _ retimed
    (((retimed.trans (raise_quiet _ _ _).errorKept).trans (setItems_errorKept _ _)).trans (evalOff_errorKept _))

theorem activationEffects_errorKept (before : ParamRecord) (s : State) : ErrorKept s (activationEffects before s) := by
  have fn := ite_frame (P := ErrorKept) (pFn before == pFn s.par) (.refl s) (applyFnChange_errorKept s)
  exact ite_frame (P := ErrorKept) _ fn (fn.trans (setTracker_errorKept _ _))

theorem activateParams_errorKept (s : State) : ErrorKept s (activateParams s) :=
  ((((setTables_errorKept _ s).trans (recordResult_errorKept _ _ _ _ _)).trans (activationEffects_errorKept _ _)).trans
    (setItems_errorKept _ _)).trans (evalOff_errorKept _)

theorem activate_errorKept (id : TableId) (s : State) : ErrorKept s (activate id s) := by
  cases id with
  | angle =>
    exact (((setTables_errorKept _ s).trans (recordResult_errorKept _ _ _ _ _)).trans (setItems_errorKept _ _)).trans
      (evalOff_errorKept _)
  | reference => exact (setTables_errorKept _ s).trans (recordResult_errorKept _ _ _ _ _)
  | parameters => exact ite_frame (P := ErrorKept) _ (activateParams_errorKept s) (recordResult_errorKept _ _ _ _ s)

theorem activateIfPending_errorKept (id : TableId) (s : State) : ErrorKept s (activateIfPending id s) :=
  ite_frame (P := ErrorKept) _ (activate_errorKept id s) (.refl s)

theorem activatePending_errorKept (s : State) : ErrorKept s (activatePending s) :=
  ((activateIfPending_errorKept _ s).trans (activateIfPending_errorKept _ _)).trans (activateIfPending_errorKept _ _)

theorem idleTest_errorKept (s : State) : ErrorKept s (idleTest s) :=
  ite_frame (P := ErrorKept) _ (activatePending_errorKept s) (.refl s)

theorem enterOff_errorKept (c : Cause) (s : State) : ErrorKept s (enterOff c s) :=
  ((moveTo_errorKept _ _ _ s).trans (idleTest_errorKept _)).trans (evalOff_errorKept _)

theorem evaluate_errorKept (s : State) : ErrorKept s (evaluate s) := by
  unfold evaluate
  split
  · exact evalOff_errorKept s
  · exact ite_frame (P := ErrorKept) _ (.refl s) (enterOff_errorKept _ s)
  · exact .refl s

theorem updateItems_errorKept (f : Permissives → Permissives) (s : State) : ErrorKept s (updateItems f s) :=
  (setItems_errorKept f s).trans (evaluate_errorKept _)

theorem trip_errorKept (c : Cause) (v : ValveId) (s : State) : ErrorKept s (trip c v s) :=
  (((setSup_errorKept _ s).trans (bump_errorKept _ _)).trans (moveTo_errorKept _ _ _ _)).trans (raise_quiet _ _ _).errorKept

theorem blockEntry_errorKept (c : Cause) (v : ValveId) (s : State) : ErrorKept s (blockEntry c v s) := by
  unfold blockEntry
  dsimp only
  split
  · exact ((setSup_errorKept _ s).trans (bump_errorKept _ _)).trans (trip_errorKept c v _)
  · exact (((setSup_errorKept _ s).trans (bump_errorKept _ _)).trans (setSup_errorKept _ _)).trans (moveTo_errorKept _ _ _ _)

theorem protectiveEvent_errorKept (c : Cause) (v : ValveId) (s : State) : ErrorKept s (protectiveEvent c v s) := by
  unfold protectiveEvent
  split
  · exact blockEntry_errorKept c v s
  · exact blockEntry_errorKept c v s
  · exact setSup_errorKept _ s
  · exact .refl s

theorem trackerChanged_errorKept (old new : TrackerState) (s : State) : ErrorKept s (trackerChanged old new s) :=
  ite_frame (P := ErrorKept) _ ((updateItems_errorKept _ s).trans (protectiveEvent_errorKept _ _ _)) (updateItems_errorKept _ s)

theorem recover_errorKept (s : State) : ErrorKept s (recover s) :=
  (bump_errorKept .recoveries s).trans
    (ite_frame (P := ErrorKept) _ (moveTo_errorKept _ _ _ _)
      (ite_frame (P := ErrorKept) _ (moveTo_errorKept _ _ _ _) (enterOff_errorKept _ _)))

theorem countRecovery_errorKept (s : State) : ErrorKept s (countRecovery s) := by
  unfold countRecovery
  dsimp only
  split
  · exact (setSup_errorKept _ s).trans (recover_errorKept _)
  · exact setSup_errorKept _ s

theorem respondToRecord_errorKept (f : PassFlags) (s : State) : ErrorKept s (respondToRecord f s) := by
  unfold respondToRecord
  split
  · split
    · exact blockEntry_errorKept _ _ s
    · exact ite_frame (P := ErrorKept) _
        (((bump_errorKept _ s).trans (moveTo_errorKept _ _ _ _)).trans (setSup_errorKept _ _)) (.refl s)
  · split
    · exact blockEntry_errorKept _ _ s
    · exact ite_frame (P := ErrorKept) _ (setSup_errorKept _ s) ((setSup_errorKept _ s).trans (moveTo_errorKept _ _ _ _))
  · split
    · exact setSup_errorKept _ s
    · exact countRecovery_errorKept s
  · exact .refl s

theorem takeRecord_errorKept (r : PassRecord) (s : State) : ErrorKept s (takeRecord r s) :=
  (setSup_errorKept _ s).trans (respondToRecord_errorKept _ _)

/-! The positions that a phase step reaches. -/

theorem startPass_errorKept (boundary : Pos) (s : State) : ErrorKept s (startPass boundary s) :=
  ((activatePending_errorKept s).trans (setTables_errorKept _ _)).trans (setEngine_errorKept _ _)

theorem windowCompleteEvent_errorKept (boundary : Pos) (s : State) : ErrorKept s (windowCompleteEvent boundary s) :=
  ite_frame (P := ErrorKept) _ (startPass_errorKept _ s) ((bump_errorKept _ s).trans (raise_quiet _ _ _).errorKept)

theorem windowTest_errorKept (fuel : Nat) (s : State) : ErrorKept s (windowTest fuel s) := by
  induction fuel generalizing s with
  | zero => exact .refl s
  | succ fuel ih =>
    unfold windowTest
    split
    · exact .refl s
    · refine ite_frame (P := ErrorKept) _ (.trans ?_ (ih _)) (.refl s)
      have popped := fun rest => setEngine_errorKept { s.engine with pendingBoundaries := rest } s
      exact ite_frame (P := ErrorKept) _ ((popped _).trans (windowCompleteEvent_errorKept _ _))
        ((popped _).trans (bump_errorKept _ _))

theorem announceBoundary_errorKept (b : Pos) (s : State) : ErrorKept s (announceBoundary b s) :=
  ((bumpIf_errorKept _ _ s).trans (setEngine_errorKept _ _)).trans (windowTest_errorKept _ _)

theorem watchIssue_errorKept (v : ValveId) (s : State) : ErrorKept s (watchIssue v s) :=
  ite_frame (P := ErrorKept) _ (issueFire_gate v s).errorKept (.refl s)

theorem setChannel_errorKept (v : ValveId) (c : Channel) (s : State) : ErrorKept s (s.setChannel v c) :=
  (setChannel_gate v c s).errorKept

theorem loadPointAction_errorKept (v : ValveId) (s : State) : ErrorKept s (loadPointAction v s) := by
  unfold loadPointAction
  dsimp only
  split
  · exact (setChannel_errorKept v _ s).trans (bump_errorKept _ _)
  · exact (setChannel_errorKept v _ s).trans (watchIssue_errorKept v _)

theorem countMiss_errorKept (v : ValveId) (s : State) : ErrorKept s (countMiss v s).2 := by
  have counted := fun c => (setChannel_errorKept v c s).trans (bump_errorKept (.channel v 6) _)
  unfold countMiss
  dsimp only
  split
  · exact (counted _).trans (raise_quiet _ _ _).errorKept
  · exact counted _

theorem missedHalfCycle_errorKept (v : ValveId) (s : State) : ErrorKept s (missedHalfCycle v s) :=
  ((countMiss_errorKept v s).trans (loadPointAction_errorKept v _)).trans
    (ite_frame (P := ErrorKept) _ (protectiveEvent_errorKept _ v _) (.refl _))

theorem issuePositionReached_errorKept (v : ValveId) (s : State) : ErrorKept s (issuePositionReached v s) :=
  ite_frame (P := ErrorKept) _ (issueFire_gate v s).errorKept (.refl s)

theorem loadPointByState_errorKept (v : ValveId) (s : State) : ErrorKept s (loadPointByState v s) := by
  unfold loadPointByState
  split
  · exact .refl s
  · exact loadPointAction_errorKept v s
  · exact loadPointAction_errorKept v s
  · exact missedHalfCycle_errorKept v s

theorem loadPointReached_errorKept (v : ValveId) (s : State) : ErrorKept s (loadPointReached v s) :=
  ((issuePositionReached_errorKept v s).trans (setChannel_errorKept v _ _)).trans (loadPointByState_errorKept v _)

theorem timemarkReached_errorKept (s : State) : ErrorKept s (timemarkReached s) := by
  have offered := (offer_timed_gate .timemark s).errorKept
  exact offered.trans (setTracker_errorKept _ _ (by exact offered.lastE.symm))

theorem boundaryReached_errorKept (s : State) : ErrorKept s (boundaryReached s) :=
  (setTracker_errorKept _ s).trans (announceBoundary_errorKept _ _)

theorem reach_errorKept (w : Watched) (s : State) : ErrorKept s (reach w s) := by
  cases w with
  | timemark => exact timemarkReached_errorKept s
  | boundary => exact boundaryReached_errorKept s
  | loadPoint v => exact loadPointReached_errorKept v s
  | issue v => exact issuePositionReached_errorKept v s

theorem reachAll_errorKept (fuel : Nat) (s : State) : ErrorKept s (reachAll fuel s) := by
  induction fuel generalizing s with
  | zero => exact .refl s
  | succ fuel ih =>
    unfold reachAll
    split
    · exact .refl s
    · exact (reach_errorKept _ s).trans (ih _)

/-! ### The tracker at a completion (R77, R78) -/

theorem tellTracker_errorKept (old new : TrackerState) (e : Int) (s : State) : ErrorKept s (tellTracker old new e s) := by
  unfold tellTracker
  split
  · exact .refl s
  · exact (raise_quiet _ _ s).errorKept.trans (trackerChanged_errorKept _ _ _)

theorem stepG_errorKept (e : Int) (s : State) : ErrorKept s (stepG e s) :=
  (bumpIf_errorKept _ _ s).trans (setTracker_errorKept _ _)

theorem stepReaches_errorKept (step : Int) (s : State) : ErrorKept s (stepReaches step s) := by
  unfold stepReaches
  split
  · exact reachAll_errorKept _ s
  · exact .refl s

theorem stagePhase_errorKept (e : Int) (s : State) : ErrorKept s (stagePhase e s) :=
  (stepG_errorKept e s).trans (stepReaches_errorKept _ _)

theorem stageFrequency_errorKept (gain : Nat) (e : Int) (s : State) : ErrorKept s (stageFrequency gain e s) := by
  have clamped := fun x => setTracker_errorKept { s.tracker with inc := x } s
  unfold stageFrequency
  dsimp only
  split
  · exact ((clamped _).trans (bump_errorKept _ _)).trans (raise_quiet _ _ _).errorKept
  · exact clamped _

/-- In every tracker state stage 1 takes e as the last e (R77). -/
@[simp] theorem Tracker.withE_lastE (t : Tracker) (p : ParamRecord) (e : Int) : (t.withE p e).lastE = e := by
  unfold Tracker.withE
  dsimp only
  split
  · rfl
  · rfl
  · split
    · split <;> rfl
    · rfl
  · split
    · split <;> rfl
    · rfl

theorem stageState_record_lastE (e : Int) (s : State) :
    (stageState e s).engine.record = s.engine.record ∧ (stageState e s).tracker.lastE = e := by
  have told := tellTracker_errorKept s.tracker.state (s.tracker.withE s.par e).state e (s.setTracker (s.tracker.withE s.par e))
  exact ⟨told.record, told.lastE.trans (Tracker.withE_lastE _ _ _)⟩

/-- Stage 1 writes e as the last e, and the three later stages keep it (R77, R83). -/
theorem completionWithE_record_lastE (e : Int) (s : State) :
    (completionWithE e s).engine.record = s.engine.record ∧ (completionWithE e s).tracker.lastE = e := by
  obtain ⟨record, lastE⟩ := stageState_record_lastE e (bump .passesWithE s)
  have later : ErrorKept (stageState e (bump .passesWithE s)) (completionWithE e s) :=
    ((stagePhase_errorKept e _).trans (stageFrequency_errorKept _ e _)).trans (setTracker_errorKept _ _)
  exact ⟨later.record.trans record, later.lastE.trans lastE⟩

theorem giveUpHoldover_errorKept (old : TrackerState) (s : State) : ErrorKept s (giveUpHoldover old s) :=
  (setTracker_errorKept _ s).trans (tellTracker_errorKept _ _ _ _)

theorem testHoldover_errorKept (s : State) : ErrorKept s (testHoldover s) :=
  ite_frame (P := ErrorKept) _ (giveUpHoldover_errorKept _ s) (.refl s)

theorem enterHoldover_errorKept (s : State) : ErrorKept s (enterHoldover s) :=
  ((setTracker_errorKept _ s).trans (tellTracker_errorKept _ _ _ _)).trans (testHoldover_errorKept _)

/-- Without an e the tracker keeps the last one (R78). -/
theorem completionWithoutE_errorKept (s : State) : ErrorKept s (completionWithoutE s) := by
  refine (bump_errorKept .passesWithoutE s).trans ?_
  unfold completionWithoutE
  dsimp only
  split
  · exact .refl _
  · exact enterHoldover_errorKept _
  · exact enterHoldover_errorKept _
  · exact (setTracker_errorKept _ _).trans (testHoldover_errorKept _)

/-! ### The outputs of a completion (R94) -/

theorem completionNotices_errorKept (old r : PassRecord) (s : State) : ErrorKept s (completionNotices old r s) :=
  (((raiseIf_quiet _ _ _ s).trans (raiseIf_quiet _ _ _ _)).trans (raiseIf_quiet _ _ _ _)).errorKept

theorem deliverAngle_errorKept (v : ValveId) (alpha : Nat) (s : State) : ErrorKept s (deliverAngle v alpha s) := by
  refine ite_frame (P := ErrorKept) _ ?_ (setChannel_errorKept v _ s)
  unfold replaceAngle
  dsimp only
  split
  · exact (setChannel_errorKept v _ s).trans (bump_errorKept _ _)
  · exact (setChannel_errorKept v _ s).trans (watchIssue_errorKept v _)

theorem completionDelivery_errorKept (r : PassRecord) (s : State) : ErrorKept s (completionDelivery r s) :=
  ite_frame (P := ErrorKept) _ (foldl_errorKept _ (fun s v => deliverAngle_errorKept v _ s) _ s) (.refl s)

theorem countCompletion_errorKept (r : PassRecord) (s : State) : ErrorKept s (countCompletion r s) :=
  ((bump_errorKept _ s).trans (bumpIf_errorKept _ _ _)).trans
    (foldl_errorKept _
      (fun s _ => ((bumpIf_errorKept _ _ s).trans (bumpIf_errorKept _ _ _)).trans (bumpIf_errorKept _ _ _)) _ _)

theorem completionTracker_record_lastE (e : Option Int) (s : State) :
    (completionTracker e s).engine.record = s.engine.record ∧ (completionTracker e s).tracker.lastE = e.getD s.tracker.lastE := by
  cases e with
  | none => exact ⟨(completionWithoutE_errorKept s).record, (completionWithoutE_errorKept s).lastE⟩
  | some e => exact completionWithE_record_lastE e s

/-- Of the four outputs the tracker alone changes the last e. -/
theorem completionOutput_record_lastE (old r : PassRecord) (e : Option Int) (s : State) (o : PassOutput) :
    (completionOutput old r e s o).engine.record = s.engine.record
      ∧ (completionOutput old r e s o).tracker.lastE = if o = .tracker then e.getD s.tracker.lastE else s.tracker.lastE := by
  cases o with
  | notices => exact ⟨(completionNotices_errorKept old r s).record, (completionNotices_errorKept old r s).lastE⟩
  | tracker => exact completionTracker_record_lastE e s
  | delivery => exact ⟨(completionDelivery_errorKept r s).record, (completionDelivery_errorKept r s).lastE⟩
  | supervisor => exact ⟨(takeRecord_errorKept r s).record, (takeRecord_errorKept r s).lastE⟩

/-- The outputs in any order that names the tracker deliver e to it. -/
theorem completionOutputs_record_lastE (old r : PassRecord) (e : Option Int) (l : List PassOutput) (s : State) :
    (l.foldl (completionOutput old r e) s).engine.record = s.engine.record
      ∧ (l.foldl (completionOutput old r e) s).tracker.lastE
        = if .tracker ∈ l then e.getD s.tracker.lastE else s.tracker.lastE := by
  induction l generalizing s with
  | nil => exact ⟨rfl, rfl⟩
  | cons o l ih =>
    obtain ⟨headRecord, headLastE⟩ := completionOutput_record_lastE old r e s o
    obtain ⟨tailRecord, tailLastE⟩ := ih (completionOutput old r e s o)
    refine ⟨tailRecord.trans headRecord, ?_⟩
    rw [List.foldl_cons, tailLastE, headLastE]
    by_cases head : o = .tracker
    · cases e <;> simp [head]
    · simp [head, Ne.symm head]

theorem tracker_mem_completionOrder (order : List PassOutput) : .tracker ∈ completionOrder order := by
  unfold completionOrder
  split
  case isTrue isOrder =>
    have named : ∀ o ∈ PassOutput.all, o ∈ order := by
      simp only [PassOutput.isOrder, Bool.and_eq_true, List.all_eq_true, List.contains_iff_mem] at isOrder
      exact isOrder.2
    exact named .tracker (by decide)
  case isFalse => decide

/-- The record holds 0 where the pass delivers no e (R105). -/
theorem completionRecord_e (f : InFlight) (s : State) : (completionRecord f s).e = (measureFlight f).e.getD 0 := rfl

/-- The completion writes the record of the pass and hands its e to the tracker, in whatever order the outputs come (R94, R105). -/
theorem passCompletion_record_lastE (order : List PassOutput) (f : InFlight) (s : State) (h : s.engine.inFlight = some f) :
    (passCompletion order s).engine.record = completionRecord f s
      ∧ (passCompletion order s).tracker.lastE = (measureFlight f).e.getD s.tracker.lastE := by
  have counted := countCompletion_errorKept (completionRecord f s) (s.setEngine (s.engine.complete (completionRecord f s)))
  obtain ⟨record, lastE⟩ := completionOutputs_record_lastE s.engine.record (completionRecord f s) (measureFlight f).e
    (completionOrder order) (countCompletion (completionRecord f s) (s.setEngine (s.engine.complete (completionRecord f s))))
  rw [if_pos (tracker_mem_completionOrder order), counted.lastE] at lastE
  unfold passCompletion
  rw [h]
  exact ⟨(idleTest_errorKept _).record.trans (record.trans counted.record), (idleTest_errorKept _).lastE.trans lastE⟩

/-- Settles O39: the floor of the root by the invariant of its bits, and e followed through the outputs of the completion. -/
theorem magnitudeRule : Obligations.MagnitudeRule := by
  refine ⟨?_, ?_, fun f s => ⟨rfl, rfl⟩, ?_, ?_⟩
  · intro v reLower reUpper imLower imUpper
    have working : v.InRange := ⟨reLower, reUpper, imLower, imUpper⟩
    obtain ⟨lower, upper⟩ := working.magnitude_floor
    exact ⟨lower, upper, working.magnitude_le⟩
  · intro ref xs q vMin m hm
    obtain ⟨re1Lower, re1Upper, im1Lower, im1Upper⟩ := measured_v1_inRange hm
    obtain ⟨re2Lower, re2Upper, im2Lower, im2Upper⟩ := measured_v2_inRange hm
    exact ⟨measured_mag1 hm, measured_mag2 hm, re1Lower, re1Upper, im1Lower, im1Upper,
      re2Lower, re2Upper, im2Lower, im2Upper, measured_rotationFault_iff hm⟩
  · intro ref xs q vMin m hm
    refine ⟨measured_voltageInvalid hm, measured_e_none hm, fun valid present => ?_⟩
    rw [measured_e_some hm valid present, errorOf_eq]
  · intro order f s inFlight
    obtain ⟨record, lastE⟩ := passCompletion_record_lastE order f s inFlight
    refine ⟨passCompletion order s, rfl, ?_, ?_⟩
    · rw [record, completionRecord_e]
      cases (measureFlight f).e <;> rfl
    · rw [lastE]
      cases (measureFlight f).e <;> rfl

end Sys2Proof.Machine
end

section
/-! Proofs of 06_the_compensation_pass_demand_and_firing_angle.md: the branch demands (R112), the demand stage of a branch from its target to
its firing angle (R117 to R121), and L_prev through the outputs of a completion (R119, R122). -/

namespace Sys2Proof.Machine

/-! ### Rounding (00_scope.md section 5.4) -/

/-- The rounded quotient lies within half a divisor of the exact one. -/
theorem roundDiv_bounds (a : Int) {n : Nat} (h : 0 < n) :
    2 * a - n ≤ 2 * n * roundDiv a n ∧ 2 * n * roundDiv a n ≤ 2 * a + n := by
  have quotient (x : Int) : 2 * x - n < 2 * n * ((2 * x + n) / (2 * n)) ∧ 2 * n * ((2 * x + n) / (2 * n)) ≤ 2 * x + n := by
    have lower := Int.lt_mul_ediv_self_add (x := 2 * x + n) (k := 2 * n) (by omega)
    exact ⟨by omega, Int.mul_ediv_self_le (by omega)⟩
  unfold roundDiv
  split
  case isTrue => exact ⟨(quotient a).1.le, (quotient a).2⟩
  case isFalse =>
    obtain ⟨lower, upper⟩ := quotient (-a)
    rw [mul_neg]
    omega

theorem roundDiv_nonneg {a : Int} (n : Nat) (h : 0 ≤ a) : 0 ≤ roundDiv a n := by
  rw [roundDiv, if_pos h]
  exact Int.ediv_nonneg (by omega) (by omega)

theorem roundDiv_mono {a b : Int} {n : Nat} (hn : 0 < n) (h : a ≤ b) : roundDiv a n ≤ roundDiv b n := by
  obtain rfl | less := h.eq_or_lt
  · exact le_rfl
  · by_contra above
    have lower := (roundDiv_bounds b hn).1
    have upper := (roundDiv_bounds a hn).2
    have apart : 2 * (n : Int) * (roundDiv b n + 1) ≤ 2 * n * roundDiv a n :=
      mul_le_mul_of_nonneg_left (by omega) (by omega)
    rw [mul_add] at apart
    omega

/-- A whole quotient is not rounded. -/
theorem roundDiv_mul_self (k : Int) {n : Nat} (h : 0 < n) : roundDiv (k * n) n = k := by
  obtain ⟨lower, upper⟩ := roundDiv_bounds (k * n) h
  have hn : (0 : Int) < n := by omega
  refine le_antisymm ?_ ?_
  · by_contra above
    nlinarith
  · by_contra below
    nlinarith

@[simp] theorem roundDiv_zero (n : Nat) : roundDiv 0 n = 0 := by
  obtain rfl | h := n.eq_zero_or_pos
  · rfl
  · simpa using roundDiv_mul_self 0 h

/-- The rounded share fr/n of the step from u to v stays between the two. -/
theorem add_roundDiv_share_between (u v : Int) {fr n : Nat} (hn : 0 < n) (h : fr ≤ n) :
    min u v ≤ u + roundDiv ((v - u) * fr) n ∧ u + roundDiv ((v - u) * fr) n ≤ max u v := by
  have whole := roundDiv_mul_self (v - u) hn
  obtain rising | falling := le_total u v
  · have lower := roundDiv_nonneg n (show 0 ≤ (v - u) * fr from mul_nonneg (by omega) (by omega))
    have upper := roundDiv_mono hn (show (v - u) * fr ≤ (v - u) * n from mul_le_mul_of_nonneg_left (by omega) (by omega))
    omega
  · have lower := roundDiv_mono hn (show (v - u) * n ≤ (v - u) * fr from mul_le_mul_of_nonpos_left (by omega) (by omega))
    have upper := roundDiv_mono hn (show (v - u) * fr ≤ 0 from mul_nonpos_of_nonpos_of_nonneg (by omega) (by omega))
    rw [roundDiv_zero] at upper
    omega

/-! ### The branch demand (R112) -/

theorem demandT_bounds {x : Int} (lower : -32767 ≤ x) (upper : x ≤ 32767) : -56754 ≤ demandT x ∧ demandT x ≤ 56754 := by
  have near := roundDiv_bounds (56756 * x) (n := 32768) (by decide)
  unfold demandT
  omega

theorem branchDemand_bounds (b : BranchId) {i1q y t : Int} (i1qRange : -32767 ≤ i1q ∧ i1q ≤ 32767) (yRange : -32767 ≤ y ∧ y ≤ 32767)
    (tRange : -56754 ≤ t ∧ t ≤ 56754) : -40763 ≤ branchDemand b i1q y t ∧ branchDemand b i1q y t ≤ 40763 := by
  have third {a : Int} (range : -122288 ≤ a ∧ a ≤ 122288) : -40763 ≤ roundDiv a 3 ∧ roundDiv a 3 ≤ 40763 := by
    have near := roundDiv_bounds a (n := 3) (by decide)
    omega
  match b with
  | 0 => exact third (by omega)
  | 1 => exact third (by omega)
  | 2 => exact third (by omega)

/-- Without a negative-sequence current every branch has a third of I1q. -/
theorem branchDemand_balanced (b : BranchId) (i1q : Int) : branchDemand b i1q 0 (demandT 0) = roundDiv i1q 3 := by
  match b with
  | 0 => simp [branchDemand, demandT]
  | 1 => simp [branchDemand]
  | 2 => simp [branchDemand, demandT]

theorem completionRecord_t {f : InFlight} (s : State) (runs : demandRuns f (measureFlight f) = true) :
    (completionRecord f s).t = demandT (measureFlight f).x := if_pos runs

/-- Settles O37: every bound is that of the rounding to the nearest integer, taken at divisors 32768 and 3. -/
theorem branchDemandRule : Obligations.BranchDemandRule := by
  refine ⟨?_, ?_, fun f s runs => completionRecord_t s runs⟩
  · rintro i1q x y t i1qLower i1qUpper xLower xUpper yLower yUpper rfl
    obtain ⟨tLower, tUpper⟩ := demandT_bounds xLower xUpper
    refine ⟨rfl, tLower, tUpper, rfl, rfl, rfl, ?_, ?_, ?_⟩
    · exact fun b => branchDemand_bounds b ⟨i1qLower, i1qUpper⟩ ⟨yLower, yUpper⟩ ⟨tLower, tUpper⟩
    · rintro rfl rfl rfl b
      rw [branchDemand_balanced, roundDiv_zero]
    · rintro positive rfl rfl b
      have near := roundDiv_bounds i1q (n := 3) (by decide)
      rw [branchDemand_balanced]
      omega
  · intro a n positive
    have near := roundDiv_bounds a positive
    have double : 2 * (n : Int) * roundDiv a n = 2 * (roundDiv a n * n) := by ring
    omega

/-! ### The target and the slew limit (R117 to R119) -/

theorem cast_clampTarget (t : Int) (bLmax : Nat) : (clampTarget t bLmax : Int) = max 0 (min (bLmax : Int) t) := by
  unfold clampTarget
  rw [saturate_eq _ _ _ (by omega)]
  omega

theorem clampTarget_le (t : Int) (bLmax : Nat) : clampTarget t bLmax ≤ bLmax := by
  have := cast_clampTarget t bLmax
  omega

theorem slewed_flag_iff (target prev slewMax : Nat) :
    (slewed target prev slewMax).2 = true ↔ slewMax < ((target : Int) - prev).natAbs := by
  unfold slewed
  split
  case isTrue => simp only [true_iff]; omega
  case isFalse =>
    split
    · simp only [true_iff]; omega
    · simp only [Bool.false_eq_true, false_iff]; omega

/-- A limited L lies slewMax from L_prev', on the side of the target. -/
theorem slewed_of_flag {target prev slewMax : Nat} (h : (slewed target prev slewMax).2 = true) :
    ((slewed target prev slewMax).1 : Int) = if (prev : Int) < target then (prev : Int) + slewMax else prev - slewMax := by
  unfold slewed at h ⊢
  split at h
  case isTrue up => rw [if_pos up, if_pos (by omega)]; omega
  case isFalse notUp =>
    split at h
    case isTrue down => rw [if_neg notUp, if_pos down, if_neg (by omega)]; omega
    case isFalse => contradiction

theorem slewed_of_not_flag {target prev slewMax : Nat} (h : (slewed target prev slewMax).2 = false) :
    (slewed target prev slewMax).1 = target := by
  unfold slewed at h ⊢
  split at h
  case isTrue => contradiction
  case isFalse notUp =>
    split at h
    case isTrue => contradiction
    case isFalse notDown => rw [if_neg notUp, if_neg notDown]

/-- L never leaves the range that holds the target and L_prev'. -/
theorem slewed_le {target prev slewMax bLmax : Nat} (targetLe : target ≤ bLmax) (prevLe : prev ≤ bLmax) :
    (slewed target prev slewMax).1 ≤ bLmax := by
  unfold slewed
  split
  · dsimp only; omega
  · split
    · dsimp only; omega
    · exact targetLe

theorem prevWithin_le (lPrev bLmax : Nat) : prevWithin lPrev bLmax ≤ bLmax := Nat.min_le_right _ _

/-- The target of R117 in the statement's terms. -/
theorem targetOf_eq_unclampedTarget (p : ParamRecord) (d : Int) (mag1 : Nat) (src : TargetSource) (manual prev : Nat) (b : BranchId) :
    targetOf src (pLsafe p b) prev manual (pBfc p b) (gained (normalised d (pVnom p) mag1) (pKd p b))
      = unclampedTarget p d mag1 src manual prev b := by
  cases src with
  | auto => simp only [targetOf, unclampedTarget, gained, normalised, saturate_eq _ _ _ (show (-65535 : Int) ≤ 65535 by decide)]
  | _ => rfl

/-- L_safe within B_Lmax and L_prev' need no clamp. -/
theorem unclampedTarget_within {p : ParamRecord} {src : TargetSource} {prev : Nat} {b : BranchId} (d : Int) (mag1 manual : Nat)
    (notAuto : src ≠ .auto) (notManual : src ≠ .manual) (safe : src = .ramp → pLsafe p b ≤ pBlmax p b) (prevLe : prev ≤ pBlmax p b) :
    0 ≤ unclampedTarget p d mag1 src manual prev b ∧ unclampedTarget p d mag1 src manual prev b ≤ pBlmax p b := by
  cases src with
  | auto => contradiction
  | manual => contradiction
  | ramp => exact ⟨Int.natCast_nonneg _, Int.ofNat_le.mpr (safe rfl)⟩
  | _ => exact ⟨Int.natCast_nonneg _, Int.ofNat_le.mpr prevLe⟩

/-! ### The conduction fraction (R120) -/

theorem cast_conductionOf (l bLmax : Nat) : (conductionOf l bLmax : Int) = roundDiv ((l : Int) * 65536) bLmax :=
  Int.toNat_of_nonneg (roundDiv_nonneg _ (by omega))

theorem conductionOf_zero (bLmax : Nat) : conductionOf 0 bLmax = 0 := by simp [conductionOf]

theorem conductionOf_self {bLmax : Nat} (h : 1 ≤ bLmax) : conductionOf bLmax bLmax = 65536 := by
  rw [conductionOf, mul_comm, roundDiv_mul_self _ h]
  rfl

theorem conductionOf_le {l bLmax : Nat} (h : l ≤ bLmax) : conductionOf l bLmax ≤ 65536 := by
  obtain rfl | positive := bLmax.eq_zero_or_pos
  · simp [Nat.le_zero.mp h, conductionOf_zero]
  · rw [← conductionOf_self positive]
    exact Int.toNat_le_toNat (roundDiv_mono positive (by omega))

/-! ### The firing angle (R121) -/

theorem angleEntry_eq (t : AngleTable) {i : Nat} (h : i < 257) : angleEntry t i = (t[i]).toNat := by
  simp [angleEntry, h]

theorem lookupAngle_full (t : AngleTable) : lookupAngle t 65536 = (t[256]).toNat := angleEntry_eq t (by decide)

section Interpolation
variable (t : AngleTable) {i fr : Nat} (hi : i < 256) (hfr : fr < 256)
include hi hfr

theorem cast_lookupAngle : (lookupAngle t (256 * i + fr) : Int)
    = (t[i]).toNat + roundDiv (((t[i + 1]).toNat - (t[i]).toNat : Int) * fr) 256 := by
  have quotient : (256 * i + fr) / 256 = i := by omega
  have remainder : 256 * i + fr - 256 * i = fr := by omega
  have between := add_roundDiv_share_between (t[i]).toNat (t[i + 1]).toNat (n := 256) (by decide) hfr.le
  simp only [lookupAngle, quotient, remainder, if_neg hi.ne, angleEntry_eq t (show i < 257 by omega),
    angleEntry_eq t (show i + 1 < 257 by omega)]
  omega

/-- The angle lies between the two words that it is interpolated from, whichever is the larger. -/
theorem lookupAngle_between : min (t[i]).toNat (t[i + 1]).toNat ≤ lookupAngle t (256 * i + fr)
    ∧ lookupAngle t (256 * i + fr) ≤ max (t[i]).toNat (t[i + 1]).toNat := by
  have between := add_roundDiv_share_between (t[i]).toNat (t[i + 1]).toNat (n := 256) (by decide) hfr.le
  have value := cast_lookupAngle t hi hfr
  omega

end Interpolation

/-- A conduction fraction is full, or has an entry of the table below it and one above. -/
theorem lookupAngle_range (t : AngleTable) {b : Nat} (hb : b ≤ 65536)
    (words : ∀ (i : Nat) (h : i < 257), 16384 ≤ (t[i]).toNat ∧ (t[i]).toNat ≤ 32768) :
    16384 ≤ lookupAngle t b ∧ lookupAngle t b ≤ 32768 := by
  obtain rfl | below := hb.eq_or_lt
  · rw [lookupAngle_full]
    exact words 256 (by decide)
  · have between := lookupAngle_between t (i := b / 256) (fr := b % 256) (by omega) (by omega)
    rw [Nat.div_add_mod] at between
    have lower := words (b / 256) (by omega)
    have upper := words (b / 256 + 1) (by omega)
    omega

/-! ### The demand stage of a branch -/

section BranchStage
variable (p : ParamRecord) (angle : AngleTable) (i1q y t : Int) (mag1 : Nat) (src : TargetSource) (input : BranchInputs) (b : BranchId)

theorem branchStage_reactor_le : (branchStage p angle i1q y t mag1 src input b).reactor ≤ pBlmax p b :=
  slewed_le (clampTarget_le _ _) (prevWithin_le _ _)

theorem branchStage_conduction : (branchStage p angle i1q y t mag1 src input b).conduction
    = conductionOf (branchStage p angle i1q y t mag1 src input b).reactor (pBlmax p b) := rfl

theorem branchStage_conduction_le : (branchStage p angle i1q y t mag1 src input b).conduction ≤ 65536 :=
  conductionOf_le (branchStage_reactor_le p angle i1q y t mag1 src input b)

theorem branchStage_alpha : (branchStage p angle i1q y t mag1 src input b).alpha
    = lookupAngle angle (branchStage p angle i1q y t mag1 src input b).conduction := rfl

/-- The part of the demand stage before the conduction fraction, from the target of R117. -/
theorem branchStage_target {raw : Int} {prev : Nat} (hprev : prev = prevWithin input.lPrev (pBlmax p b))
    (hraw : raw = unclampedTarget p (branchDemand b i1q y t) mag1 src input.manual prev b) :
    (branchStage p angle i1q y t mag1 src input b).target = clampTarget raw (pBlmax p b)
      ∧ (branchStage p angle i1q y t mag1 src input b).capLimit = decide (raw < 0)
      ∧ (branchStage p angle i1q y t mag1 src input b).indLimit = decide ((pBlmax p b : Int) < raw)
      ∧ (branchStage p angle i1q y t mag1 src input b).reactor = (slewed (clampTarget raw (pBlmax p b)) prev (pSlewMax p b)).1
      ∧ (branchStage p angle i1q y t mag1 src input b).slew = (slewed (clampTarget raw (pBlmax p b)) prev (pSlewMax p b)).2 := by
  subst hprev hraw
  rw [← targetOf_eq_unclampedTarget]
  exact ⟨rfl, rfl, rfl, rfl, rfl⟩

/-- The demand stage computes what R112 to R121 say, from L_prev saturated to the range. -/
theorem branchStage_computed {prev : Nat} (hprev : prev = prevWithin input.lPrev (pBlmax p b)) :
    BranchComputed p angle (branchDemand b i1q y t) mag1 src input.manual prev b
      (branchStage p angle i1q y t mag1 src input b) := by
  obtain ⟨target, cap, ind, reactor, slew⟩ := branchStage_target p angle i1q y t mag1 src input b hprev rfl
  have alpha := branchStage_alpha p angle i1q y t mag1 src input b
  have within : clampTarget (unclampedTarget p (branchDemand b i1q y t) mag1 src input.manual prev b) (pBlmax p b) ≤ pBlmax p b :=
    clampTarget_le _ _
  exact {
    demand := rfl
    target := target.trans (cast_clampTarget _ _)
    capLimit := by rw [cap, decide_eq_true_iff]
    indLimit := by rw [ind, decide_eq_true_iff]
    slew := by rw [slew, target, slewed_flag_iff]
    limited := fun limited => by rw [reactor, target]; exact slewed_of_flag (slew ▸ limited)
    reached := fun free => by rw [reactor, target, slewed_of_not_flag (slew ▸ free)]
    conduction := ⟨cast_conductionOf _ _, branchStage_conduction_le p angle i1q y t mag1 src input b⟩
    full := fun full => by rw [alpha, full, lookupAngle_full]
    interpolated := fun i fr hi conduction hfr => by rw [alpha, conduction]; exact cast_lookupAngle angle hi hfr
    between := fun i fr hi conduction hfr falling => by
      have between := lookupAngle_between angle hi hfr
      rw [alpha, conduction]
      omega
    range := lookupAngle_range angle (branchStage_conduction_le p angle i1q y t mag1 src input b)
    unflagged := fun notAuto notManual safe prevLe => by
      obtain ⟨lower, upper⟩ := unclampedTarget_within (branchDemand b i1q y t) mag1 input.manual notAuto notManual safe prevLe
      rw [cap, ind, decide_eq_false_iff_not, decide_eq_false_iff_not]
      omega
    unlimited := fun wide prevLe => by
      rw [slew, ← Bool.not_eq_true, slewed_flag_iff]
      omega }

end BranchStage

/-! ### The demand stage in the record of the pass -/

/-- The source is the first row of R117 whose condition holds. -/
theorem targetSource_eq (ramp : Bool) (op : OpState) (mode : EngineMode) :
    targetSource ramp op mode = if ramp = true then .ramp else if op = .holding then .holding
      else match mode with
        | .hold => .hold
        | .auto => .auto
        | .manual => .manual := by
  cases ramp with
  | true => rfl
  | false => cases op <;> rfl

theorem anyBranch_iff (bs : Vector BranchResult 3) (flag : BranchResult → Bool) :
    anyBranch bs flag = true ↔ ∃ b : BranchId, flag bs[b] = true := by
  simp [anyBranch, Fin.exists_fin_succ, or_assoc]

section Record
variable {f : InFlight} (s : State) (runs : demandRuns f (measureFlight f) = true)
include runs

theorem completionRecord_target : (completionRecord f s).target = completionSource s := if_pos runs

theorem completionRecord_branch (b : BranchId) : (completionRecord f s).branches[b]
    = demandBranch f (measureFlight f) (completionSource s) s.engine b := by
  have computed : (completionRecord f s).branches = completionBranches true f (measureFlight f) (completionSource s) s.engine :=
    runs ▸ rfl
  rw [computed]
  match b with
  | 0 => rfl
  | 1 => rfl
  | 2 => rfl

theorem completionRecord_branchComputed (b : BranchId) {prev : Nat} (hprev : prev = min s.engine.lPrev[b] (pBlmax f.params b)) :
    BranchComputed f.params f.angle
      (branchDemand b (measureFlight f).i1q (measureFlight f).y (completionRecord f s).t) (measureFlight f).mag1
      (completionRecord f s).target s.engine.manual[b] prev b (completionRecord f s).branches[b] := by
  rw [completionRecord_t s runs, completionRecord_target s runs, completionRecord_branch s runs]
  exact branchStage_computed f.params f.angle _ _ _ _ _ (branchInputs s.engine b) b hprev

end Record

/-! ### L_prev at a completion (R119, R122)

Of the engine, the outputs of a completion change at most what a pass boundary reached by the tracker's step changes: the pending boundaries,
the pass in flight and its boundary. `SupFrame` keeps the engine whole, so what is followed here is the way of the step to the boundary. -/

/-- The engine of t is that of s but for the pending boundaries, the pass in flight and the boundary of the last pass started. -/
def EngineKept (s t : State) : Prop :=
  t.engine = { s.engine with
    pendingBoundaries := t.engine.pendingBoundaries, inFlight := t.engine.inFlight, lastBoundary := t.engine.lastBoundary }

theorem EngineKept.of_eq {s t : State} (h : t.engine = s.engine) : EngineKept s t := by
  unfold EngineKept
  rw [h]

theorem EngineKept.refl (s : State) : EngineKept s s := .of_eq rfl

theorem EngineKept.trans {s t u : State} (a : EngineKept s t) (b : EngineKept t u) : EngineKept s u := by
  unfold EngineKept at *
  rw [a] at b
  exact b

theorem EngineKept.lPrev {s t : State} (h : EngineKept s t) : t.engine.lPrev = s.engine.lPrev := by rw [h]

theorem SupFrame.engineKept {s t : State} (h : SupFrame s t) : EngineKept s t := .of_eq h.engine

theorem foldl_engineKept {α : Type} (f : State → α → State) (hf : ∀ s a, EngineKept s (f s a)) (l : List α) (s : State) :
    EngineKept s (l.foldl f s) := by
  induction l generalizing s with
  | nil => exact .refl s
  | cons a l ih => exact (hf s a).trans (ih _)

/-! A pass boundary reached. -/

theorem startPass_engineKept (boundary : Pos) (s : State) : EngineKept s (startPass boundary s) :=
  (activatePending_frame s).engineKept.trans rfl

theorem windowCompleteEvent_engineKept (boundary : Pos) (s : State) : EngineKept s (windowCompleteEvent boundary s) :=
  ite_frame (P := EngineKept) _ (startPass_engineKept _ s)
    ((EngineKept.of_eq rfl).trans (raise_quiet _ _ (bump .passesOverrun s)).engineKept)

theorem windowTest_engineKept (fuel : Nat) (s : State) : EngineKept s (windowTest fuel s) := by
  induction fuel generalizing s with
  | zero => exact .refl s
  | succ fuel ih =>
    unfold windowTest
    split
    · exact .refl s
    case _ b rest _ =>
      have popped : EngineKept s (s.setEngine { s.engine with pendingBoundaries := rest }) := rfl
      have taken := ite_frame (P := EngineKept) (windowFormed s.merge.history b) (windowCompleteEvent_engineKept b _)
        (.of_eq (bump_engine .windowsNotFormed (s.setEngine { s.engine with pendingBoundaries := rest })))
      exact ite_frame (P := EngineKept) _ ((popped.trans taken).trans (ih _)) (.refl s)

theorem announceBoundary_engineKept (b : Pos) (s : State) : EngineKept s (announceBoundary b s) := by
  have counted : EngineKept s (bumpIf (decide (2 ≤ s.engine.pendingBoundaries.length)) .windowsNotFormed s) :=
    .of_eq (bumpIf_engine _ _ s)
  have queued (x : State) (q : List Pos) : EngineKept x (x.setEngine { x.engine with pendingBoundaries := q }) := rfl
  exact (counted.trans (queued _ _)).trans (windowTest_engineKept _ _)

theorem boundaryReached_engineKept (s : State) : EngineKept s (boundaryReached s) :=
  (setTracker_frame _ s).engineKept.trans (announceBoundary_engineKept _ _)

/-! The other positions, and the channels: they leave the engine as it is. -/

theorem watchIssue_engine (v : ValveId) (s : State) : (watchIssue v s).engine = s.engine := by
  unfold watchIssue
  split
  · exact (issueFire_gate v s).engine
  · rfl

theorem issuePositionReached_engine (v : ValveId) (s : State) : (issuePositionReached v s).engine = s.engine := by
  unfold issuePositionReached
  split
  · exact (issueFire_gate v s).engine
  · rfl

theorem loadPointAction_engine (v : ValveId) (s : State) : (loadPointAction v s).engine = s.engine := by
  unfold loadPointAction
  dsimp only
  split
  · rfl
  · exact watchIssue_engine v _

theorem countMiss_engine (v : ValveId) (s : State) : (countMiss v s).2.engine = s.engine := by
  unfold countMiss
  dsimp only
  split
  · exact (raise_quiet _ _ _).engine
  · rfl

theorem misfireEvent_engine (misfired : Bool) (v : ValveId) (s : State) : (misfireEvent misfired v s).engine = s.engine := by
  cases misfired with
  | false => rfl
  | true => exact (protectiveEvent_frame .misfire v s).engine

theorem loadPointByState_engine (v : ValveId) (s : State) : (loadPointByState v s).engine = s.engine := by
  unfold loadPointByState
  split
  · rfl
  · exact loadPointAction_engine v s
  · exact loadPointAction_engine v s
  · exact (misfireEvent_engine _ v _).trans ((loadPointAction_engine v _).trans (countMiss_engine v s))

theorem loadPointReached_engine (v : ValveId) (s : State) : (loadPointReached v s).engine = s.engine :=
  (loadPointByState_engine v _).trans (issuePositionReached_engine v s)

theorem timemarkReached_engine (s : State) : (timemarkReached s).engine = s.engine := (offer_timed_gate .timemark s).engine

theorem deliverAngle_engine (v : ValveId) (alpha : Nat) (s : State) : (deliverAngle v alpha s).engine = s.engine := by
  unfold deliverAngle replaceAngle
  split
  · dsimp only
    split
    · rfl
    · exact watchIssue_engine v _
  · rfl

/-! The tracker's way through a completion (R77 to R83). -/

theorem reach_engineKept (w : Watched) (s : State) : EngineKept s (reach w s) := by
  cases w with
  | timemark => exact .of_eq (timemarkReached_engine s)
  | boundary => exact boundaryReached_engineKept s
  | loadPoint v => exact .of_eq (loadPointReached_engine v s)
  | issue v => exact .of_eq (issuePositionReached_engine v s)

theorem reachAll_engineKept (fuel : Nat) (s : State) : EngineKept s (reachAll fuel s) := by
  induction fuel generalizing s with
  | zero => exact .refl s
  | succ fuel ih =>
    unfold reachAll
    split
    · exact .refl s
    · exact (reach_engineKept _ s).trans (ih _)

theorem tellTracker_engine (old new : TrackerState) (e : Int) (s : State) : (tellTracker old new e s).engine = s.engine := by
  unfold tellTracker
  split
  · rfl
  · exact (trackerChanged_frame _ _ _).engine.trans (raise_quiet _ _ s).engine

theorem stagePhase_engineKept (e : Int) (s : State) : EngineKept s (stagePhase e s) := by
  have stepped : EngineKept s (stepG e s) := .of_eq (bumpIf_engine _ _ s)
  unfold stagePhase stepReaches
  dsimp only
  split
  · exact stepped.trans (reachAll_engineKept _ _)
  · exact stepped

theorem stageFrequency_engine (gain : Nat) (e : Int) (s : State) : (stageFrequency gain e s).engine = s.engine := by
  unfold stageFrequency
  dsimp only
  split
  · exact (raise_quiet _ _ _).engine
  · rfl

theorem completionWithE_engineKept (e : Int) (s : State) : EngineKept s (completionWithE e s) := by
  have told : EngineKept s (stageState e (bump .passesWithE s)) := .of_eq (tellTracker_engine _ _ _ _)
  exact (told.trans (stagePhase_engineKept e _)).trans (.of_eq (stageFrequency_engine _ e _))

theorem testHoldover_engine (s : State) : (testHoldover s).engine = s.engine := by
  unfold testHoldover
  split
  · exact tellTracker_engine _ _ _ _
  · rfl

theorem enterHoldover_engine (s : State) : (enterHoldover s).engine = s.engine :=
  (testHoldover_engine _).trans (tellTracker_engine _ _ _ _)

theorem completionWithoutE_engine (s : State) : (completionWithoutE s).engine = s.engine := by
  unfold completionWithoutE
  dsimp only
  split
  · rfl
  · exact enterHoldover_engine _
  · exact enterHoldover_engine _
  · exact testHoldover_engine _

theorem completionTracker_engineKept (e : Option Int) (s : State) : EngineKept s (completionTracker e s) := by
  cases e with
  | none => exact .of_eq (completionWithoutE_engine s)
  | some e => exact completionWithE_engineKept e s

/-! The completion (R94). -/

theorem completionNotices_engine (old r : PassRecord) (s : State) : (completionNotices old r s).engine = s.engine :=
  (((raiseIf_quiet _ _ _ s).trans (raiseIf_quiet _ _ _ _)).trans (raiseIf_quiet _ _ _ _)).engine

theorem completionDelivery_engineKept (r : PassRecord) (s : State) : EngineKept s (completionDelivery r s) :=
  ite_frame (P := EngineKept) _ (foldl_engineKept _ (fun s v => .of_eq (deliverAngle_engine v _ s)) _ s) (.refl s)

theorem countCompletion_engine (r : PassRecord) (s : State) : (countCompletion r s).engine = s.engine := by
  simp [countCompletion, branchIds, countBranch]

theorem completionOutput_engineKept (old r : PassRecord) (e : Option Int) (s : State) (o : PassOutput) :
    EngineKept s (completionOutput old r e s o) := by
  cases o with
  | notices => exact .of_eq (completionNotices_engine old r s)
  | tracker => exact completionTracker_engineKept e s
  | delivery => exact completionDelivery_engineKept r s
  | supervisor => exact (takeRecord_frame r s).engineKept

/-- The outputs of a completion, in whatever order, leave the L_prev that the completion wrote. -/
theorem passCompletion_lPrev (order : List PassOutput) {f : InFlight} {s : State} (h : s.engine.inFlight = some f) :
    (passCompletion order s).engine.lPrev = (s.engine.complete (completionRecord f s)).lPrev := by
  have counted : EngineKept _ (countCompletion (completionRecord f s) (s.setEngine (s.engine.complete (completionRecord f s)))) :=
    .of_eq (countCompletion_engine _ _)
  have outputs := foldl_engineKept _ (completionOutput_engineKept s.engine.record (completionRecord f s) (measureFlight f).e)
    (completionOrder order) (countCompletion (completionRecord f s) (s.setEngine (s.engine.complete (completionRecord f s))))
  unfold passCompletion
  rw [h]
  exact ((counted.trans outputs).trans (idleTest_frame _).engineKept).lPrev

/-- Delivered are the passes whose source is the ramp order, AUTO or MANUAL (R117). -/
theorem TargetSource.delivers_iff (src : TargetSource) : src.delivers = true ↔ src = .ramp ∨ src = .auto ∨ src = .manual := by
  cases src <;> decide

/-- A delivered pass stores its L, any other keeps L_prev (R119). -/
theorem Engine.complete_lPrev (e : Engine) (r : PassRecord) (b : BranchId) : (e.complete r).lPrev[b]
    = if r.target = .ramp ∨ r.target = .auto ∨ r.target = .manual then (r.branches[b]).reactor else e.lPrev[b] := by
  simp only [Engine.complete, completionDelivers, TargetSource.delivers_iff]
  split
  · match b with
    | 0 => rfl
    | 1 => rfl
    | 2 => rfl
  · rfl

/-- Settles O38: the stage of a branch field by field, read off in the record, and L_prev kept by every output of the completion. -/
theorem conductionRule : Obligations.ConductionRule := by
  refine ⟨?_, ?_, ?_, ?_⟩
  · intro l bLmax within positive
    exact ⟨cast_conductionOf l bLmax, conductionOf_le within, conductionOf_zero bLmax, conductionOf_self positive⟩
  · intro p angle i1q y t mag1 src input b
    exact ⟨branchStage_reactor_le p angle i1q y t mag1 src input b, branchStage_conduction p angle i1q y t mag1 src input b⟩
  · rintro f s r m rfl rfl runs
    exact ⟨(completionRecord_target s runs).trans (targetSource_eq _ _ _), anyBranch_iff _ _, anyBranch_iff _ _, anyBranch_iff _ _,
      fun b prev hprev => completionRecord_branchComputed s runs b hprev⟩
  · rintro order f s r inFlight rfl
    refine ⟨passCompletion order s, rfl, (passCompletion_record_lastE order f s inFlight).1, fun b => ?_⟩
    rw [passCompletion_lPrev order inFlight, Engine.complete_lPrev]

end Sys2Proof.Machine
end

section
/-! What keeps an invariant, part 1: one predicate on states, followed through every operation of the part that the supervisor, the channels,
the table store and the notice unit perform. A predicate is stable where the updates listed below keep it; each composed operation then
keeps it by one lemma, whatever the predicate is. -/

namespace Sys2Proof.Machine

/-- The updates of notices, replies, reports and BLOCK commands keep P: a counter word, a notice entry, a frame without FIRE commands placed in
a queue with room, a BLOCK or DEBLOCK command joined to the tail GATE frame, and a channel that leaves BLOCKED through none of them. -/
structure GateStable (P : State → Prop) : Prop where
  counters : ∀ s cs, P s → P { s with counters := cs }
  notice : ∀ s n e, P s → P (s.setNotice n e)
  place : ∀ s p c f, f.fires = [] → offerOutcome p c s = .placed → P s → P (s.modPort p (fun x => x.setQueue c (x.queue c ++ [f])))
  append : ∀ s c q, c.isFire = false → appendToTail s.ps.timed c = some q → P s → P (s.modPort .south (fun x => { x with timed := q }))
  channel : ∀ s v c, ((s.channel v).state = .blocked → c.state = .blocked) → (c.misses ≤ 15 ∨ c.misses = (s.channel v).misses) →
    P s → P (s.setChannel v c)

/-- An operation that keeps P on each element keeps it over a list. -/
theorem foldl_keeps {α : Type} {P : State → Prop} (f : State → α → State) (hf : ∀ s a, P s → P (f s a)) (l : List α) (s : State)
    (h : P s) : P (l.foldl f s) := by
  induction l generalizing s with
  | nil => exact h
  | cons a l ih => exact ih _ (hf s a h)

theorem ite_keeps {P : State → Prop} {t u : State} (b : Bool) (ht : b = true → P t) (hu : b = false → P u) :
    P (if b then t else u) := by
  cases b with
  | true => exact ht rfl
  | false => exact hu rfl

/-- An offer leaves the channels as they are. -/
theorem offer_channels (p : PortId) (c : TxClass) (f : Frame) (s : State) : (offer p c f s).channels = s.channels := by
  have quiet : (offerQuiet p c f s).channels = s.channels := by
    unfold offerQuiet
    split <;> simp
  unfold offer
  split
  · exact (raiseIf_quiet _ _ _ _).channels.trans quiet
  · exact quiet

theorem GateCommand.code_ne_fire (c : GateCommand) (plain : c.isFire = false) : c.code ≠ .fire := by
  simpa [GateCommand.isFire] using plain

/-- A BLOCK or DEBLOCK that PS does not send is counted, and leaves the channels as they are (R151). -/
theorem reportNotSent_plain (c : GateCommand) (plain : c.isFire = false) (s : State) : reportNotSent c s = bumpChannel c.valve 3 s := by
  have code := c.code_ne_fire plain
  unfold reportNotSent
  split
  · contradiction
  · rfl

/-- A BLOCK or DEBLOCK command issued leaves the channels as they are (R35, R36, R151). -/
theorem issueGate_plain_channels (c : GateCommand) (plain : c.isFire = false) (s : State) : (issueGate c s).channels = s.channels := by
  have lost : (reportNotSent c (offer .south .timed (.gate [c]) s)).channels = s.channels := by
    rw [reportNotSent_plain c plain]
    exact offer_channels _ _ _ s
  unfold issueGate
  split
  · exact lost
  · split
    · exact State.modPort_channels s _ _
    · split
      · exact offer_channels _ _ _ s
      · exact (raiseIf_quiet _ _ _ _).channels.trans lost

theorem issueGate_plain_channel (c : GateCommand) (plain : c.isFire = false) (s : State) (v : ValveId) :
    (issueGate c s).channel v = s.channel v :=
  congrArg (fun cs : Vector Channel 6 => cs[v]) (issueGate_plain_channels c plain s)

namespace GateStable
variable {P : State → Prop} (k : GateStable P)
include k

theorem bump (c : Counter) (s : State) (h : P s) : P (bump c s) := k.counters s _ h

theorem bumpIf (b : Bool) (c : Counter) (s : State) (h : P s) : P (bumpIf b c s) := ite_keeps b (fun _ => k.bump c s h) (fun _ => h)

theorem offerQuiet (p : PortId) (c : TxClass) (f : Frame) (s : State) (plain : f.fires = []) (h : P s) : P (offerQuiet p c f s) := by
  unfold Machine.offerQuiet
  split
  · exact k.place s p c f plain ‹_› h
  · exact k.bump _ s h
  · exact k.bump _ s h

theorem sendNotice (n : SourceId) (r : Nat) (d : Word) (s : State) (h : P s) : P (sendNotice n r d s) := by
  unfold Machine.sendNotice
  dsimp only
  split
  · exact k.bump _ _ (k.notice _ _ _ (k.offerQuiet _ _ _ s rfl h))
  · exact k.bump _ _ (k.notice _ _ _ (k.offerQuiet _ _ _ s rfl h))

theorem raise (n : SourceId) (d : Word) (s : State) (h : P s) : P (raise n d s) :=
  ite_keeps _ (fun _ => ite_keeps _ (fun _ => k.notice s _ _ h) (fun _ => k.sendNotice n 0 d s h)) (fun _ => h)

theorem raiseIf (b : Bool) (n : SourceId) (d : Word) (s : State) (h : P s) : P (raiseIf b n d s) :=
  ite_keeps b (fun _ => k.raise n d s h) (fun _ => h)

theorem offer (p : PortId) (c : TxClass) (f : Frame) (s : State) (plain : f.fires = []) (h : P s) : P (offer p c f s) := by
  unfold Machine.offer
  split
  · exact k.raiseIf _ _ _ _ (k.offerQuiet p c f s plain h)
  · exact k.offerQuiet p c f s plain h

theorem answer (posted : Bool) (r : Request) (st : Status) (d : List Word) (s : State) (h : P s) : P (answer posted r st d s) :=
  ite_keeps posted (fun _ => k.raiseIf _ _ _ s h) (fun _ => k.offer _ _ _ s rfl h)

theorem countReport (v : ValveId) (r : FireReport) (s : State) (h : P s) : P (countReport v r s) := by
  cases r with
  | sentLate => exact k.bump _ _ (k.bump _ s h)
  | sent => exact k.bump _ s h
  | skipped => exact k.bump _ s h
  | notSent => exact k.bump _ s h

/-- A report changes a channel only where it is in ISSUED (R138). -/
theorem reportFire (c : GateCommand) (r : FireReport) (s : State) (h : P s) : P (reportFire c r s) := by
  unfold Machine.reportFire
  dsimp only
  refine k.countReport _ _ _ (ite_keeps _ (fun current => ?_) (fun _ => h))
  have issued : (s.channel c.valve).state = .issued := by
    simp only [Channel.isCurrent, Bool.and_eq_true, beq_iff_eq] at current
    exact current.1
  refine k.channel s _ _ (fun blocked => by rw [issued] at blocked; cases blocked) (.inr ?_) h
  cases r <;> rfl

theorem reportNotSent (c : GateCommand) (s : State) (h : P s) : P (reportNotSent c s) := by
  unfold Machine.reportNotSent
  split
  · exact k.reportFire c _ s h
  · exact k.bump _ s h

theorem reportFrameNotSent (f : Frame) (s : State) (h : P s) : P (reportFrameNotSent f s) := by
  cases f with
  | gate cs => exact foldl_keeps _ (fun s c => k.reportNotSent c s) cs s h
  | _ => exact h

theorem reportPurged (cs : List GateCommand) (s : State) (h : P s) : P (reportPurged cs s) :=
  foldl_keeps _ (fun s c => k.reportFire c _ s) cs s h

theorem countDrops (p : PortId) (c : TxClass) (q : List Frame) (s : State) (h : P s) : P (countDrops p c q s) :=
  foldl_keeps _ (fun s _ => k.bump _ s) q s h

/-- A gate command issued keeps P where its placing and its joining to the tail frame do (R35, R36). -/
theorem issueGate_of (c : GateCommand)
    (placed : ∀ s, offerOutcome .south .timed s = .placed → P s →
      P (s.modPort .south (fun x => x.setQueue .timed (x.queue .timed ++ [.gate [c]]))))
    (appended : ∀ s q, appendToTail s.ps.timed c = some q → P s → P (s.modPort .south (fun x => { x with timed := q })))
    (s : State) (h : P s) : P (issueGate c s) := by
  have quiet (s : State) (h : P s) : P (Machine.offerQuiet .south .timed (.gate [c]) s) := by
    unfold Machine.offerQuiet
    split
    · exact placed s ‹_› h
    · exact k.bump _ s h
    · exact k.bump _ s h
  have offered (s : State) (h : P s) : P (Machine.offer .south .timed (.gate [c]) s) := by
    unfold Machine.offer
    split
    · exact k.raiseIf _ _ _ _ (quiet s h)
    · exact quiet s h
  unfold issueGate
  split
  · exact k.reportNotSent c _ (offered s h)
  · split
    · exact appended s _ ‹_› h
    · split
      · exact offered s h
      · exact k.raiseIf _ _ _ _ (k.reportNotSent c _ (offered s h))

/-- A BLOCK or DEBLOCK command issued. -/
theorem issueGate (c : GateCommand) (plain : c.isFire = false) (s : State) (h : P s) : P (issueGate c s) :=
  k.issueGate_of c (fun s placed h => k.place s _ _ _ (by simp [Frame.fires, plain]) placed h)
    (fun s q appended h => k.append s c q plain appended h) s h

theorem blockChannel (v : ValveId) (s : State) (h : P s) : P (blockChannel v s) := by
  refine ite_keeps _ (fun _ => h) (fun _ => ?_)
  exact k.channel _ v _ (fun _ => rfl) (.inr (by rw [issueGate_plain_channel _ rfl])) (k.issueGate _ rfl s h)

theorem blockAll (s : State) (h : P s) : P (blockAll s) := foldl_keeps _ (fun s v => k.blockChannel v s) _ s h

end GateStable

/-- The supervisor's own updates within a state: the operating state stays, and the bounds of `SupInv` hold where they held. -/
def SupStays (u w : Supervisor) : Prop := w.state = u.state ∧ (SupInv u → SupInv w)

/-- A predicate that the supervisor, the channels, the table store, the tracker and the engine keep: what gate commands keep, and each move of
the operating state and update of one block, with what the block's invariant needs. -/
structure CoreStable (P : State → Prop) : Prop extends GateStable P where
  issue : ∀ s v, (s.channel v).state ≠ .blocked → P s → P (issueFire v s)
  sup : ∀ s u, SupStays s.sup u → P s → P (s.setSup u)
  move : ∀ s new c v, new ≠ .tripped → s.sup.state ≠ .tripped → (s.sup.state = .holding → s.sup.ramp = true → new = .holding) →
    P s → P (moveTo new c v s)
  block : ∀ s c v, s.sup.state.fires = true → P s → P (blockEntry c v s)
  clearTrip : ∀ s c h, s.sup.state = .tripped → h.length = s.sup.history.length → P s →
    P (moveTo .off c 0 (s.setSup { s.sup with trip := { s.sup.trip with latched := false }, history := h }))
  tables : ∀ s t, P s → P (s.setTables t)
  tracker : ∀ s t, (TrackerInv s.tracker → TrackerInv t) → P s → P (s.setTracker t)
  pace : ∀ s x, x.count = s.pace.count → P s → P (s.setPace x)
  engine : ∀ s e, (e.pendingBoundaries.length ≤ 2 ∨ e.pendingBoundaries.length ≤ s.engine.pendingBoundaries.length) →
    P s → P (s.setEngine e)

/-- The supervisor's items change in any way that leaves NOT_TRIPPED (R172). -/
theorem SupStays.items {u : Supervisor} (i : Permissives) (h : i.notTripped = u.items.notTripped) : SupStays u { u with items := i } :=
  ⟨rfl, fun inv => ⟨inv.history, inv.recovery, inv.holding, h.trans inv.notTripped, inv.latched, inv.ramp⟩⟩

theorem SupStays.recovery {u : Supervisor} {n : Nat} (h : n ≤ 255) : SupStays u { u with recovery := n } :=
  ⟨rfl, fun inv => ⟨inv.history, h, inv.holding, inv.notTripped, inv.latched, inv.ramp⟩⟩

/-- Holding count and ramp order cleared (R177, R182). -/
theorem SupStays.holdingCleared (u : Supervisor) : SupStays u { u with holding := 0, ramp := false } :=
  ⟨rfl, fun inv => ⟨inv.history, inv.recovery, by simp, inv.notTripped, inv.latched, by simp⟩⟩

theorem SupStays.holdingCounted {u : Supervisor} {n : Nat} {b : Bool} (state : u.state = .holding) (h : n ≤ 255) :
    SupStays u { u with holding := n, ramp := b } :=
  ⟨rfl, fun inv => ⟨inv.history, inv.recovery, h, inv.notTripped, inv.latched, fun _ => state⟩⟩

/-- The counts of a STOP (R184). -/
theorem SupStays.stopped (u : Supervisor) : SupStays u { u with recovery := 0, holding := 0, ramp := false } :=
  ⟨rfl, fun inv => ⟨inv.history, by simp, by simp, inv.notTripped, inv.latched, by simp⟩⟩

/-- A record's number taken, and the history expired (R175, R178). -/
theorem SupStays.record {u : Supervisor} (n : Half) (h : List HistoryEntry) (length : h.length = u.history.length) :
    SupStays u { u with lastPass := n, history := h } :=
  ⟨rfl, fun inv => ⟨length ▸ inv.history, inv.recovery, inv.holding, inv.notTripped, inv.latched, inv.ramp⟩⟩

/-- The tracker set FREE meets its bounds (R84). -/
theorem TrackerInv.setFree {t : Tracker} (h : TrackerInv t) : TrackerInv t.setFree :=
  ⟨by simp [Tracker.setFree, incNominal], by simp [Tracker.setFree], by simp [Tracker.setFree], by simp [Tracker.setFree],
    by simp [Tracker.setFree], h.step, h.error⟩

/-- Bounds that do not name a field stay with it. -/
theorem TrackerInv.positions {t : Tracker} (g : BitVec 48) (a b : Pos) (h : TrackerInv t) :
    TrackerInv { t with g48 := g, nextTimemark := a, nextBoundary := b } :=
  ⟨h.inc, h.gain, h.lockRun, h.unlockRun, h.holdover, h.step, h.error⟩

theorem QuietFrame.channel {s t : State} (h : QuietFrame s t) (v : ValveId) : t.channel v = s.channel v :=
  congrArg (fun cs : Vector Channel 6 => cs[v]) h.channels

/-- A miss counted leaves the channel's state (R146). -/
theorem countMiss_state (v : ValveId) (s : State) : ((countMiss v s).2.channel v).state = (s.channel v).state := by
  have counted (c : Channel) : (bumpChannel v 6 (s.setChannel v c)).channel v = c := State.channel_setChannel s v c
  unfold countMiss
  dsimp only
  split
  · rw [(raise_quiet _ _ _).channel, counted]
  · rw [counted]

theorem saturate_bounds (lo hi x : Int) (h : lo ≤ hi) : lo ≤ saturate lo hi x ∧ saturate lo hi x ≤ hi := by
  rw [saturate_eq _ _ _ h]
  omega

theorem incClamped_bounds (x : Int) : 30198989 ≤ incClamped x ∧ incClamped x ≤ 36909875 := by
  have bounds := saturate_bounds incMin incMax x (by decide)
  simp only [incMin, incMax] at bounds
  unfold incClamped incMin incMax
  omega

theorem gainAfter_le (p : ParamRecord) (e : Int) {gain : Nat} (h : gain ≤ 3) : gainAfter p gain e ≤ 3 := by
  unfold gainAfter
  split
  · omega
  · split <;> omega

/-- The runs of R77 stay in their bounds in every state of the tracker. -/
theorem TrackerInv.withE {t : Tracker} (h : TrackerInv t) (p : ParamRecord) {e : Int} (lower : -8192 ≤ e) (upper : e ≤ 8192) :
    TrackerInv (t.withE p e) := by
  have bit_le (b : Bool) : bit b ≤ 1 := by cases b <;> decide
  have small := bit_le (decide (e.natAbs ≤ pLockThreshold p))
  obtain ⟨inc, gain, ⟨lock, pull⟩, ⟨unlock, locked⟩, holdover, step, -⟩ := h
  unfold Tracker.withE
  dsimp only
  split
  · exact ⟨inc, le_rfl, ⟨by simp; omega, by simp; omega⟩, ⟨unlock, by simp⟩, holdover, step, lower, upper⟩
  · exact ⟨inc, gain, ⟨by simp; omega, by simp; omega⟩, ⟨unlock, by simp⟩, by simp, step, lower, upper⟩
  · next state =>
    have run := pull state
    split
    · split
      · exact ⟨inc, gain, ⟨by simp; omega, by simp⟩, ⟨by simp, by simp⟩, holdover, step, lower, upper⟩
      · exact ⟨inc, gain, ⟨by simp; omega, by simp; omega⟩, ⟨unlock, by simp [state]⟩, holdover, step, lower, upper⟩
    · exact ⟨inc, gain, ⟨by simp, by simp⟩, ⟨unlock, by simp [state]⟩, holdover, step, lower, upper⟩
  · next state =>
    have run := locked state
    split
    · split
      · exact ⟨inc, gain, ⟨by simp, by simp⟩, ⟨by simp; omega, by simp⟩, holdover, step, lower, upper⟩
      · exact ⟨inc, gain, ⟨lock, by simp [state]⟩, ⟨by simp; omega, by simp; omega⟩, holdover, step, lower, upper⟩
    · exact ⟨inc, gain, ⟨lock, by simp [state]⟩, ⟨by simp, by simp⟩, holdover, step, lower, upper⟩

/-- The e that a pass delivers lies in its range (R105). -/
theorem measureFlight_e_bounds {f : InFlight} {e : Int} (h : (measureFlight f).e = some e) : -8192 ≤ e ∧ e ≤ 8192 := by
  have measured := measured_e (m := measureFlight f) rfl
  rw [h] at measured
  split at measured
  · obtain rfl := Option.some.inj measured
    rw [errorOf_eq]
    split
    · omega
    · split <;> omega
  · cases measured

namespace CoreStable
variable {P : State → Prop} (k : CoreStable P)
include k

/-! ### The supervisor's permissives, the table store -/

theorem setItems (f : Permissives → Permissives) (s : State) (kept : (f s.sup.items).notTripped = s.sup.items.notTripped) (h : P s) :
    P (setItems f s) := k.sup s _ (.items _ kept) h

theorem evalOff (s : State) (h : P s) : P (evalOff s) := by
  refine ite_keeps _ (fun due => ?_) (fun _ => h)
  have off : s.sup.state = .off := by
    simp only [Bool.and_eq_true, beq_iff_eq] at due
    exact due.1
  exact k.move s _ _ _ (by simp) (by simp [off]) (by simp [off]) h

theorem recordResult (id : TableId) (n : CommitState) (r : CommitResult) (f : Nat) (s : State) (h : P s) :
    P (recordResult id n r f s) := k.raise _ _ _ (k.tables s _ h)

theorem applyFnChange (s : State) (h : P s) : P (applyFnChange s) := by
  have retimed : P ((s.setPace (s.pace.retime (pFn s.par))).setTracker s.tracker.setFree) :=
    k.tracker _ _ TrackerInv.setFree (k.pace s _ rfl h)
  exact ite_keeps _ (fun _ => retimed) (fun _ => k.evalOff _ (k.setItems _ _ rfl (k.raise _ _ _ retimed)))

theorem activationEffects (before : ParamRecord) (s : State) (h : P s) : P (activationEffects before s) := by
  have fn : P (if pFn before == pFn s.par then s else Machine.applyFnChange s) :=
    ite_keeps _ (fun _ => h) (fun _ => k.applyFnChange s h)
  exact ite_keeps _ (fun _ => fn) (fun _ => k.tracker _ _ (TrackerInv.positions _ _ _) fn)

theorem activateParams (s : State) (h : P s) : P (activateParams s) :=
  k.evalOff _ (k.setItems _ _ rfl (k.activationEffects _ _ (k.recordResult _ _ _ _ _ (k.tables s _ h))))

theorem activate (id : TableId) (s : State) (h : P s) : P (activate id s) := by
  cases id with
  | angle => exact k.evalOff _ (k.setItems _ _ rfl (k.recordResult _ _ _ _ _ (k.tables s _ h)))
  | reference => exact k.recordResult _ _ _ _ _ (k.tables s _ h)
  | parameters => exact ite_keeps _ (fun _ => k.activateParams s h) (fun _ => k.recordResult _ _ _ _ s h)

theorem activateIfPending (id : TableId) (s : State) (h : P s) : P (activateIfPending id s) :=
  ite_keeps _ (fun _ => k.activate id s h) (fun _ => h)

theorem activatePending (s : State) (h : P s) : P (activatePending s) :=
  k.activateIfPending _ _ (k.activateIfPending _ _ (k.activateIfPending _ s h))

theorem idleTest (s : State) (h : P s) : P (idleTest s) := ite_keeps _ (fun _ => k.activatePending s h) (fun _ => h)

theorem checkCompletion (id : TableId) (s : State) (h : P s) : P (checkCompletion id s) := by
  refine ite_keeps _ (fun _ => ?_) (fun _ => h)
  have stored := fun t => k.tables s t h
  split
  · exact k.recordResult _ _ _ _ _ (stored _)
  · exact ite_keeps _ (fun _ => k.activate id _ (stored _)) (fun _ => k.recordResult _ _ _ _ _ (stored _))

/-! ### The supervisor -/

/-- An entry into OFF from a state other than TRIPPED, with the ramp order clear (R173, R187). -/
theorem enterOff (c : Cause) (s : State) (live : s.sup.state ≠ .tripped) (level : s.sup.state = .holding → s.sup.ramp = false)
    (h : P s) : P (enterOff c s) :=
  k.evalOff _ (k.idleTest _ (k.move s _ _ _ (by simp) live (fun holding ramp => by simp [level holding] at ramp) h))

theorem evaluate (s : State) (h : P s) : P (evaluate s) := by
  unfold Machine.evaluate
  split
  · exact k.evalOff s h
  · next ready => exact ite_keeps _ (fun _ => h) (fun _ => k.enterOff _ s (by simp [ready]) (by simp [ready]) h)
  · exact h

theorem updateItems (f : Permissives → Permissives) (s : State) (kept : (f s.sup.items).notTripped = s.sup.items.notTripped)
    (h : P s) : P (updateItems f s) := k.evaluate _ (k.setItems f s kept h)

theorem protectiveEvent (c : Cause) (v : ValveId) (s : State) (h : P s) : P (protectiveEvent c v s) := by
  unfold Machine.protectiveEvent
  split
  · next state => exact k.block s c v (by rw [state]; rfl) h
  · next state => exact k.block s c v (by rw [state]; rfl) h
  · exact k.sup s _ (.recovery (by simp)) h
  · exact h

theorem trackerChanged (old new : TrackerState) (s : State) (h : P s) : P (trackerChanged old new s) := by
  have updated := k.updateItems (fun i => { i with tracker := new == .locked }) s rfl h
  exact ite_keeps _ (fun _ => k.protectiveEvent _ _ _ updated) (fun _ => updated)

theorem psChanged (old new : LinkState) (s : State) (h : P s) : P (psChanged old new s) := by
  have updated := k.updateItems (fun i => { i with link := new == .up }) s rfl h
  exact ite_keeps _ (fun _ => k.protectiveEvent _ _ _ updated) (fun _ => updated)

theorem enterHolding (s : State) (running : s.sup.state = .running) (h : P s) : P (enterHolding s) :=
  k.sup _ _ (.holdingCounted (moveTo_state _ _ _ _) (by simp))
    (k.move _ _ _ _ (by simp) (by simp [running]) (by simp) (k.bump _ s h))

theorem leaveHolding (s : State) (holding : s.sup.state = .holding) (h : P s) : P (leaveHolding s) :=
  k.move _ _ _ _ (by simp) (by simp [holding]) (by simp) (k.sup s _ (.holdingCleared _) h)

theorem recover (s : State) (blocked : s.sup.state = .blocked) (h : P s) : P (recover s) := by
  have counted := k.bump .recoveries s h
  refine ite_keeps _ (fun _ => ?_) (fun _ => ite_keeps _ (fun _ => ?_) (fun _ => ?_))
  · exact k.move _ _ _ _ (by simp) (by simp [blocked]) (by simp [blocked]) counted
  · exact k.move _ _ _ _ (by simp) (by simp [blocked]) (by simp [blocked]) counted
  · exact k.enterOff _ _ (by simp [blocked]) (by simp [blocked]) counted

theorem countRecovery (s : State) (blocked : s.sup.state = .blocked) (h : P s) : P (countRecovery s) := by
  have counted := k.sup s { s.sup with recovery := min 255 (s.sup.recovery + 1) } (.recovery (by omega)) h
  unfold Machine.countRecovery
  dsimp only
  split
  · exact k.recover _ blocked counted
  · exact counted

theorem respondToRecord (f : PassFlags) (s : State) (h : P s) : P (respondToRecord f s) := by
  unfold Machine.respondToRecord
  split
  · next state =>
    split
    · exact k.block s _ _ (by rw [state]; rfl) h
    · exact ite_keeps _ (fun _ => k.enterHolding s state h) (fun _ => h)
  · next state =>
    split
    · exact k.block s _ _ (by rw [state]; rfl) h
    · exact ite_keeps _ (fun _ => k.sup s _ (.holdingCounted state (by omega)) h) (fun _ => k.leaveHolding s state h)
  · next state =>
    split
    · exact k.sup s _ (.recovery (by simp)) h
    · exact k.countRecovery s state h
  · exact h

theorem takeRecord (r : PassRecord) (s : State) (h : P s) : P (takeRecord r s) :=
  k.respondToRecord _ _ (k.sup s _ (.record _ _ (by simp [expireHistory])) h)

theorem startEffect (s : State) (h : P s) : P (startEffect s).2 := by
  unfold Machine.startEffect
  split
  · next ready =>
    have ready : s.sup.state = .ready := by simpa using ready
    exact k.move s .running _ _ (by simp) (by simp [ready]) (by simp [ready]) h
  · exact h

theorem stopEffect (s : State) (h : P s) : P (stopEffect s).2 := by
  have cleared := k.sup s _ (.stopped _) h
  unfold Machine.stopEffect
  split
  · exact h
  · exact h
  · exact h
  · next live =>
    exact ite_keeps _ (fun _ => k.move _ _ _ _ (by simp) live (by simp) cleared) (fun _ => k.enterOff _ _ live (by simp) cleared)

theorem resetTripEffect (s : State) (h : P s) : P (resetTripEffect s).2 := by
  unfold Machine.resetTripEffect
  split
  · next tripped =>
    exact k.evalOff _ (k.idleTest _ (k.clearTrip s _ _ (by simpa using tripped) (by simp) h))
  · exact h

/-! ### The engine between passes -/

theorem startPass (b : Pos) (s : State) (h : P s) : P (startPass b s) :=
  k.engine _ _ (.inr le_rfl) (k.tables _ _ (k.activatePending s h))

theorem windowCompleteEvent (b : Pos) (s : State) (h : P s) : P (windowCompleteEvent b s) :=
  ite_keeps _ (fun _ => k.startPass b s h) (fun _ => k.raise _ _ _ (k.bump _ s h))

theorem windowTest (fuel : Nat) (s : State) (h : P s) : P (windowTest fuel s) := by
  induction fuel generalizing s with
  | zero => exact h
  | succ fuel ih =>
    unfold Machine.windowTest
    split
    · exact h
    · next b rest pending =>
      have popped : P (s.setEngine { s.engine with pendingBoundaries := rest }) :=
        k.engine s _ (.inr (by simp [pending])) h
      exact ite_keeps _
        (fun _ => ih _ (ite_keeps _ (fun _ => k.windowCompleteEvent b _ popped) (fun _ => k.bump _ _ popped))) (fun _ => h)

theorem testWindows (s : State) (h : P s) : P (testWindows s) := k.windowTest _ s h

theorem announceBoundary (b : Pos) (s : State) (h : P s) : P (announceBoundary b s) := by
  refine k.testWindows _ (k.engine _ _ (.inl ?_) (k.bumpIf _ _ s h))
  by_cases two : 2 ≤ s.engine.pendingBoundaries.length
  · simp only [two, if_true, List.length_append, List.length_drop, List.length_singleton]
    omega
  · simp only [two, if_false, List.length_append, List.length_singleton]
    omega

/-! ### The firing channels -/

theorem issueIfArmed (v : ValveId) (s : State) (h : P s) : P (issueIfArmed v s) :=
  ite_keeps _ (fun armed => k.issue s v (by simp only [beq_iff_eq] at armed; simp [armed]) h) (fun _ => h)

theorem issuePositionReached (v : ValveId) (s : State) (h : P s) : P (issuePositionReached v s) := k.issueIfArmed v s h

theorem watchIssue (v : ValveId) (s : State) (live : (s.channel v).state ≠ .blocked) (h : P s) : P (watchIssue v s) :=
  ite_keeps _ (fun _ => k.issue s v live h) (fun _ => h)

theorem loadPointAction (v : ValveId) (s : State) (live : (s.channel v).state ≠ .blocked) (h : P s) : P (loadPointAction v s) := by
  have put (c : Channel) (m : c.misses = (s.channel v).misses) : P (s.setChannel v c) :=
    k.channel s v c (fun blocked => absurd blocked live) (.inr m) h
  unfold Machine.loadPointAction
  dsimp only
  split
  · exact k.bump _ _ (put _ rfl)
  · exact k.watchIssue v _ (by simp) (put _ rfl)

theorem countMiss (v : ValveId) (s : State) (h : P s) : P (countMiss v s).2 := by
  have put : P (s.setChannel v { s.channel v with misses := min 15 ((s.channel v).misses + 1) }) :=
    k.channel s v _ (fun blocked => blocked) (.inl (by simp)) h
  unfold Machine.countMiss
  dsimp only
  split
  · exact k.raise _ _ _ (k.bump _ _ put)
  · exact k.bump _ _ put

theorem misfireEvent (b : Bool) (v : ValveId) (s : State) (h : P s) : P (misfireEvent b v s) :=
  ite_keeps b (fun _ => k.protectiveEvent _ v s h) (fun _ => h)

theorem loadPointReached (v : ValveId) (s : State) (h : P s) : P (loadPointReached v s) := by
  have issued := k.issueIfArmed v s h
  have advanced : P (advanceSeries v (Machine.issueIfArmed v s)) :=
    k.channel _ v _ (fun blocked => blocked) (.inr rfl) issued
  unfold Machine.loadPointReached loadPointByState
  split
  · exact advanced
  · next state => exact k.loadPointAction v _ (by simp [state]) advanced
  · next state => exact k.loadPointAction v _ (by simp [state]) advanced
  · next live _ _ =>
    exact k.misfireEvent _ v _ (k.loadPointAction v _ (by rw [countMiss_state]; exact live) (k.countMiss v _ advanced))

theorem deliverAngle (v : ValveId) (a : Nat) (s : State) (h : P s) : P (deliverAngle v a s) := by
  refine ite_keeps _ (fun armed => ?_) (fun _ => k.channel s v _ (fun blocked => blocked) (.inr rfl) h)
  have live : (s.channel v).state = .armed := by
    simp only [Bool.and_eq_true, beq_iff_eq] at armed
    exact armed.2
  have put (c : Channel) (m : c.misses = (s.channel v).misses) : P (s.setChannel v c) :=
    k.channel s v c (fun blocked => by rw [live] at blocked; cases blocked) (.inr m) h
  unfold replaceAngle
  dsimp only
  split
  · exact k.bump _ _ (put _ rfl)
  · exact k.watchIssue v _ (by simp [live]) (put _ rfl)

theorem capture (v : ValveId) (x : Pos) (s : State) (await : (s.channel v).state = .await) (h : P s) : P (capture v x s) := by
  have put (c : Channel) (m : c.misses = 0) : P (Machine.bump (.channel v 5) (s.setChannel v c)) :=
    k.bump _ _ (k.channel s v c (fun blocked => by rw [await] at blocked; cases blocked) (.inl (by omega)) h)
  unfold Machine.capture
  dsimp only
  split
  · exact k.raise _ _ _ (k.bump _ _ (put _ rfl))
  · exact put _ rfl

theorem reportedMiss (v : ValveId) (s : State) (await : (s.channel v).state = .await) (h : P s) : P (reportedMiss v s).2 :=
  k.channel _ v _ (fun blocked => by rw [countMiss_state, await] at blocked; cases blocked) (.inr rfl) (k.countMiss v s h)

theorem fireOutcome (v : ValveId) (r : ValveReport) (s : State) (h : P s) : P (fireOutcome v r s).2 := by
  unfold Machine.fireOutcome
  split
  · split
    · next await =>
      have await : (s.channel v).state = .await := by simpa using await
      split
      · exact k.reportedMiss v s await h
      · exact k.capture v _ s await h
    · exact k.bump _ s h
  · split
    · exact h
    · exact k.bump _ s h

/-- A valve report at its channel (R143 to R148). -/
theorem takeReport (v : ValveId) (r : ValveReport) (s : State) (h : P s) : P (takeReport v r s) := by
  have acked (s : State) (h : P s) : P (takeBlockAck v r s) :=
    ite_keeps _ (fun _ => k.channel s v _ (fun blocked => blocked) (.inr rfl) h) (fun _ => h)
  have out := k.fireOutcome v r _ (acked _ (k.raiseIf r.fault srcValveFault (faultDetail v r) s h))
  exact k.misfireEvent _ v _ (ite_keeps _ (fun _ => k.protectiveEvent _ v _ out) (fun _ => out))

/-! ### The tracker, and the positions that G reaches -/

theorem timemarkReached (s : State) (h : P s) : P (timemarkReached s) := by
  have offered := k.offer .south .timed .timemark s rfl h
  refine k.tracker _ _ (fun inv => ?_) offered
  rw [(offer_timed_gate .timemark s).tracker] at inv
  exact inv.positions _ _ _

theorem boundaryReached (s : State) (h : P s) : P (boundaryReached s) :=
  k.announceBoundary _ _ (k.tracker s _ (TrackerInv.positions _ _ _) h)

theorem reach (w : Watched) (s : State) (h : P s) : P (reach w s) := by
  cases w with
  | timemark => exact k.timemarkReached s h
  | boundary => exact k.boundaryReached s h
  | loadPoint v => exact k.loadPointReached v s h
  | issue v => exact k.issuePositionReached v s h

theorem reachAll (fuel : Nat) (s : State) (h : P s) : P (reachAll fuel s) := by
  induction fuel generalizing s with
  | zero => exact h
  | succ fuel ih =>
    unfold Machine.reachAll
    split
    · exact h
    · exact ih _ (k.reach _ s h)

theorem arriveAt (x : Pos) (s : State) (h : P s) : P (arriveAt x s) :=
  ite_keeps _ (fun _ => k.tracker s _ (TrackerInv.positions _ _ _) h) (fun _ => h)

theorem tellTracker (old new : TrackerState) (e : Int) (s : State) (h : P s) : P (tellTracker old new e s) := by
  unfold Machine.tellTracker
  split
  · exact h
  · exact k.trackerChanged _ _ _ (k.raise _ _ s h)

theorem stageState (e : Int) (s : State) (lower : -8192 ≤ e) (upper : e ≤ 8192) (h : P s) : P (stageState e s) :=
  k.tellTracker _ _ _ _ (k.tracker s _ (fun inv => inv.withE s.par lower upper) h)

theorem stagePhase (e : Int) (s : State) (h : P s) : P (stagePhase e s) := by
  have stepped : P (stepG e s) := by
    refine k.tracker _ _ (fun inv => ?_) (k.bumpIf _ _ s h)
    exact ⟨inv.inc, inv.gain, inv.lockRun, inv.unlockRun, inv.holdover, saturate_bounds _ _ _ (by decide), inv.error⟩
  unfold Machine.stagePhase stepReaches
  dsimp only
  split
  · exact k.reachAll _ _ stepped
  · exact stepped

theorem stageFrequency (gain : Nat) (e : Int) (s : State) (h : P s) : P (stageFrequency gain e s) := by
  have clamped : P (s.setTracker { s.tracker with inc := incClamped (incSum s.tracker.inc gain e) }) :=
    k.tracker s _ (fun inv => ⟨incClamped_bounds _, inv.gain, inv.lockRun, inv.unlockRun, inv.holdover, inv.step, inv.error⟩) h
  unfold Machine.stageFrequency
  dsimp only
  split
  · exact k.raise _ _ _ (k.bump _ _ clamped)
  · exact clamped

theorem stageGain (p : ParamRecord) (e : Int) (s : State) (h : P s) : P (stageGain p e s) :=
  k.tracker s _
    (fun inv => ⟨inv.inc, gainAfter_le p e inv.gain, inv.lockRun, inv.unlockRun, inv.holdover, inv.step, inv.error⟩) h

theorem completionWithE (e : Int) (s : State) (lower : -8192 ≤ e) (upper : e ≤ 8192) (h : P s) : P (completionWithE e s) :=
  k.stageGain _ e _ (k.stageFrequency _ e _ (k.stagePhase e _ (k.stageState e _ lower upper (k.bump _ s h))))

theorem testHoldover (s : State) (h : P s) : P (testHoldover s) :=
  ite_keeps _ (fun _ => k.tellTracker _ _ _ _ (k.tracker s _ TrackerInv.setFree h)) (fun _ => h)

theorem enterHoldover (s : State) (h : P s) : P (enterHoldover s) := by
  refine k.testHoldover _ (k.tellTracker _ _ _ _ (k.tracker s _ (fun inv => ?_) h))
  exact ⟨inv.inc, inv.gain, by simp, by simp, by simp, inv.step, inv.error⟩

theorem completionWithoutE (s : State) (h : P s) : P (completionWithoutE s) := by
  have counted := k.bump .passesWithoutE s h
  unfold Machine.completionWithoutE
  dsimp only
  split
  · exact counted
  · exact k.enterHoldover _ counted
  · exact k.enterHoldover _ counted
  · refine k.testHoldover _ (k.tracker _ _ (fun inv => ?_) counted)
    exact ⟨inv.inc, inv.gain, inv.lockRun, inv.unlockRun, by simp, inv.step, inv.error⟩

/-! ### The completion of a pass -/

theorem countCompletion (r : PassRecord) (s : State) (h : P s) : P (countCompletion r s) :=
  foldl_keeps _ (fun s _ h => k.bumpIf _ _ _ (k.bumpIf _ _ _ (k.bumpIf _ _ s h))) _ _ (k.bumpIf _ _ _ (k.bump _ s h))

theorem completionOutput (old r : PassRecord) (f : InFlight) (s : State) (o : PassOutput) (h : P s) :
    P (completionOutput old r (measureFlight f).e s o) := by
  cases o with
  | notices => exact k.raiseIf _ _ _ _ (k.raiseIf _ _ _ _ (k.raiseIf _ _ _ s h))
  | tracker =>
    show P (completionTracker (measureFlight f).e s)
    unfold completionTracker
    split
    · next e eq =>
      obtain ⟨lower, upper⟩ := measureFlight_e_bounds eq
      exact k.completionWithE e s lower upper h
    · exact k.completionWithoutE s h
  | delivery => exact ite_keeps _ (fun _ => foldl_keeps _ (fun s v => k.deliverAngle v _ s) _ s h) (fun _ => h)
  | supervisor => exact k.takeRecord r s h

theorem passCompletion (order : List PassOutput) (s : State) (h : P s) : P (passCompletion order s) := by
  unfold Machine.passCompletion
  split
  · exact h
  · exact k.idleTest _ (foldl_keeps _ (fun s o => k.completionOutput _ _ _ s o) _ _
      (k.countCompletion _ _ (k.engine s _ (.inr le_rfl) h)))

end CoreStable
end Sys2Proof.Machine
end

section
/-! What keeps an invariant, part 2: the ports, the merge unit, the frame switch, transmission, the access agent and the clock, up to the
step. A stable predicate that holds before a step holds after it. -/

namespace Sys2Proof.Machine

/-- The port but for the attempt count and its timers: a window runs where the port receives frames. -/
def Port.settled (x : Port) : Port :=
  { x with attempts := 0, seekTimer := none, alignTimer := none, holdoffTimer := none, trainOwed := false,
           windowTimer := if x.link.receives then some 0 else none }

/-- A port can change to a new state and meet its bounds there: the attempt count fits the new state, a window runs where the new state
receives frames, and the rest meets the bounds of the state that it leaves. -/
structure Enterable (new : LinkState) (x : Port) : Prop where
  rest : PortInv x.settled
  attempts : x.attempts ≤ 8 ∧ (new ≠ .holdoff → x.attempts ≤ 7)
  window : new.receives = true → x.windowTimer.isSome = true
  stopped : new.receives = false → x.windowTimer.isSome = true → x.link.receives = true

theorem PortInv.settled {x : Port} (h : PortInv x) : PortInv x.settled where
  timed := h.timed
  access := h.access
  measure := h.measure
  pass := h.pass
  attempts := by simp [Port.settled]
  working := by simp [Port.settled]
  seeking := by simp [Port.settled]
  aligned := by simp [Port.settled]
  holdoff := by simp [Port.settled]
  effAccess := h.effAccess
  effMeasure := h.effMeasure
  effPass := h.effPass
  priority := h.priority
  threshold := h.threshold
  cleanRun := h.cleanRun
  invalidRun := h.invalidRun
  rx := h.rx
  window := by cases e : x.link.receives <;> simp [Port.settled, e]
  degraded := h.degraded
  request := h.request
  train := by simp [Port.settled]
  ready := h.ready

/-- A port that meets its bounds can change to every state that its attempt count admits and for which its window runs. -/
theorem PortInv.enterable {x : Port} (h : PortInv x) (new : LinkState) (attempts : new ≠ .holdoff → x.attempts ≤ 7)
    (window : new.receives = true → x.link.receives = true) : Enterable new x :=
  ⟨h.settled, ⟨h.attempts, attempts⟩, fun r => h.window.trans (window r), fun _ r => h.window.symm.trans r⟩

/-- A predicate that every operation of a step keeps: what the supervisor's blocks keep, and the updates of the ports, the merge unit, the
access agent, the forwarding table and the waiting commands, with what the block's invariant needs; a port update may refer to the port of
an earlier state that meets the predicate. -/
structure Stable (P : State → Prop) : Prop extends CoreStable P where
  port : ∀ s0 s p x, P s0 → P s → (PortInv (s0.port p) → PortInv (s.port p) → PortInv x) → x.timed ⊆ (s.port p).timed →
    P (s.setPort p x)
  change : ∀ s p new f, (PortInv (s.port p) → Enterable new (f (s.port p))) → (f (s.port p)).timed = (s.port p).timed → P s →
    P (changeLink p new (s.modPort p f))
  oneWay : ∀ s p b, P s → P (setOneWay p b s)
  merge : ∀ s m, (MergeInv s → MergeInv (s.setMerge m)) → P s → P (s.setMerge m)
  opened : ∀ s fn, P s → P (openRow (s.setPace (s.pace.next fn)))
  agent : ∀ s a, (s.agent.queue.length ≤ 4 → a.queue.length ≤ 4) → P s → P (s.setAgent a)
  fwd : ∀ s t, P s → P { s with fwd := t }
  pending : ∀ s q, P s → P { s with pending := q }
  powered : ∀ straps n m q, P { State.powerOn straps n m with pending := q }
  blocks : ∀ s, P s → P (warmResetBlocks s)
  warmed : ∀ s, (∀ v, (s.channel v).state = .blocked) → (∀ f, f ∈ s.ps.timed → f.fires = []) → P s →
    P (s.setSup (s.sup.warmReset s.merge.feedersMet))

theorem markInvalidRun_le (s1 s2 s3 : LineSymbol) : markInvalidRun s1 s2 s3 ≤ 3 := by
  have step (n : Nat) (x : LineSymbol) : (if x = .invalid then n + 1 else 0) ≤ n + 1 := by split <;> omega
  exact (step _ s3).trans (Nat.succ_le_succ ((step _ s2).trans (Nat.succ_le_succ (step 0 s1))))

/-- What stands in reception after symbols were received: 506 bytes at most, at a port that receives frames (R5). -/
theorem receiveRun_rx {run : LineRun} {x : Port} {r : RxFrame} (h : (receiveRun run x).rx = some r) :
    r.bytes.length ≤ 506 ∧ x.link.receives = true := by
  simp only [receiveRun, Option.map_eq_some_iff] at h
  obtain ⟨r', h, rfl⟩ := h
  split at h
  · next receives => exact ⟨by simp, receives⟩
  · cases h

/-- An errored frame leaves the port's state (R20). -/
@[simp] theorem countErrored_linkState (p : PortId) (s : State) : ((countErrored p s).port p).link = (s.port p).link := by
  unfold countErrored
  dsimp only
  split <;> simp

/-- A frame that ends cut leaves the port's state (R5). -/
@[simp] theorem cutArrival_linkState (p : PortId) (s : State) : ((cutArrival p s).port p).link = (s.port p).link := by
  unfold cutArrival
  split <;> simp

/-- A status put leaves the rows, the table, the last closed index, the history and the selection (R53). -/
theorem putStatus_merge (i : StreamId) (x : StreamStatus) (s : State) :
    (putStatus i x s).merge = { s.merge with status := s.merge.status.set i x } := by
  unfold putStatus
  dsimp only
  split
  · rfl
  · exact (updateItems_frame _ _).merge.trans (raise_quiet _ _ _).merge

theorem closeStream_rows (m : Merge) (r : Row) (s : State) (i : StreamId) : (closeStream m r s i).merge.rows = s.merge.rows := by
  unfold closeStream bumpStream
  split
  · split
    · rw [putStatus_merge]
    · rw [putStatus_merge]
      split <;> rfl
  · rfl

theorem closeStreams_rows (m : Merge) (r : Row) (l : List StreamId) (s : State) :
    (l.foldl (closeStream m r) s).merge.rows = s.merge.rows := by
  induction l generalizing s with
  | nil => rfl
  | cons i l ih => exact (ih _).trans (closeStream_rows m r s i)

theorem closeSelection_rows (index : Word) (s : State) : (closeSelection index s).merge.rows = s.merge.rows := by
  unfold closeSelection
  exact iteInduction (motive := fun t : State => t.merge.rows = s.merge.rows) (fun _ => rfl)
    (fun _ => by rw [(updateItems_frame _ _).merge, (raise_quiet _ _ _).merge]; rfl)

/-- A port that receives frames receives them after a return from FAR_FAULT (R15). -/
theorem returnFromFarFault_receives (s : State) (p : PortId) (h : (s.port p).link.receives = true) :
    ((returnFromFarFault p s).port p).link.receives = true := by
  unfold returnFromFarFault
  split
  · simp [LinkState.receives]
  · exact h

/-- The rows in order and the history are told by the row indices, the last closed index and the history alone. -/
theorem MergeInv.of_indices {s : State} {m : Merge} (h : MergeInv s)
    (rows : m.rows.map Row.index = s.merge.rows.map Row.index) (last : m.lastClosed = s.merge.lastClosed)
    (history : m.history = s.merge.history) : MergeInv (s.setMerge m) := by
  have length : m.rows.length = s.merge.rows.length := by simpa using congrArg List.length rows
  refine ⟨fun i hi => ?_, ?_, ?_, ?_⟩
  · have index : m.rows[i].index = (s.merge.rows[i]'(length ▸ hi)).index := by
      have at_i := List.getElem_of_eq rows (i := i) (by simpa using hi)
      rwa [List.getElem_map, List.getElem_map] at at_i
    exact index.trans ((h.rows i (length ▸ hi)).trans (by rw [State.setMerge_merge, last]))
  · simpa [length, last] using h.newest
  · simpa [history, last] using h.history
  · simpa [history] using h.ring

/-- The oldest open row closed (R61): the next one is the oldest, and its index heads the history (R67). -/
theorem MergeInv.closed {s : State} {r : Row} {rest : List Row} {c : CompositeSet} (h : MergeInv s) (rows : s.merge.rows = r :: rest)
    (index : c.index = r.index) :
    MergeInv (s.setMerge { s.merge with history := appendSet c s.merge.history, lastClosed := c.index, rows := s.merge.rows.tail }) := by
  have first : r.index = s.merge.lastClosed + 1 := by simpa [rows] using h.rows 0 (by simp [rows])
  refine ⟨fun i hi => ?_, ?_, fun i hi => ?_, ?_⟩
  · simp only [State.setMerge_merge, rows, List.tail_cons] at hi ⊢
    have next := h.rows (i + 1) (by simp [rows]; omega)
    simp only [rows, List.getElem_cons_succ] at next
    rw [next, index, first]
    bv_omega
  · have newest := h.newest
    simp only [State.setMerge_merge, State.setMerge_pace, rows, List.tail_cons, List.length_cons] at newest ⊢
    rw [newest, index, first]
    bv_omega
  · simp only [State.setMerge_merge, appendSet] at hi ⊢
    cases i with
    | zero => simp
    | succ i =>
      have older := h.history i (by simp at hi; omega)
      simp only [List.getElem_take, List.getElem_cons_succ, older, index, first]
      bv_omega
  · simp [appendSet]

namespace Stable
variable {P : State → Prop} (k : Stable P)
include k

/-- An update of one port that keeps its bounds, with no frame more in TIMED. -/
theorem modPort (s : State) (p : PortId) (f : Port → Port) (inv : PortInv (s.port p) → PortInv (f (s.port p)))
    (timed : (f (s.port p)).timed ⊆ (s.port p).timed) (h : P s) : P (s.modPort p f) :=
  k.port s s p _ h h (fun _ => inv) timed

theorem changeLink (s : State) (p : PortId) (new : LinkState) (inv : PortInv (s.port p) → Enterable new (s.port p)) (h : P s) :
    P (changeLink p new s) := by
  have moved := k.change s p new id inv rfl h
  simpa [State.modPort] using moved

theorem seekFromDown (s : State) (p : PortId) (down : (s.port p).link = .down) (h : P s) : P (seekFromDown p s) := by
  have moved := k.changeLink s p .seeking (fun inv => inv.enterable _ (fun _ => inv.working (by simp [down])) (by simp [LinkState.receives])) h
  refine k.bump _ _ (k.modPort _ p _ (fun inv => ?_) (fun _ => id) moved)
  exact { inv with }

theorem applyR11 (s : State) (p : PortId) (h : P s) : P (applyR11 p s) := by
  refine ite_keeps _ (fun seen => k.seekFromDown s p ?_ h) (fun _ => h)
  simp only [Bool.and_eq_true, beq_iff_eq] at seen
  exact seen.1

/-- A move to DOWN, from any state and after an update that leaves the port able to enter it. -/
theorem goDown_of (s : State) (p : PortId) (f : Port → Port) (inv : PortInv (s.port p) → Enterable .down (f (s.port p)))
    (timed : (f (s.port p)).timed = (s.port p).timed) (h : P s) : P (goDown p (s.modPort p f)) :=
  k.applyR11 _ p (k.change s p .down f inv timed h)

theorem goDown (s : State) (p : PortId) (attempts : PortInv (s.port p) → (s.port p).attempts ≤ 7) (h : P s) : P (goDown p s) :=
  k.applyR11 _ p (k.changeLink s p .down (fun inv => inv.enterable _ (fun _ => attempts inv) (by simp [LinkState.receives])) h)

theorem failAttempt (s : State) (p : PortId) (training : PortInv (s.port p) → (s.port p).link ≠ .holdoff) (h : P s) :
    P (failAttempt p s) := by
  have counted (new : LinkState) (idle : new.receives = false)
      (fits : PortInv (s.port p) → new ≠ .holdoff → (s.port p).attempts + 1 ≤ 7) (inv : PortInv (s.port p)) :
      Enterable new { s.port p with attempts := (s.port p).attempts + 1 } :=
    { rest := { inv.settled with }
      attempts := ⟨Nat.succ_le_succ (inv.working (training inv)), fits inv⟩
      window := by simp [idle]
      stopped := fun _ r => inv.window.symm.trans r }
  unfold Machine.failAttempt
  dsimp only
  split
  · exact k.change s p _ _ (counted _ rfl (by simp)) rfl h
  · next few =>
    simp only [State.modPort_port, Nat.not_le] at few
    exact k.goDown_of s p _ (counted _ rfl (fun _ _ => Nat.le_of_lt_succ few)) rfl h

theorem seekAgain (s : State) (p : PortId) (attempts : PortInv (s.port p) → (s.port p).attempts ≤ 7) (h : P s) :
    P (seekAgain p s) := by
  refine k.modPort _ p _ (fun inv => ?_) (fun _ => id)
    (k.changeLink s p .seeking (fun inv => inv.enterable _ (fun _ => attempts inv) (by simp [LinkState.receives])) h)
  exact { inv with }

theorem enterUp (s : State) (p : PortId) (h : P s) : P (enterUp p s) := by
  have moved := k.change s p .up
    (fun x => { x with attempts := 0, windowTimer := some windowClocks, windowErrors := 0, cleanRun := 0 })
    (fun inv => ?_) rfl h
  · refine k.modPort _ p _ (fun inv => ?_) (fun _ => id) moved
    exact { inv with train := fun _ => changeLink_linkState _ _ _ }
  · exact { rest := { inv.settled with cleanRun := by simp [Port.settled] }, attempts := by simp, window := by simp,
            stopped := by simp [LinkState.receives] }

theorem powerOnReset (straps : Byte) (s : State) : P (powerOnReset straps s) :=
  k.applyR11 _ .south (k.applyR11 _ .north (k.powered straps _ _ _))

theorem countErrored (s0 s : State) (p : PortId) (working : PortInv (s0.port p) → (s.port p).link.receives = true) (h0 : P s0)
    (h : P s) : P (countErrored p s) := by
  have counted : P (s.modPort p (fun x => { x with windowErrors := x.windowErrors + 1 })) := by
    refine k.modPort s p _ (fun inv => ?_) (fun _ => id) h
    exact { inv with }
  unfold Machine.countErrored
  dsimp only
  split
  · have run : P ((s.modPort p (fun x => { x with windowErrors := x.windowErrors + 1 })).modPort p (fun x => { x with cleanRun := 0 })) := by
      refine k.modPort _ p _ (fun inv => ?_) (fun _ => id) counted
      exact { inv with cleanRun := by simp }
    refine ite_keeps _ (fun _ => run) (fun _ => k.raise _ _ _ ?_)
    refine k.port s0 _ p _ h0 run (fun inv0 inv => ?_) (fun _ => id)
    exact { inv with degraded := fun _ => by simpa using working inv0 }
  · exact counted

theorem cutArrival (s : State) (p : PortId) (h : P s) : P (cutArrival p s) := by
  unfold Machine.cutArrival
  split
  · exact h
  · next r some =>
    refine k.countErrored s _ p (fun inv => by simpa using (inv.rx r some).2) h (k.bump _ _ (k.modPort s p _ (fun inv => ?_) (fun _ => id) h))
    exact { inv with rx := by simp }

theorem receiveSymbols (s : State) (p : PortId) (run : LineRun) (h : P s) : P (receiveSymbols p run s) := by
  refine k.modPort _ p _ (fun inv => ?_) (fun _ => id) (ite_keeps _ (fun _ => k.cutArrival s p h) (fun _ => h))
  refine { inv with invalidRun := ?_, rx := ?_ }
  · simp only [receiveRun]
    split
    · simp
    · exact inv.invalidRun
  · intro r some
    exact receiveRun_rx (x := Machine.State.port _ p) some

theorem seekMark (s : State) (p : PortId) (seeking : (s.port p).link = .seeking) (h : P s) : P (seekMark p s) := by
  have counted : P (s.modPort p (fun x => { x with validRun := x.validRun + 1 })) := by
    refine k.modPort s p _ (fun inv => ?_) (fun _ => id) h
    exact { inv with }
  unfold Machine.seekMark
  dsimp only
  split
  · exact k.changeLink _ p .aligned
      (fun inv => inv.enterable _ (fun _ => inv.working (by simp [seeking])) (by simp [LinkState.receives])) counted
  · exact counted

/-- A change between states other than HOLDOFF, where the new one receives no frames unless the old one did. -/
theorem changeWorking (s : State) (p : PortId) (old new : LinkState) (link : (s.port p).link = old) (live : old ≠ .holdoff)
    (window : new.receives = true → old.receives = true) (h : P s) : P (Machine.changeLink p new s) :=
  k.changeLink s p new (fun inv => inv.enterable _ (fun _ => inv.working (link ▸ live)) (link ▸ window)) h

theorem markByState (s : State) (p : PortId) (m : Mark) (h : P s) : P (markByState p m s) := by
  unfold Machine.markByState
  split
  · next link => exact k.seekMark s p link h
  · exact k.enterUp s p h
  · next link => exact k.changeWorking s p _ _ link (by simp) (by simp [LinkState.receives]) h
  · next link => exact k.changeWorking s p _ _ link (by simp) (by simp [LinkState.receives]) h
  · next link => exact k.changeWorking s p _ _ link (by simp) (by simp [LinkState.receives]) h
  · next link => exact k.changeWorking s p _ _ link (by simp) (by simp [LinkState.receives]) h
  · exact h

theorem setInvalidRun (s : State) (p : PortId) (n : Nat) (few : n ≤ 16) (h : P s) :
    P (s.modPort p (fun x => { x with invalidRun := n })) := by
  refine k.modPort s p _ (fun inv => ?_) (fun _ => id) h
  exact { inv with invalidRun := few }

theorem receiveMark (s : State) (p : PortId) (m : Mark) (h : P s) : P (receiveMark p m s) := by
  have zeroed := k.setInvalidRun s p 0 (by simp) h
  unfold Machine.receiveMark
  dsimp only
  split
  · exact k.markByState _ p _ (k.bumpIf _ _ _ zeroed)
  · exact k.markByState _ p _ (k.cutArrival _ p zeroed)

theorem receiveIllFormed (s : State) (p : PortId) (s1 s2 s3 : LineSymbol) (h : P s) : P (receiveIllFormed p s1 s2 s3 s) := by
  refine k.modPort _ p _ (fun inv => ?_) (fun _ => id) (k.cutArrival s p h)
  exact { inv with invalidRun := (markInvalidRun_le s1 s2 s3).trans (by decide) }

theorem loseAlignment (s : State) (p : PortId) (h : P s) : P (loseAlignment p s) := by
  refine ite_keeps _ (fun aligned => k.seekAgain _ p (fun inv => inv.working ?_) (k.cutArrival s p h)) (fun _ => h)
  rw [cutArrival_linkState]
  rintro holdoff
  rw [holdoff] at aligned
  cases aligned

theorem receiveInvalid (s : State) (p : PortId) (h : P s) : P (receiveInvalid p s) := by
  have counted : P ((Machine.cutArrival p s).modPort p (fun x =>
      { x with invalidRun := min 16 (x.invalidRun + 1), validRun := if x.link = .seeking then 0 else x.validRun })) := by
    refine k.modPort _ p _ (fun inv => ?_) (fun _ => id) (k.cutArrival s p h)
    exact { inv with invalidRun := by simp }
  unfold Machine.receiveInvalid
  dsimp only
  split
  · exact k.loseAlignment _ p counted
  · exact counted

theorem alignmentLost (s : State) (p : PortId) (h : P s) : P (alignmentLost p s) :=
  ite_keeps _ (fun _ => k.loseAlignment _ p (k.setInvalidRun s p 16 le_rfl h)) (fun _ => h)

theorem loseSignal (s : State) (p : PortId) (h : P s) : P (loseSignal p s) := by
  have lost : P ((Machine.cutArrival p s).modPort p (fun x => { x with signal := false })) := by
    refine k.modPort _ p _ (fun inv => ?_) (fun _ => id) (k.cutArrival s p h)
    exact { inv with }
  unfold Machine.loseSignal
  dsimp only
  split
  · next link => exact k.failAttempt _ p (fun _ => by rw [link]; simp) lost
  · next link => exact k.failAttempt _ p (fun _ => by rw [link]; simp) lost
  · next link => exact k.goDown _ p (fun inv => inv.working (by rw [link]; simp)) lost
  · next link => exact k.goDown _ p (fun inv => inv.working (by rw [link]; simp)) lost
  · exact lost

theorem findSignal (s : State) (p : PortId) (h : P s) : P (findSignal p s) := by
  refine k.applyR11 _ p (k.modPort s p _ (fun inv => ?_) (fun _ => id) h)
  exact { inv with }

theorem retrainPort (s : State) (p : PortId) (h : P s) : P (retrainPort p s) :=
  k.goDown_of s p _ (fun inv =>
    { rest := { inv.settled with rx := by simp [Port.settled] }, attempts := by simp, window := by simp [LinkState.receives],
      stopped := fun _ r => inv.window.symm.trans r }) rfl h

theorem seekExpiry (s : State) (p : PortId) (h : P s) : P (seekExpiry p s) :=
  ite_keeps _ (fun runs => k.failAttempt s p (fun inv => by simp [inv.seeking runs]) h) (fun _ => h)

theorem alignExpiry (s : State) (p : PortId) (h : P s) : P (alignExpiry p s) :=
  ite_keeps _ (fun runs => k.failAttempt s p (fun inv => by simp [inv.aligned runs]) h) (fun _ => h)

theorem holdoffExpiry (s : State) (p : PortId) (h : P s) : P (holdoffExpiry p s) :=
  ite_keeps _ (fun _ => k.goDown_of s p _ (fun inv =>
    { rest := { inv.settled with }, attempts := by simp, window := by simp [LinkState.receives],
      stopped := fun _ r => inv.window.symm.trans r }) rfl h) (fun _ => h)

/-- A running window starts over (R20). -/
theorem restartWindow (s : State) (p : PortId) (runs : (s.port p).windowTimer.isSome = true) (h : P s) :
    P (s.modPort p (fun x => { x with windowErrors := 0, windowTimer := some windowClocks })) := by
  refine k.modPort s p _ (fun inv => ?_) (fun _ => id) h
  exact { inv with window := runs.symm.trans inv.window }

theorem windowExpiry (s : State) (p : PortId) (h : P s) : P (windowExpiry p s) := by
  refine ite_keeps _ (fun runs => ?_) (fun _ => h)
  have counted : P (s.modPort p (fun x =>
      { x with cleanRun := if x.windowErrors < x.hiErrThreshold then min 8 (x.cleanRun + 1) else 0 })) := by
    refine k.modPort s p _ (fun inv => ?_) (fun _ => id) h
    exact { inv with cleanRun := by dsimp only; split <;> omega }
  have cleared (t : State) (ht : P t) : P (setDegraded p false t) := by
    refine ite_keeps _ (fun _ => ht) (fun _ => k.raise _ _ _ (k.modPort t p _ (fun inv => ?_) (fun _ => id) ht))
    exact { inv with degraded := by simp }
  have kept (b : Bool) (t : State) : ((if b then setDegraded p false t else t).port p).windowTimer = (t.port p).windowTimer := by
    cases b <;> simp
  exact k.restartWindow _ p ((congrArg Option.isSome (kept _ _)).trans (by simpa using runs))
    (ite_keeps _ (fun _ => cleared _ counted) (fun _ => counted))

/-! ### The merge unit -/

/-- An update of the merge unit that leaves the row indices, the last closed index and the history. -/
theorem setMerge (s : State) (m : Merge) (rows : m.rows.map Row.index = s.merge.rows.map Row.index)
    (last : m.lastClosed = s.merge.lastClosed) (history : m.history = s.merge.history) (h : P s) : P (s.setMerge m) :=
  k.merge s m (fun inv => inv.of_indices rows last history) h

theorem updateFeeders (s : State) (h : P s) : P (updateFeeders s) := k.updateItems _ s rfl h

theorem putStatus (i : StreamId) (x : StreamStatus) (s : State) (h : P s) : P (putStatus i x s) := by
  have put : P (s.setStatus i x) := k.setMerge s _ rfl rfl rfl h
  unfold Machine.putStatus
  dsimp only
  split
  · exact put
  · exact k.updateFeeders _ (k.raise _ _ _ put)

theorem restartStream (i : StreamId) (x : StreamStatus) (s : State) (h : P s) : P (restartStream i x s) :=
  k.updateFeeders _ (k.raise _ _ _ (k.setMerge s _ rfl rfl rfl h))

theorem closeStream (m : Merge) (r : Row) (s : State) (i : StreamId) (h : P s) : P (closeStream m r s i) := by
  unfold Machine.closeStream
  split
  · split
    · exact k.putStatus _ _ s h
    · exact k.putStatus _ _ _ (k.bump _ _ (ite_keeps _ (fun _ => k.bump _ s h) (fun _ => h)))
  · exact h

theorem closeSelection (index : Word) (s : State) (h : P s) : P (closeSelection index s) := by
  have put (run : Nat) (new : Selection) : P (s.setMerge { s.merge with mainRun := run, selection := new }) :=
    k.setMerge s _ rfl rfl rfl h
  unfold Machine.closeSelection
  exact iteInduction (fun _ => put _ _) (fun _ => k.updateItems _ _ rfl (k.raise _ _ _ (put _ _)))

theorem closeRow (r : Row) (s : State) (oldest : s.merge.rows.head? = some r) (h : P s) : P (closeRow r s) := by
  obtain ⟨rest, rows⟩ : ∃ rest, s.merge.rows = r :: rest := by
    cases e : s.merge.rows with
    | nil => simp [e] at oldest
    | cons a rest => exact ⟨rest, by simp [e] at oldest; rw [oldest]⟩
  have selected := k.closeSelection r.index _ (foldl_keeps _ (fun t i => k.closeStream s.merge r t i) streamIds s h)
  exact k.testWindows _ (k.merge _ _ (fun inv => inv.closed (rest := rest) (by rw [closeSelection_rows, closeStreams_rows, rows]) rfl) selected)

theorem closeCascade (check : Option Nat) (fuel : Nat) (s : State) (h : P s) : P (closeCascade check fuel s) := by
  induction fuel generalizing s with
  | zero => exact h
  | succ fuel ih =>
    unfold Machine.closeCascade
    split
    · exact h
    · next rows => exact ite_keeps _ (fun _ => ih _ (k.closeRow _ s (by rw [rows]; rfl) h)) (fun _ => h)

theorem completionTest (s : State) (h : P s) : P (completionTest s) := k.closeCascade _ _ s h

theorem deadlineCheck (s : State) (h : P s) : P (deadlineCheck s) := by
  unfold Machine.deadlineCheck deadlineCheckWith
  split
  · exact h
  · exact ite_keeps _ (fun _ => k.closeCascade _ _ s h) (fun _ => h)

theorem acceptSet (i : StreamId) (index : Word) (slot : Slot) (s : State) (h : P s) : P (acceptSet i index slot s) := by
  refine k.completionTest _ (k.putStatus _ _ _ (k.bump _ _ (k.setMerge s _ ?_ rfl rfl h)))
  simp only [setSlot, List.map_map]
  exact List.map_congr_left (fun r _ => by simp only [Function.comp]; split <;> rfl)

theorem disposeSet (i : StreamId) (index : Word) (x : MeasuredSet) (s : State) (h : P s) : P (disposeSet i index x s) := by
  refine ite_keeps _ (fun _ => k.bump _ s h) (fun _ => ite_keeps _ (fun _ => h) (fun _ => ite_keeps _ (fun _ => h) (fun _ => ?_)))
  split
  · exact h
  · exact ite_keeps _ (fun _ => k.bump _ s h) (fun _ => k.acceptSet _ _ _ s h)

theorem placeSet (i : StreamId) (s : State) (x : MeasuredSet) (h : P s) : P (placeSet i s x) := by
  unfold Machine.placeSet
  dsimp only
  split
  · exact k.disposeSet i _ x s h
  · exact k.bump _ s h

theorem placeFrame (i : StreamId) (m : Nat) (sets : List MeasuredSet) (s : State) (h : P s) : P (placeFrame i m sets s) :=
  ite_keeps _ (fun _ => k.bump _ s h) (fun _ => foldl_keeps _ (fun s x => k.placeSet i s x) sets s h)

theorem entryEffect (before : Vector StreamEntry 8) (s : State) (i : StreamId) (h : P s) : P (entryEffect before s i) := by
  have emptied : P (s.setMerge { s.merge with rows := emptySlots i s.merge.rows }) := by
    refine k.setMerge s _ ?_ rfl rfl h
    simp only [emptySlots, List.map_map]
    rfl
  exact ite_keeps _ (fun _ => k.putStatus _ _ s h) (fun _ => ite_keeps _ (fun _ => k.putStatus _ _ _ emptied) (fun _ =>
    ite_keeps _ (fun _ => k.restartStream _ _ _ emptied) (fun _ => h)))

theorem applyStreamTable (t : Vector StreamEntry 8) (s : State) (h : P s) : P (applyStreamTable t s) :=
  k.completionTest _ (k.updateFeeders _ (foldl_keeps _ (fun s i => k.entryEffect _ s i) _ _ (k.setMerge s _ rfl rfl rfl h)))

/-! ### The frame switch -/

theorem queueRequest (r : Request) (s : State) (h : P s) : P (queueRequest r s) := by
  unfold Machine.queueRequest
  split
  · next room => exact k.agent s _ (fun _ => by simp; omega) h
  · exact k.answer _ _ _ _ _ (k.bump _ s h)

theorem consume (p : PortId) (bytes : List Byte) (s : State) (h : P s) : P (consume p bytes s) := by
  unfold Machine.consume
  split
  · split
    · exact k.placeFrame _ _ _ _ (k.bump _ s h)
    · exact k.bump _ s h
  · split
    · split
      · exact k.takeReport _ _ _ (k.bump _ s h)
      · exact k.bump _ s h
    · exact k.bump _ s h

theorem forward (p : PortId) (c : Bool) (bytes : List Byte) (s : State) (h : P s) : P (forward p c bytes s) :=
  k.offer _ _ _ _ rfl (k.bump _ s h)

theorem act (a : FwdAction) (c : Bool) (p : PortId) (bytes : List Byte) (s : State) (h : P s) : P (act a c p bytes s) := by
  cases a with
  | consume => exact k.consume p bytes s h
  | forward => exact k.forward p c bytes s h
  | copy => exact k.forward p c bytes _ (k.consume p bytes s h)
  | drop => exact k.bump _ s h

theorem switchFrame (p : PortId) (bytes : List Byte) (s : State) (h : P s) : P (switchFrame p bytes s) := by
  unfold Machine.switchFrame
  split
  · exact k.queueRequest _ _ (k.bump _ s h)
  · split
    · exact k.act _ _ p bytes _ (k.bump _ s h)
    · split
      · exact k.act _ _ p bytes s h
      · exact k.act _ _ p bytes s h

theorem receiveEnd (p : PortId) (s : State) (h : P s) : P (receiveEnd p s) := by
  have zeroed := k.setInvalidRun s p 0 (by simp) h
  unfold Machine.receiveEnd
  dsimp only
  split
  · exact zeroed
  · next r some =>
    have removed : P ((s.modPort p (fun x => { x with invalidRun := 0 })).modPort p (fun x => { x with rx := none })) := by
      refine k.modPort _ p _ (fun inv => ?_) (fun _ => id) zeroed
      exact { inv with rx := by simp }
    have returned := ite_keeps (P := P) ((((s.modPort p (fun x => { x with invalidRun := 0 })).modPort p (fun x => { x with rx := none })).port p).link == .farFault)
      (fun far => k.changeWorking _ p .farFault .up (by simpa using far) (by simp) (by simp [LinkState.receives]) removed) (fun _ => removed)
    unfold completeFrame
    split
    · refine k.countErrored _ _ p (fun inv => ?_) zeroed (k.bump _ _ returned)
      rw [bump_port]
      exact returnFromFarFault_receives _ p (by simpa using (inv.rx r some).2)
    · exact k.switchFrame p _ _ (k.bump _ _ returned)

theorem frameArrival (p : PortId) (run : LineRun) (ending : FrameEnd) (s : State) (h : P s) : P (frameArrival p run ending s) := by
  have received := k.receiveSymbols s p run h
  cases ending with
  | complete => exact k.receiveEnd p _ received
  | cut again => exact k.receiveSymbols _ p _ (k.cutArrival _ p received)

end Stable
end Sys2Proof.Machine
end

section
/-! What keeps an invariant, part 3: transmission, the pace event, the access agent, the clock and the step. -/

namespace Sys2Proof.Machine

theorem checkCommand_gate (firing : Bool) (c : GateCommand) (s : State) : GateFrame s (checkCommand firing c s).2 := by
  unfold checkCommand
  split
  · split
    · split
      · exact .refl s
      · exact (raise_quiet _ _ s).toGateFrame
      · exact (reportFire_gate c .skipped s).trans (raise_quiet _ _ _).toGateFrame
    · exact reportFire_gate c .notSent s
  · exact .refl s

theorem checkCommands_gate (firing : Bool) (cs : List GateCommand) (s : State) : GateFrame s (checkCommands firing cs s).2 := by
  induction cs generalizing s with
  | nil => exact .refl s
  | cons c cs ih => exact (checkCommand_gate firing c s).trans (ih _)

theorem processFrame_gate (f : Frame) (s : State) : GateFrame s (processFrame f s).2 := by
  unfold processFrame
  split
  · exact .refl s
  · dsimp only
    split
    · exact checkCommands_gate _ _ s
    · exact checkCommands_gate _ _ s
  · exact .refl s

/-- The port after its chosen class's head frame left is as ready as before. -/
theorem Port.take_transmitReady (x : Port) (c : TxClass) : (x.take c).transmitReady = x.transmitReady := by cases c <;> rfl

theorem Port.take_timed (x : Port) (c : TxClass) : (x.take c).timed ⊆ x.timed := by
  cases c with
  | timed => exact List.tail_subset x.timed
  | _ => exact fun _ => id

theorem agedAfter_le (winner c : TxClass) (b : Bool) {initial eff : Nat} (h : eff ≤ initial) : agedAfter winner c b initial eff ≤ initial := by
  unfold agedAfter
  split_ifs <;> omega

/-- The bounds of a port hold after its chosen class's head frame left (R32, R33). -/
theorem PortInv.take {x : Port} (h : PortInv x) (c : TxClass) : PortInv (x.take c) := by
  have shorter (q : List Frame) : q.tail.length ≤ q.length := by simp
  have gone (q : List Frame) (empty : q = []) : q.tail = [] := by rw [empty]; rfl
  have access (b : Bool) : agedAfter c .access b x.accessPriority x.effAccess ≤ x.accessPriority := agedAfter_le _ _ _ h.effAccess
  have measure (b : Bool) : agedAfter c .measure b 4 x.effMeasure ≤ 4 := agedAfter_le _ _ _ h.effMeasure
  have pass (b : Bool) : agedAfter c .pass b 6 x.effPass ≤ 6 := agedAfter_le _ _ _ h.effPass
  have ready := h.ready
  cases c with
  | timed =>
    exact { h with
      timed := (shorter _).trans h.timed, effAccess := access (!x.access.isEmpty), effMeasure := measure (!x.measure.isEmpty)
      effPass := pass (!x.pass.isEmpty), ready := fun r => (ready r).imp_right (And.imp_left (gone _)) }
  | access =>
    exact { h with
      access := (shorter _).trans h.access, effAccess := access (!x.access.isEmpty), effMeasure := measure (!x.measure.isEmpty)
      effPass := pass (!x.pass.isEmpty), ready := fun r => (ready r).imp_right (And.imp_right (And.imp_left (gone _))) }
  | measure =>
    exact { h with
      measure := (shorter _).trans h.measure, effAccess := access (!x.access.isEmpty), effMeasure := measure (!x.measure.isEmpty)
      effPass := pass (!x.pass.isEmpty)
      ready := fun r => (ready r).imp_right (And.imp_right (And.imp_right (And.imp_left (gone _)))) }
  | pass =>
    exact { h with
      pass := (shorter _).trans h.pass, effAccess := access (!x.access.isEmpty), effMeasure := measure (!x.measure.isEmpty)
      effPass := pass (!x.pass.isEmpty)
      ready := fun r => (ready r).imp_right (And.imp_right (And.imp_right (And.imp_right (gone _)))) }

/-- The bounds of a port after its marks on the line, with the owed TRAIN mark sent or not (R14). -/
theorem PortInv.unowed {x : Port} (h : PortInv x) (m : Option Mark) : PortInv { x with lineMark := m, trainOwed := false } :=
  { h with train := by simp }

theorem PortInv.sendOwed {x : Port} (h : PortInv x) : PortInv x.sendOwed := by
  unfold Port.sendOwed
  split
  · exact h.unowed _
  · exact h

theorem Port.sendOwed_timed (x : Port) : x.sendOwed.timed = x.timed := by rw [Port.sendOwed_eq]

/-- The bounds of a port hold with its timers one clock on (R10, R20). -/
theorem PortInv.timersOn {x : Port} (h : PortInv x) :
    PortInv { x with seekTimer := tickTimer x.seekTimer, alignTimer := tickTimer x.alignTimer,
                     holdoffTimer := tickTimer x.holdoffTimer, windowTimer := tickTimer x.windowTimer } := by
  have runs (t : Option Nat) : (tickTimer t).isSome = t.isSome := by cases t <;> rfl
  exact { h with
    seeking := fun r => h.seeking ((runs _).symm.trans r)
    aligned := fun r => h.aligned ((runs _).symm.trans r)
    holdoff := fun r => h.holdoff ((runs _).symm.trans r)
    window := (runs _).trans h.window }

/-- The bounds of a port hold one clock on (R2, R10, R20). -/
theorem PortInv.tick {x : Port} (h : PortInv x) : PortInv x.tick := by
  unfold Port.tick Port.sendsMarks
  dsimp only
  split
  · exact h.timersOn.unowed _
  · exact h.timersOn

theorem Port.tick_timed (x : Port) : x.tick.timed = x.timed := by
  unfold Port.tick Port.sendsMarks
  dsimp only
  split <;> rfl

/-- A word that `inRange` admits lies in the range. -/
theorem inRange_iff {lo hi : Nat} {w : Word} : inRange lo hi w = true ↔ lo ≤ w.toNat ∧ w.toNat ≤ hi := by
  simp [inRange]

/-- A property that a pass over a list keeps, and that the pass establishes at one of its elements, holds after it. -/
theorem foldl_reaches {α : Type} {Q : State → Prop} (f : State → α → State) {a : α} {l : List α} (mem : a ∈ l)
    (done : ∀ s, Q (f s a)) (keeps : ∀ s b, Q s → Q (f s b)) (s : State) : Q (l.foldl f s) := by
  induction l generalizing s with
  | nil => cases mem
  | cons b l ih =>
    rcases List.mem_cons.mp mem with rfl | later
    · exact foldl_keeps f keeps l _ (done s)
    · exact ih later _

theorem valveIds_mem (v : ValveId) : v ∈ valveIds := by revert v; decide

/-- A channel that is BLOCKED stays so under notices, reports and BLOCK commands. -/
theorem gateStable_blocked (v : ValveId) : GateStable (fun s => (s.channel v).state = .blocked) where
  counters _ _ h := h
  notice _ _ _ h := h
  place s p c f _ _ h := by simpa using h
  append s c q _ _ h := h
  channel s w c blocked _ h := by
    by_cases e : v = w
    · subst e
      simpa using blocked h
    · rwa [State.channel_setChannel_ne _ _ e]

/-- A command joins the tail of a queue exactly where that is a GATE frame with room (R35). -/
theorem appendToTail_eq_some {q q' : List Frame} {c : GateCommand} : appendToTail q c = some q' ↔
    ∃ init cs, q = init ++ [.gate cs] ∧ cs.length < 6 ∧ q' = init ++ [.gate (cs ++ [c])] := by
  induction q using appendToTail.induct generalizing q' with
  | case1 => simp [appendToTail]
  | case2 cs few =>
    simp only [appendToTail, few, if_true, Option.some.injEq, List.singleton_eq_append_iff]
    constructor
    · rintro rfl
      exact ⟨[], cs, by simp [few]⟩
    · rintro ⟨init, cs', ⟨rfl, same⟩ | ⟨rfl, same⟩, -, rfl⟩
      · simpa using same.symm
      · cases same
  | case3 cs many =>
    simp only [appendToTail, many, if_false, reduceCtorEq, List.singleton_eq_append_iff, false_iff]
    rintro ⟨init, cs', ⟨rfl, same⟩ | ⟨rfl, same⟩, few, rfl⟩
    · simp only [List.cons.injEq, Frame.gate.injEq, and_true] at same
      exact many (same ▸ few)
    · cases same
  | case4 f other =>
    simp only [appendToTail, reduceCtorEq, List.singleton_eq_append_iff, false_iff]
    rintro ⟨init, cs', ⟨rfl, same⟩ | ⟨rfl, same⟩, few, rfl⟩
    · simp only [List.cons.injEq, and_true] at same
      exact other cs' same.symm
    · cases same
  | case5 f rest notGate nonempty ih =>
    rw [appendToTail.eq_4 _ _ _ notGate nonempty]
    simp only [Option.map_eq_some_iff, ih, List.cons_eq_append_iff]
    constructor
    · rintro ⟨q1, ⟨init, cs, rfl, few, rfl⟩, rfl⟩
      exact ⟨f :: init, cs, .inr ⟨init, rfl, rfl⟩, few, rfl⟩
    · rintro ⟨init, cs, ⟨rfl, same⟩ | ⟨init', rfl, rfl⟩, few, rfl⟩
      · simp only [List.cons.injEq] at same
        exact absurd same.2.symm nonempty
      · exact ⟨_, ⟨init', cs, rfl, few, rfl⟩, rfl⟩

/-- The queued frames after a command joined the tail GATE frame hold a FIRE command only where one stood or joined. -/
theorem appendToTail_fires {q q' : List Frame} {c : GateCommand} (joined : appendToTail q c = some q') (plain : c.isFire = false)
    (h : ∀ f, f ∈ q → f.fires = []) : ∀ f, f ∈ q' → f.fires = [] := by
  obtain ⟨init, cs, rfl, -, rfl⟩ := appendToTail_eq_some.mp joined
  intro f mem
  rcases List.mem_append.mp mem with old | new
  · exact h f (List.mem_append_left _ old)
  · have none := h (.gate cs) (by simp)
    simp only [Frame.fires] at none
    rw [List.mem_singleton.mp new]
    simp [Frame.fires, List.filter_append, none, plain]

/-- A queue without FIRE commands stays so under notices, reports and BLOCK commands. -/
theorem gateStable_plain : GateStable (fun s => ∀ f, f ∈ s.ps.timed → f.fires = []) where
  counters _ _ h := h
  notice _ _ _ h := h
  place s p c f plain _ h := by
    cases p with
    | north => exact h
    | south =>
      cases c with
      | timed =>
        intro g mem
        rcases List.mem_append.mp mem with old | new
        · exact h g old
        · rw [List.mem_singleton.mp new, plain]
      | _ => exact h
  append s c q plain joined h := appendToTail_fires joined plain h
  channel _ _ _ _ _ h := h

theorem blockChannel_blocked (v : ValveId) (s : State) : ((blockChannel v s).channel v).state = .blocked := by
  unfold blockChannel
  dsimp only
  split
  · next blocked => simpa using blocked
  · simp

theorem blockAll_blocked (s : State) (v : ValveId) : ((blockAll s).channel v).state = .blocked :=
  foldl_reaches (Q := fun s => (s.channel v).state = .blocked) _ (valveIds_mem v) (blockChannel_blocked v)
    (fun s w => (gateStable_blocked v).blockChannel w s) s

theorem warmResetChannel_state (s : State) (v : ValveId) : ((warmResetChannel s v).channel v).state = .blocked := by
  unfold warmResetChannel
  dsimp only
  split
  · exact (gateStable_blocked v).issueGate _ rfl _ (by simp [Channel.warmReset])
  · simp [Channel.warmReset]

/-- The warm reset at one channel keeps what gate commands and a BLOCKED channel keep (R156). -/
theorem GateStable.warmResetChannel {P : State → Prop} (k : GateStable P) (s : State) (v : ValveId) (h : P s) :
    P (warmResetChannel s v) := by
  have put : P (s.setChannel v (s.channel v).warmReset) := k.channel s v _ (fun _ => rfl) (.inl (by simp [Channel.warmReset])) h
  unfold Machine.warmResetChannel
  dsimp only
  split
  · exact k.issueGate _ rfl _ put
  · exact put

/-- The channels after a warm reset's pass over them are BLOCKED (R156). -/
theorem warmResetChannels_blocked (s : State) (v : ValveId) : ((valveIds.foldl warmResetChannel s).channel v).state = .blocked :=
  foldl_reaches (Q := fun s => (s.channel v).state = .blocked) _ (valveIds_mem v) (fun s => warmResetChannel_state s v)
    (fun s w => (gateStable_blocked v).warmResetChannel s w) s

namespace Stable
variable {P : State → Prop} (k : Stable P)
include k

/-- The warm reset, block by block (R202). -/
theorem warmResetAll (s : State) (h : P s) : P (warmResetAll s) := by
  refine foldl_keeps _ (fun s n => k.notice s n _) _ _ (k.warmed _ ?_ ?_ ?_)
  · exact warmResetChannels_blocked _
  · exact foldl_keeps (P := fun s => ∀ f, f ∈ s.ps.timed → f.fires = []) _ (fun s v => gateStable_plain.warmResetChannel s v) _ _
      (fun f mem => by cases mem)
  · exact foldl_keeps _ (fun s v => k.toGateStable.warmResetChannel s v) _ _ (k.blocks s h)

/-! ### Transmission -/

theorem checkCommand (firing : Bool) (c : GateCommand) (s : State) (h : P s) : P (checkCommand firing c s).2 := by
  unfold Machine.checkCommand
  split
  · split
    · split
      · exact h
      · exact k.raise _ _ s h
      · exact k.raise _ _ _ (k.reportFire c _ s h)
    · exact k.reportFire c .notSent s h
  · exact h

theorem checkCommands (firing : Bool) (cs : List GateCommand) (s : State) (h : P s) : P (checkCommands firing cs s).2 := by
  induction cs generalizing s with
  | nil => exact h
  | cons c cs ih => exact ih _ (k.checkCommand firing c s h)

theorem processFrame (f : Frame) (s : State) (h : P s) : P (processFrame f s).2 := by
  unfold Machine.processFrame
  split
  · exact h
  · dsimp only
    split
    · exact k.checkCommands _ _ s h
    · exact k.checkCommands _ _ s h
  · exact h

/-- A frame begun at a transmit-ready port (R18). -/
theorem beginFrame (p : PortId) (c : TxClass) (f : Frame) (s : State) (ready : (s.port p).transmitReady = true) (h : P s) :
    P (beginFrame p c f s) := by
  refine k.modPort s p _ (fun inv => ?_) (fun _ => by simp [Port.sendOwed_timed]) h
  have still : (s.port p).sendOwed.transmitReady = true := by rw [Port.sendOwed_eq]; exact ready
  exact { inv.sendOwed with ready := fun lost => absurd (still.symm.trans lost) (by simp) }

theorem opportunity (p : PortId) (fuel : Nat) (s : State) (ready : (s.port p).transmitReady = true) (h : P s) :
    P (opportunity p fuel s) := by
  induction fuel generalizing s with
  | zero => exact h
  | succ fuel ih =>
    unfold Machine.opportunity
    split
    · exact h
    · next c _ =>
      split
      · exact h
      · next f _ _ =>
        have taken : P (s.modPort p (fun x => x.take c)) := k.modPort s p _ (fun inv => inv.take c) (Port.take_timed _ c) h
        have processed := k.processFrame f _ taken
        have still : ((Machine.processFrame f (s.modPort p (fun x => x.take c))).2.port p).transmitReady = true := by
          rw [(processFrame_gate f _).toSupFrame.transmitReady, State.modPort_port, Port.take_transmitReady, ready]
        dsimp only
        split
        · exact k.beginFrame p c _ _ still processed
        · exact ih _ still processed

theorem startTransmit (p : PortId) (s : State) (h : P s) : P (startTransmit p s) :=
  ite_keeps _ (fun open_ => k.opportunity p _ s (by simp only [Port.hasOpportunity, Bool.and_eq_true] at open_; exact open_.1.1) h)
    (fun _ => h)

theorem endTransmit (p : PortId) (s : State) (h : P s) : P (endTransmit p s) := by
  unfold Machine.endTransmit
  split
  · exact h
  · refine foldl_keeps _ (fun s c => k.reportFire c _ s) _ _ (k.bump _ _ (k.modPort s p _ (fun inv => ?_) (fun _ => id) h))
    exact { inv with ready := fun lost => ⟨rfl, (inv.ready lost).2⟩ }

/-! ### The pace generator and the clock -/

theorem advanceG (j n : Nat) (s : State) (h : P s) : P (advanceG j n s) :=
  k.tracker s _ (fun inv => ⟨inv.inc, inv.gain, inv.lockRun, inv.unlockRun, inv.holdover, inv.step, inv.error⟩) h

/-- The pace event's stages: the request at PN does not meet the row that opens, so each is taken on its own (R45). -/
theorem paceEvent (s : State) (h : P s) : P (paceEvent s) := by
  have ended : P (endPeriod s) := k.advanceG _ _ s h
  have opened := k.opened _ (pFn (endPeriod s).par) ended
  refine k.deadlineCheck _ (k.modPort (openRow ((endPeriod s).setPace ((endPeriod s).pace.next (pFn (endPeriod s).par)))) .north
    (fun x => x.requestPace (paceTag ((endPeriod s).pace.next (pFn (endPeriod s).par)).count)) (fun inv => ?_) ?_ opened)
  · unfold Port.requestPace
    split
    · next receives => exact { inv with request := fun _ => receives }
    · exact inv
  · unfold Port.requestPace
    split <;> exact fun _ => id

theorem paceMarkSent (s : State) (h : P s) : P (paceMarkSent s) := by
  unfold Machine.paceMarkSent
  split
  · exact h
  · refine k.modPort s .north _ (fun inv => ?_) (fun _ => by simp [Port.sendPace, Port.sendOwed_timed]) h
    have sent := inv.sendOwed
    exact { sent with request := by simp [Port.sendPace] }

theorem quietExpiry (s : State) (h : P s) : P (quietExpiry s) := ite_keeps _ (fun _ => k.idleTest _ (k.tables s _ h)) (fun _ => h)

theorem tick (s : State) (h : P s) : P (tick s) := by
  have advanced : P (Machine.advanceG s.pace.clock (s.pace.clock + 1) s) := k.advanceG _ _ s h
  have counted := k.pace (Machine.advanceG s.pace.clock (s.pace.clock + 1) s) { s.pace with clock := s.pace.clock + 1 } rfl advanced
  have north := k.modPort _ .north Port.tick PortInv.tick (fun _ => by rw [Port.tick_timed]; exact id) counted
  have south := k.modPort _ .south Port.tick PortInv.tick (fun _ => by rw [Port.tick_timed]; exact id) north
  have stored := k.tables _ s.tables.tick south
  refine k.engine _ s.engine.tick (.inr ?_) stored
  exact le_rfl

/-! ### The access agent -/

theorem dequeue (r : Request) (s : State) (h : P s) : P (dequeue r s) := by
  unfold Machine.dequeue
  split
  · exact k.agent s _ (fun few => by simp; omega) h
  · exact h

/-- A word of the port configuration within its range (R23). -/
theorem applyPortWord (s : State) (x : Nat × Word) (ok : portWordOk x = true) (h : P s) : P (applyPortWord s x) := by
  unfold Machine.applyPortWord
  unfold portWordOk at ok
  split
  · exact k.oneWay _ _ _ h
  · next word =>
    rw [word] at ok
    refine k.modPort s _ _ (fun inv => ?_) (fun _ => id) h
    exact { inv with threshold := inRange_iff.mp ok }
  · next word =>
    rw [word] at ok
    refine k.modPort s _ _ (fun inv => ?_) (fun _ => id) h
    exact { inv with priority := inRange_iff.mp ok, effAccess := by simp }
  · exact h

theorem applyPortWords (xs : List (Nat × Word)) (ok : xs.all portWordOk = true) (s : State) (h : P s) :
    P (xs.foldl Machine.applyPortWord s) := by
  induction xs generalizing s with
  | nil => exact h
  | cons x xs ih =>
    simp only [List.all_cons, Bool.and_eq_true] at ok
    exact ih ok.2 _ (k.applyPortWord s x ok.1 h)

theorem applyFwdWord (s : State) (x : Nat × Word) (h : P s) : P (applyFwdWord s x) := by
  unfold Machine.applyFwdWord
  split
  · exact k.fwd s _ h
  · exact h

theorem applyWindowWord (s : State) (x : Nat × Word) (h : P s) : P (applyWindowWord s x) := by
  unfold Machine.applyWindowWord
  split
  · exact k.agent s _ id h
  · exact h

theorem applyVectorWord (s : State) (x : Nat × Word) (h : P s) : P (applyVectorWord s x) := by
  unfold Machine.applyVectorWord
  split
  · split
    · exact k.notice s _ _ h
    · exact h
  · exact h

theorem clearCounterWord (s : State) (x : Nat × Word) (h : P s) : P (clearCounterWord s x) := by
  unfold Machine.clearCounterWord
  split
  · exact k.counters s _ h
  · exact h

theorem writeStandby (id : TableId) (i : Nat) (ws : List Word) (s : State) (h : P s) : P (writeStandby id i ws s).2 := by
  unfold Machine.writeStandby
  split
  · exact k.tables s _ h
  · exact h

theorem writeRegion (r : Region) (i : Nat) (ws : List Word) (s : State) (h : P s) : P (writeRegion r i ws s).2 := by
  cases r with
  | portConfig =>
    show P (writePortConfig i ws s).2
    unfold writePortConfig
    split
    · next ok => exact k.applyPortWords _ ok s h
    · exact h
  | forwarding =>
    show P (writeForwarding i ws s).2
    unfold writeForwarding
    split
    · exact foldl_keeps _ k.applyFwdWord _ s h
    · exact h
  | streamTable =>
    show P (writeStreamTable i ws s).2
    unfold writeStreamTable
    dsimp only
    split
    · exact k.applyStreamTable _ s h
    · exact h
  | windows => exact foldl_keeps _ k.applyWindowWord _ s h
  | vectors => exact foldl_keeps _ k.applyVectorWord _ s h
  | counters =>
    show P (writeCounters i ws s).2
    unfold writeCounters
    split
    · exact foldl_keeps _ k.clearCounterWord _ s h
    · exact h
  | staged => exact k.writeStandby _ i ws s h
  | angleStandby => exact k.writeStandby _ i ws s h
  | refStandby => exact k.writeStandby _ i ws s h
  | _ => exact h

theorem accessOutcome (r : Request) (s : State) (h : P s) : P (accessOutcome r s).state := by
  unfold Machine.accessOutcome
  split
  · exact h
  · split
    · exact k.writeRegion _ _ _ s h
    · exact h

theorem serveAccess (r : Request) (s : State) (h : P s) : P (serveAccess r s) :=
  k.dequeue r _ (k.answer _ _ _ _ _ (k.bump _ _ (k.accessOutcome r s h)))

theorem serveCommand (r : Request) (effect : State → Status × State) (s : State) (h : P (effect s).2) : P (serveCommand r effect s) :=
  k.dequeue r _ (k.offer _ _ _ _ rfl (k.bump _ _ h))

/-- A mode or a manual value changed (R115, R116). -/
theorem setMode (s : State) (e : Engine) (pending : e.pendingBoundaries = s.engine.pendingBoundaries) (h : P s) : P (s.setEngine e) :=
  k.engine s e (.inr (by rw [pending])) h

theorem holdEffect (s : State) (h : P s) : P (holdEffect s).2 := by
  unfold Machine.holdEffect
  split <;> first | exact h | exact k.setMode s _ rfl h

theorem releaseEffect (s : State) (h : P s) : P (releaseEffect s).2 := by
  unfold Machine.releaseEffect
  split <;> first | exact h | exact k.setMode s _ rfl h

theorem setModeEffect (a : Word) (s : State) (h : P s) : P (setModeEffect a s).2 := by
  unfold Machine.setModeEffect
  split
  · dsimp only
    split <;> exact k.setMode s _ rfl h
  · exact h

theorem setManualEffect (a : Word) (s : State) (h : P s) : P (setManualEffect a s).2 := by
  unfold Machine.setManualEffect
  split
  · exact k.setMode s _ rfl h
  · exact h

theorem commitTable (id : TableId) (n : Nat) (s : State) (h : P s) : P (commitTable id n s).2 := by
  unfold Machine.commitTable
  dsimp only
  split
  · exact k.tables s _ h
  · exact h

theorem commitEffect (a : Word) (s : State) (h : P s) : P (commitEffect a s).2 := by
  unfold Machine.commitEffect
  split
  · exact k.commitTable _ _ s h
  · exact k.commitTable _ _ s h
  · exact k.commitTable _ _ s h
  · exact h

theorem setStyleEffect (a : Word) (s : State) (h : P s) : P (setStyleEffect a s).2 := by
  unfold Machine.setStyleEffect
  split
  · exact k.channel s _ _ id (.inr rfl) h
  · exact h

theorem setBufferingEffect (a : Word) (s : State) (h : P s) : P (setBufferingEffect a s).2 := by
  unfold Machine.setBufferingEffect
  split
  · exact k.channel s _ _ id (.inr rfl) h
  · exact h

theorem retrainEffect (a : Word) (s : State) (h : P s) : P (retrainEffect a s).2 := by
  unfold Machine.retrainEffect
  split
  · exact k.retrainPort s _ h
  · split
    · exact k.retrainPort s _ h
    · exact h

theorem clearSource (n : SourceId) (s : State) (h : P s) : P (clearSource n s) := by
  unfold Machine.clearSource
  dsimp only
  split
  · split
    · exact k.notice s _ _ h
    · exact k.sendNotice _ _ _ s h
  · exact h

theorem clearNoticeEffect (a : Word) (s : State) (h : P s) : P (clearNoticeEffect a s).2 := by
  unfold Machine.clearNoticeEffect
  split
  · exact k.clearSource _ s h
  · exact h

theorem serveWarmReset (r : Request) (s : State) (h : P s) : P (serveWarmReset r s) :=
  foldl_keeps _ (fun s _ => k.bump _ s) _ _ (k.agent _ _ (fun _ => by simp) (k.offer _ _ _ _ rfl (k.bump _ _ (k.warmResetAll s h))))

theorem commandEffect (code a : Word) (s : State) (h : P s) : P (commandEffect code a s).2 := by
  unfold Machine.commandEffect
  refine iteInduction (motive := fun o : Status × State => P o.2) (fun _ => k.startEffect s h) fun _ => ?_
  refine iteInduction (motive := fun o : Status × State => P o.2) (fun _ => k.stopEffect s h) fun _ => ?_
  refine iteInduction (motive := fun o : Status × State => P o.2) (fun _ => k.holdEffect s h) fun _ => ?_
  refine iteInduction (motive := fun o : Status × State => P o.2) (fun _ => k.releaseEffect s h) fun _ => ?_
  refine iteInduction (motive := fun o : Status × State => P o.2) (fun _ => k.setModeEffect a s h) fun _ => ?_
  refine iteInduction (motive := fun o : Status × State => P o.2) (fun _ => k.setManualEffect a s h) fun _ => ?_
  refine iteInduction (motive := fun o : Status × State => P o.2) (fun _ => k.commitEffect a s h) fun _ => ?_
  refine iteInduction (motive := fun o : Status × State => P o.2) (fun _ => k.resetTripEffect s h) fun _ => ?_
  refine iteInduction (motive := fun o : Status × State => P o.2) (fun _ => k.retrainEffect a s h) fun _ => ?_
  refine iteInduction (motive := fun o : Status × State => P o.2) (fun _ => k.clearNoticeEffect a s h) fun _ => ?_
  refine iteInduction (motive := fun o : Status × State => P o.2) (fun _ => k.setBufferingEffect a s h) fun _ => ?_
  exact iteInduction (motive := fun o : Status × State => P o.2) (fun _ => k.setStyleEffect a s h) fun _ => h

theorem serveRequest (r : Request) (s : State) (h : P s) : P (serveRequest r s) :=
  iteInduction (fun _ => iteInduction (fun _ => k.serveWarmReset r s h) (fun _ => k.serveCommand r _ s (k.commandEffect _ _ s h)))
    (fun _ => k.serveAccess r s h)

/-! ### The step -/

theorem idle (s : State) (h : P s) : P (idle s) := by
  unfold Machine.idle
  split
  · exact k.pending s _ h
  · split
    · exact k.serveRequest _ s h
    · exact k.tick s h

theorem receiveFour (p : PortId) (s1 s2 s3 : LineSymbol) (s : State) (h : P s) : P (receiveFour p s1 s2 s3 s) := by
  unfold Machine.receiveFour
  split
  · exact k.receiveMark s p _ h
  · exact k.receiveIllFormed s p s1 s2 s3 h

theorem issueCommanded (v : ValveId) (s : State) (h : P s) : P (issueCommanded v s) :=
  ite_keeps _ (fun _ => k.issuePositionReached v _ (k.arriveAt _ s h)) (fun _ => h)

/-- Every command keeps a stable predicate. -/
theorem exec {i : Instr} {s t : State} (h : P s) (run : exec i s = .next t) : P t := by
  have next {u : State} (hu : P u) (eq : Host.Outcome.next u = (.next t : Host.Outcome State Fault Refusal)) : P t := by
    injection eq with eq
    exact eq ▸ hu
  cases i with
  | powerOnReset straps => exact next (k.powerOnReset straps s) run
  | signalPresent p => exact next (k.findSignal s p h) run
  | lossOfSignal p r => exact next (k.loseSignal _ p (k.receiveSymbols s p r h)) run
  | lossOfAlignment p r => exact next (k.alignmentLost _ p (k.receiveSymbols s p r h)) run
  | validMarkReceived p r m => exact next (k.receiveMark _ p m (k.receiveSymbols s p r h)) run
  | illFormedMarkReceived p r s1 s2 s3 => exact next (k.receiveFour p s1 s2 s3 _ (k.receiveSymbols s p r h)) run
  | frameArrival p r e => exact next (k.frameArrival p r e s h) run
  | seekTimerExpiry p => exact next (k.seekExpiry s p h) run
  | alignTimerExpiry p => exact next (k.alignExpiry s p h) run
  | holdoffTimerExpiry p => exact next (k.holdoffExpiry s p h) run
  | monitoringWindowExpiry p => exact next (k.windowExpiry s p h) run
  | transmitStart p => exact next (k.startTransmit p s h) run
  | transmitEnd p => exact next (k.endTransmit p s h) run
  | paceMarkSent => exact next (k.paceMarkSent s h) run
  | paceEvent => exact next (k.paceEvent s h) run
  | timemarkPositionReached => exact next (k.timemarkReached _ (k.arriveAt _ s h)) run
  | passBoundaryReached => exact next (k.boundaryReached _ (k.arriveAt _ s h)) run
  | loadPointReached v => exact next (k.loadPointReached v _ (k.arriveAt _ s h)) run
  | issuePositionReached v => exact next (k.issueCommanded v s h) run
  | passCompletion order => exact next (k.passCompletion order s h) run
  | checkCompletion id => exact next (k.checkCompletion id s h) run
  | quietTimerExpiry => exact next (k.quietExpiry s h) run
  | start r => exact next (k.serveCommand _ _ s (k.startEffect s h)) run
  | stop r => exact next (k.serveCommand _ _ s (k.stopEffect s h)) run
  | hold r => exact next (k.serveCommand _ _ s (k.holdEffect s h)) run
  | release r => exact next (k.serveCommand _ _ s (k.releaseEffect s h)) run
  | setMode r => exact next (k.serveCommand _ _ s (k.setModeEffect _ s h)) run
  | setManualL r => exact next (k.serveCommand _ _ s (k.setManualEffect _ s h)) run
  | commit r => exact next (k.serveCommand _ _ s (k.commitEffect _ s h)) run
  | resetTrip r => exact next (k.serveCommand _ _ s (k.resetTripEffect s h)) run
  | warmReset r => exact next (k.serveWarmReset _ s h) run
  | retrain r => exact next (k.serveCommand _ _ s (k.retrainEffect _ s h)) run
  | clearNotice r => exact next (k.serveCommand _ _ s (k.clearNoticeEffect _ s h)) run
  | setBuffering r => exact next (k.serveCommand _ _ s (k.setBufferingEffect _ s h)) run
  | setStyle r => exact next (k.serveCommand _ _ s (k.setStyleEffect _ s h)) run
  | portConfigurationWrite w => exact next (k.serveAccess _ s h) run
  | forwardingTableWrite w => exact next (k.serveAccess _ s h) run
  | streamTableWrite w => exact next (k.serveAccess _ s h) run
  | accessWindowWrite w => exact next (k.serveAccess _ s h) run
  | noticeVectorWrite w => exact next (k.serveAccess _ s h) run
  | counterClear w => exact next (k.serveAccess _ s h) run
  | standbyOrStagedWrite w => exact next (k.serveAccess _ s h) run
  | readOnlyRegionWrite w => exact next (k.serveAccess _ s h) run
  | invalidSymbolReceived p r => exact next (k.receiveInvalid _ p (k.receiveSymbols s p r h)) run

/-- Every step keeps a stable predicate. -/
theorem step {s t : State} (h : P s) (run : step s = .next t) : P t := by
  unfold Machine.step at run
  split at run
  · injection run with run
    exact run ▸ k.idle s h
  · exact k.exec (k.pending s _ h) run

end Stable
end Sys2Proof.Machine
end

section
/-! The invariants: each is a stable predicate. -/

namespace Sys2Proof.Machine

/-- An update that keeps P for every supervisor, every channel and every frame placed keeps it through the supervisor's moves. -/
theorem CoreStable.of_supFree {P : State → Prop} (k : GateStable P)
    (channel : ∀ s v c, (c.misses ≤ 15 ∨ c.misses = (s.channel v).misses) → P s → P (s.setChannel v c))
    (placed : ∀ s c, offerOutcome .south .timed s = .placed → P s →
      P (s.modPort .south (fun x => x.setQueue .timed (x.queue .timed ++ [.gate [c]]))))
    (appended : ∀ s c q, appendToTail s.ps.timed c = some q → P s → P (s.modPort .south (fun x => { x with timed := q })))
    (purged : ∀ s, P s → P (purgeQueue s))
    (sup : ∀ s u, P s → P (s.setSup u)) (tables : ∀ s t, P s → P (s.setTables t))
    (tracker : ∀ s t, (TrackerInv s.tracker → TrackerInv t) → P s → P (s.setTracker t))
    (pace : ∀ s x, x.count = s.pace.count → P s → P (s.setPace x))
    (engine : ∀ s e, (e.pendingBoundaries.length ≤ 2 ∨ e.pendingBoundaries.length ≤ s.engine.pendingBoundaries.length) →
      P s → P (s.setEngine e)) : CoreStable P := by
  have issued (c : GateCommand) (s : State) (h : P s) : P (issueGate c s) :=
    k.issueGate_of c (fun s room h => placed s c room h) (fun s q joined h => appended s c q joined h) s h
  have deblocked (s : State) (v : ValveId) (h : P s) : P (deblockChannel v s) :=
    ite_keeps _ (fun _ => channel _ v _ (.inl (by simp)) (issued _ s h)) (fun _ => h)
  have moved (s : State) (new : OpState) (c : Cause) (v : ValveId) (h : P s) : P (moveTo new c v s) := by
    have entered := k.raise srcOperatingState (moveDetail s.sup.state new c v) (enterState new s) (sup s _ h)
    unfold moveTo moveConsequences
    dsimp only
    split
    · exact ite_keeps _ (fun _ => foldl_keeps _ deblocked _ _ entered) (fun _ => entered)
    · exact entered
    · exact ite_keeps _ (fun _ => k.reportPurged _ _ (k.blockAll _ (purged _ entered))) (fun _ => k.blockAll _ entered)
  exact
    { k with
      issue := fun s v _ h => issued _ _ (channel s v _ (.inr rfl) h)
      sup := fun s u _ h => sup s u h
      move := fun s new c v _ _ _ h => moved s new c v h
      block := fun s c v _ h => by
        have counted := k.bump .blockEntries _ (sup s { s.sup with
          history := appendHistory s.sup.history (blockHistoryEntry c v s), holding := 0, ramp := false } h)
        unfold blockEntry
        dsimp only
        split
        · exact k.raise _ _ _ (moved _ _ _ _ (k.bump _ _ (sup _ _ counted)))
        · exact moved _ _ _ _ (sup _ _ counted)
      clearTrip := fun s c _ _ _ h => moved _ _ _ _ (sup s _ h)
      tables := tables
      tracker := tracker
      pace := pace
      engine := engine }

/-- A predicate that keeps under every port update with no more in TIMED keeps through a change of a port's state. -/
theorem CoreStable.flushIfLost_of {P : State → Prop} (k : CoreStable P)
    (set : ∀ s p x, x.timed ⊆ (s.port p).timed → P s → P (s.setPort p x)) (b : Bool) (p : PortId) (s : State) (h : P s) :
    P (flushIfLost b p s) := by
  have flushed : P (s.modPort p Port.flushed) := set s p _ (List.nil_subset _) h
  refine ite_keeps _ (fun _ => foldl_keeps _ (fun s f => k.reportFrameNotSent f s) _ _ ?_) (fun _ => h)
  refine k.countDrops _ _ _ _ (k.countDrops _ _ _ _ (k.countDrops _ _ _ _ (k.countDrops _ _ _ _ ?_)))
  split
  · exact k.bump _ _ flushed
  · exact flushed

theorem CoreStable.changeLink_of {P : State → Prop} (k : CoreStable P)
    (set : ∀ s p x, x.timed ⊆ (s.port p).timed → P s → P (s.setPort p x)) (p : PortId) (new : LinkState) (s : State) (h : P s) :
    P (changeLink p new s) := by
  have left (s : State) (h : P s) : P (leaveWorking p s) :=
    set _ p _ (fun _ => id) (ite_keeps _ (fun _ => h) (fun _ => k.raise _ _ _ (set s p _ (fun _ => id) h)))
  have told := k.raiseIf ((s.port p).link != new) (srcPortState p) (linkDetail (s.port p).link new) _
    (k.flushIfLost_of set (s.port p).transmitReady p (s.modPort p (fun x => x.enter new)) (set s p _ (fun _ => id) h))
  have stopped := ite_keeps ((s.port p).link.receives && !new.receives) (fun _ => left _ told) (fun _ => told)
  exact iteInduction (fun _ => k.psChanged _ _ _ stopped) (fun _ => stopped)

/-- A predicate that keeps under every port update with no more in TIMED is stable where its own blocks' updates keep it. -/
theorem Stable.of_ports {P : State → Prop} (k : CoreStable P)
    (set : ∀ s p x, x.timed ⊆ (s.port p).timed → P s → P (s.setPort p x))
    (merge : ∀ s m, (MergeInv s → MergeInv (s.setMerge m)) → P s → P (s.setMerge m))
    (opened : ∀ s fn, P s → P (openRow (s.setPace (s.pace.next fn))))
    (agent : ∀ s a, (s.agent.queue.length ≤ 4 → a.queue.length ≤ 4) → P s → P (s.setAgent a))
    (fwd : ∀ s t, P s → P { s with fwd := t }) (pending : ∀ s q, P s → P { s with pending := q })
    (powered : ∀ straps n m q, P { State.powerOn straps n m with pending := q })
    (blocks : ∀ s, P s → P (warmResetBlocks s))
    (warmed : ∀ s, (∀ v, (s.channel v).state = .blocked) → (∀ f, f ∈ s.ps.timed → f.fires = []) → P s →
      P (s.setSup (s.sup.warmReset s.merge.feedersMet))) : Stable P :=
  { k with
    port := fun _ s p x _ h _ timed => set s p x timed h
    change := fun s p new _ _ timed h => k.changeLink_of set p new _ (set s p _ (fun _ mem => timed ▸ mem) h)
    oneWay := fun s p _ h => k.flushIfLost_of set _ p _ (set s p _ (fun _ => id) h)
    merge := merge, opened := opened, agent := agent, fwd := fwd, pending := pending, powered := powered, blocks := blocks
    warmed := warmed }

/-! ### The tracker -/

theorem gateStable_tracker : GateStable (fun s => TrackerInv s.tracker) where
  counters _ _ h := h
  notice _ _ _ h := h
  place s p _ _ _ _ h := by simpa using h
  append _ _ _ _ _ h := h
  channel _ _ _ _ _ h := h

theorem trackerPowerOn_inv : TrackerInv trackerPowerOn := by
  constructor <;> decide

theorem stable_tracker : Stable (fun s => TrackerInv s.tracker) :=
  .of_ports
    (.of_supFree gateStable_tracker (fun _ _ _ _ h => h) (fun _ _ _ h => h) (fun _ _ _ _ h => h) (fun _ h => h) (fun _ _ h => h)
      (fun _ _ h => h) (fun _ _ keeps h => keeps h) (fun _ _ _ h => h) (fun _ _ _ h => h))
    (fun s p x _ h => by simpa using h) (fun _ _ _ h => h) (fun _ _ h => h) (fun _ _ _ h => h) (fun _ _ h => h) (fun _ _ h => h)
    (fun _ _ _ _ => trackerPowerOn_inv) (fun _ h => h.setFree) (fun _ _ _ h => h)

/-! ### The merge unit -/

theorem MergeInv.congr {s t : State} (h : MergeInv s) (merge : t.merge = s.merge) (count : t.pace.count = s.pace.count) : MergeInv t := by
  obtain ⟨rows, newest, history, ring⟩ := h
  constructor <;> simp only [merge, count] <;> assumption

theorem gateStable_merge : GateStable MergeInv where
  counters _ _ h := h.congr rfl rfl
  notice _ _ _ h := h.congr rfl rfl
  place s p _ _ _ _ h := h.congr (by simp) (by simp)
  append _ _ _ _ _ h := h.congr rfl rfl
  channel _ _ _ _ _ h := h.congr rfl rfl

/-- The pace event counted and its row opened (R45, R58). -/
theorem MergeInv.opened {s : State} (fn : Nat) (h : MergeInv s) : MergeInv (openRow (s.setPace (s.pace.next fn))) := by
  have newest := h.newest
  refine ⟨fun i hi => ?_, ?_, h.history, h.ring⟩
  · simp only [openRow, State.setMerge_merge, State.setPace_merge, List.length_append, List.length_singleton] at hi ⊢
    by_cases old : i < s.merge.rows.length
    · rw [List.getElem_append_left old]
      exact h.rows i old
    · obtain rfl : i = s.merge.rows.length := by omega
      simp only [List.getElem_concat_length, State.setPace_pace, Pace.next, newest]
      bv_omega
  · simp only [openRow, State.setMerge_merge, State.setPace_merge, State.setMerge_pace, State.setPace_pace, Pace.next, newest,
      List.length_append, List.length_singleton]
    bv_omega

/-- No open row, P closed last and an empty history meet the bounds. -/
theorem MergeInv.of_empty {s : State} (rows : s.merge.rows = []) (last : s.merge.lastClosed = s.pace.count)
    (history : s.merge.history = []) : MergeInv s := by
  constructor <;> simp [rows, last, history]

theorem stable_merge : Stable MergeInv :=
  .of_ports
    (.of_supFree gateStable_merge (fun _ _ _ _ h => h.congr rfl rfl) (fun _ _ _ h => h.congr rfl rfl) (fun _ _ _ _ h => h.congr rfl rfl)
      (fun _ h => h.congr rfl rfl) (fun _ _ h => h.congr rfl rfl) (fun _ _ h => h.congr rfl rfl) (fun _ _ _ h => h.congr rfl rfl)
      (fun _ _ count h => h.congr rfl count) (fun _ _ _ h => h.congr rfl rfl))
    (fun s p x _ h => h.congr (by simp) (by simp)) (fun _ _ keeps h => keeps h) (fun _ fn h => h.opened fn)
    (fun _ _ _ h => h.congr rfl rfl) (fun _ _ h => h.congr rfl rfl) (fun _ _ h => h.congr rfl rfl)
    (fun _ _ _ _ => .of_empty rfl rfl rfl) (fun s _ => .of_empty rfl rfl rfl) (fun _ _ _ h => h.congr rfl rfl)

/-! ### The engine's list, the miss counts and the request queue -/

/-- A channel's update that keeps its miss count in bounds. -/
theorem BlockInv.setChannel {s : State} {v : ValveId} {c : Channel} (h : BlockInv s)
    (few : c.misses ≤ 15 ∨ c.misses = (s.channel v).misses) : BlockInv (s.setChannel v c) := by
  refine ⟨h.boundaries, fun w => ?_, h.requests⟩
  by_cases same : w = v
  · subst same
    rw [State.channel_setChannel]
    exact few.elim id (fun kept => kept ▸ h.misses w)
  · rw [State.channel_setChannel_ne _ _ same]
    exact h.misses w

theorem gateStable_block : GateStable BlockInv where
  counters _ _ h := ⟨h.boundaries, h.misses, h.requests⟩
  notice _ _ _ h := ⟨h.boundaries, h.misses, h.requests⟩
  place s p _ _ _ _ h := ⟨by simpa using h.boundaries, by simpa using h.misses, by simpa using h.requests⟩
  append _ _ _ _ _ h := ⟨h.boundaries, h.misses, h.requests⟩
  channel _ _ _ _ few h := h.setChannel few

theorem reset_misses : ∀ v : ValveId, (State.reset.channel v).misses ≤ 15 := by decide

theorem stable_block : Stable BlockInv :=
  .of_ports
    (.of_supFree gateStable_block (fun _ _ _ few h => h.setChannel few) (fun _ _ _ h => ⟨h.boundaries, h.misses, h.requests⟩)
      (fun _ _ _ _ h => ⟨h.boundaries, h.misses, h.requests⟩) (fun _ h => ⟨h.boundaries, h.misses, h.requests⟩)
      (fun _ _ h => ⟨h.boundaries, h.misses, h.requests⟩) (fun _ _ h => ⟨h.boundaries, h.misses, h.requests⟩)
      (fun _ _ _ h => ⟨h.boundaries, h.misses, h.requests⟩) (fun _ _ _ h => ⟨h.boundaries, h.misses, h.requests⟩)
      (fun _ _ few h => ⟨few.elim id (fun le => le.trans h.boundaries), h.misses, h.requests⟩))
    (fun s p x _ h => ⟨by simpa using h.boundaries, by simpa using h.misses, by simpa using h.requests⟩)
    (fun _ _ _ h => ⟨h.boundaries, h.misses, h.requests⟩) (fun _ _ h => ⟨h.boundaries, h.misses, h.requests⟩)
    (fun _ _ few h => ⟨h.boundaries, h.misses, few h.requests⟩) (fun _ _ h => ⟨h.boundaries, h.misses, h.requests⟩)
    (fun _ _ h => ⟨h.boundaries, h.misses, h.requests⟩) (fun _ _ _ _ => ⟨Nat.zero_le _, reset_misses, Nat.zero_le _⟩)
    (fun _ h => ⟨Nat.zero_le _, h.misses, h.requests⟩) (fun _ _ _ h => ⟨h.boundaries, h.misses, h.requests⟩)

/-! ### The supervisor -/

theorem gateStable_sup : GateStable (fun s => SupInv s.sup) where
  counters _ _ h := h
  notice _ _ _ h := h
  place s p _ _ _ _ h := by simpa using h
  append _ _ _ _ _ h := h
  channel _ _ _ _ _ h := h

/-- The state entered keeps the supervisor's bounds where the latch follows it and a ramp order stays in HOLDING (R171, R172). -/
theorem SupInv.entered {s : State} (h : SupInv s.sup) {new : OpState} (latched : s.sup.trip.latched = decide (new = .tripped))
    (ramp : s.sup.ramp = true → new = .holding) : SupInv (enterState new s).sup :=
  ⟨h.history, h.recovery, h.holding, by cases new <;> rfl, latched, ramp⟩

theorem appendHistory_length (h : List HistoryEntry) (e : HistoryEntry) : (appendHistory h e).length ≤ 15 := by
  unfold appendHistory
  split <;> simp <;> omega

theorem coreStable_sup : CoreStable (fun s => SupInv s.sup) :=
  { gateStable_sup with
    issue := fun s v _ h => by rwa [(issueFire_gate v s).sup]
    sup := fun _ _ stays h => stays.2 h
    move := fun s new c v live old ramp h => by
      rw [moveTo_sup]
      exact h.entered (by simp [h.latched, old, live]) (fun on => ramp (h.ramp on) on)
    block := fun s c v fires h => by
      unfold blockEntry
      dsimp only
      split
      · unfold trip
        rw [(raise_quiet _ _ _).sup, moveTo_sup]
        exact ⟨appendHistory_length _ _, h.recovery, Nat.zero_le _, rfl, rfl, fun on => by cases on⟩
      · rw [moveTo_sup]
        refine ⟨appendHistory_length _ _, Nat.zero_le _, Nat.zero_le _, rfl, ?_, fun on => by cases on⟩
        have running : s.sup.state ≠ .tripped := by
          intro tripped
          simp [tripped, OpState.fires] at fires
        exact h.latched.trans (by simp [running])
    clearTrip := fun s c hist tripped length h => by
      rw [moveTo_sup]
      exact ⟨length ▸ h.history, h.recovery, h.holding, rfl, rfl, fun on => absurd (h.ramp on) (by simp [tripped])⟩
    tables := fun _ _ h => h
    tracker := fun _ _ _ h => h
    pace := fun _ _ _ h => h
    engine := fun _ _ _ h => h }

theorem supervisorPowerOn_inv : SupInv supervisorPowerOn := by
  constructor <;> decide

theorem stable_sup : Stable (fun s => SupInv s.sup) :=
  .of_ports coreStable_sup (fun s p x _ h => by simpa using h) (fun _ _ _ h => h) (fun _ _ h => h) (fun _ _ _ h => h) (fun _ _ h => h)
    (fun _ _ h => h) (fun _ _ _ _ => supervisorPowerOn_inv) (fun _ h => h)
    (fun s _ _ h => by
      refine ⟨h.history, Nat.zero_le _, Nat.zero_le _, ?_, ?_, by simp [Supervisor.warmReset]⟩
      · cases e : s.sup.state <;> simp [Supervisor.warmReset, e]
      · rw [State.setSup_sup]
        cases e : s.sup.state <;> simpa [Supervisor.warmReset, e] using h.latched)

/-- Settles O59: the tracker's, the supervisor's and the blocks' bounds are stable predicates. -/
theorem numbersStayInRange : Obligations.NumbersStayInRange := by
  unfold Obligations.NumbersStayInRange
  intro s t tracker sup block run
  exact ⟨stable_tracker.step tracker run, stable_sup.step sup run, stable_block.step block run⟩

/-- Settles O58: the order of the rows and the history is a stable predicate. -/
theorem rowsAndHistoryStayInOrder : Obligations.RowsAndHistoryStayInOrder := by
  unfold Obligations.RowsAndHistoryStayInOrder
  exact fun s t inv run => stable_merge.step inv run

/-! ### Firing -/

/-- The bounds hold where every channel is BLOCKED and no FIRE command waits. -/
theorem FiringInv.quenched {s : State} (blocked : ∀ v : ValveId, (s.channel v).state = .blocked)
    (plain : ∀ f, f ∈ s.ps.timed → f.fires = []) : FiringInv s := ⟨fun _ => blocked, fun _ => plain⟩

/-- Where firing is permitted the bounds ask nothing. -/
theorem FiringInv.permitted {s : State} (fires : s.sup.state.fires = true) : FiringInv s :=
  ⟨fun h => by simp [fires] at h, fun h => by simp [fires] at h⟩

theorem gateStable_firing : GateStable FiringInv where
  counters _ _ h := ⟨h.blocked, h.purged⟩
  notice _ _ _ h := ⟨h.blocked, h.purged⟩
  place s p c f plain room h := by
    refine ⟨fun off v => by simpa using h.blocked (by simpa using off) v, fun off => ?_⟩
    exact gateStable_plain.place s p c f plain room (h.purged (by simpa using off))
  append s c q plain joined h := ⟨h.blocked, fun off => gateStable_plain.append s c q plain joined (h.purged off)⟩
  channel s v c blocked few h :=
    ⟨fun off w => (gateStable_blocked w).channel s v c blocked few (h.blocked off w), h.purged⟩

/-- A purged frame holds no FIRE command (R41). -/
theorem purgeFrame_fires {f g : Frame} (kept : purgeFrame f = some g) : g.fires = [] := by
  cases f with
  | gate cs =>
    simp only [purgeFrame] at kept
    split at kept
    · cases kept
    · obtain rfl := Option.some.inj kept
      simp [Frame.fires]
  | _ =>
    obtain rfl := Option.some.inj kept
    rfl

theorem purgeQueue_plain (s : State) : ∀ f, f ∈ (purgeQueue s).ps.timed → f.fires = [] := by
  intro f mem
  obtain ⟨g, -, kept⟩ := List.mem_filterMap.mp mem
  exact purgeFrame_fires kept

/-- After a purge and a block every channel is BLOCKED, and no FIRE command waits (R41, R149, R186). -/
theorem purgeAndBlock_quenched (s : State) : FiringInv (purgeAndBlock s) :=
  .quenched (fun v => (gateStable_blocked v).reportPurged _ _ (blockAll_blocked _ v))
    (gateStable_plain.reportPurged _ _ (gateStable_plain.blockAll _ (purgeQueue_plain s)))

/-- A move of the operating state keeps the firing bounds (R186). -/
theorem FiringInv.moveTo {s : State} (h : FiringInv s) (new : OpState) (c : Cause) (v : ValveId) : FiringInv (moveTo new c v s) := by
  by_cases fires : new.fires = true
  · exact .permitted (by rw [moveTo_state, fires])
  · have told := raise_quiet srcOperatingState (moveDetail s.sup.state new c v) (enterState new s)
    unfold Machine.moveTo moveConsequences
    dsimp only
    split
    · simp [OpState.fires] at fires
    · simp [OpState.fires] at fires
    · split
      · exact purgeAndBlock_quenched _
      · next off =>
        refine .quenched (blockAll_blocked _) (gateStable_plain.blockAll _ ?_)
        rw [told.timed]
        exact h.purged (by simpa using off)

/-- The supervisor's own updates leave the firing bounds where the operating state stays. -/
theorem FiringInv.setSup {s : State} (h : FiringInv s) {u : Supervisor} (state : u.state = s.sup.state) : FiringInv (s.setSup u) :=
  ⟨fun off => h.blocked (by rwa [State.setSup_sup, state] at off), fun off => h.purged (by rwa [State.setSup_sup, state] at off)⟩

theorem coreStable_firing : CoreStable FiringInv :=
  { gateStable_firing with
    issue := fun s v live h => .permitted (by
      rw [(issueFire_gate v s).sup]
      by_contra off
      exact live (h.blocked (by simpa using off) v))
    sup := fun _ _ stays h => h.setSup stays.1
    move := fun _ new c v _ _ _ h => h.moveTo new c v
    block := fun s c v _ h => by
      have counted := gateStable_firing.bump .blockEntries _ (h.setSup (u := { s.sup with
        history := appendHistory s.sup.history (blockHistoryEntry c v s), holding := 0, ramp := false }) rfl)
      unfold blockEntry
      dsimp only
      split
      · unfold trip latchTrip
        refine gateStable_firing.raise _ _ _ (.moveTo (gateStable_firing.bump _ _ (.setSup counted ?_)) _ _ _)
        rfl
      · refine .moveTo (.setSup counted ?_) _ _ _
        rfl
    clearTrip := fun s c hist _ _ h => by
      refine .moveTo (h.setSup ?_) _ _ _
      rfl
    tables := fun _ _ h => ⟨h.blocked, h.purged⟩
    tracker := fun _ _ _ h => ⟨h.blocked, h.purged⟩
    pace := fun _ _ _ h => ⟨h.blocked, h.purged⟩
    engine := fun _ _ _ h => ⟨h.blocked, h.purged⟩ }

theorem reset_blocked : ∀ v : ValveId, (State.reset.channel v).state = .blocked := by decide

theorem stable_firing : Stable FiringInv :=
  .of_ports coreStable_firing
    (fun s p x fewer h => by
      refine ⟨fun off v => by simpa using h.blocked (by simpa using off) v, fun off f mem => ?_⟩
      have plain := h.purged (by simpa using off)
      cases p with
      | north => exact plain f mem
      | south => exact plain f (fewer mem))
    (fun _ _ _ h => ⟨h.blocked, h.purged⟩) (fun _ _ h => ⟨h.blocked, h.purged⟩) (fun _ _ _ h => ⟨h.blocked, h.purged⟩)
    (fun _ _ h => ⟨h.blocked, h.purged⟩) (fun _ _ h => ⟨h.blocked, h.purged⟩)
    (fun _ _ _ _ => .quenched reset_blocked (fun _ mem => by cases mem))
    (fun _ h => ⟨h.blocked, fun _ _ mem => by cases mem⟩) (fun _ blocked plain _ => .quenched blocked plain)

/-- Settles O60: the firing bounds are a stable predicate. -/
theorem blockedOutsideFiringStates : Obligations.BlockedOutsideFiringStates := by
  unfold Obligations.BlockedOutsideFiringStates
  exact fun s t inv run => stable_firing.step inv run

/-! ### The ports -/

/-- The port as it is left when it leaves UP and FAR_FAULT (R3, R5, R20). -/
def Port.left (x : Port) : Port := { x with windowTimer := none, rx := none, paceRequest := none, degraded := false }

/-- The port, left where b says so. -/
def Port.leftIf (b : Bool) (x : Port) : Port := if b then x.left else x

/-- Every port meets its bounds, once those that b names are left. -/
def PortsInv (b : PortId → Bool) (s : State) : Prop := ∀ p, PortInv ((s.port p).leftIf (b p))

theorem Port.left_setQueue (x : Port) (c : TxClass) (q : List Frame) : (x.setQueue c q).left = x.left.setQueue c q := by cases c <;> rfl

theorem Port.leftIf_setQueue (b : Bool) (x : Port) (c : TxClass) (q : List Frame) :
    (x.setQueue c q).leftIf b = (x.leftIf b).setQueue c q := by
  cases b with
  | false => rfl
  | true => exact x.left_setQueue c q

theorem Port.leftIf_queue (b : Bool) (x : Port) (c : TxClass) : (x.leftIf b).queue c = x.queue c := by
  cases b <;> cases c <;> rfl

theorem Port.leftIf_transmitReady (b : Bool) (x : Port) : (x.leftIf b).transmitReady = x.transmitReady := by cases b <;> rfl

/-- A transmit-ready port's queue replaced by one within its capacity (R30, R31). -/
theorem PortInv.setQueue {x : Port} (h : PortInv x) (ready : x.transmitReady = true) {c : TxClass} {q : List Frame}
    (fits : q.length ≤ capacity c) : PortInv (x.setQueue c q) := by
  cases c with
  | timed => exact { h with timed := fits, ready := fun lost => absurd (ready.symm.trans lost) (by simp) }
  | access => exact { h with access := fits, ready := fun lost => absurd (ready.symm.trans lost) (by simp) }
  | measure => exact { h with measure := fits, ready := fun lost => absurd (ready.symm.trans lost) (by simp) }
  | pass => exact { h with pass := fits, ready := fun lost => absurd (ready.symm.trans lost) (by simp) }

theorem offerOutcome_placed_iff {p : PortId} {c : TxClass} {s : State} :
    offerOutcome p c s = .placed ↔ (s.port p).transmitReady = true ∧ ((s.port p).queue c).length < capacity c := by
  unfold offerOutcome
  split
  · split <;> simp [*]
  · simp [*]

/-- One port replaced by one that meets its bounds. -/
theorem PortsInv.setPort {b : PortId → Bool} {s : State} (h : PortsInv b s) {p : PortId} {x : Port} (inv : PortInv (x.leftIf (b p))) :
    PortsInv b (s.setPort p x) := by
  intro q
  by_cases same : q = p
  · subst same
    rwa [State.setPort_port]
  · rw [State.setPort_port_ne _ _ same]
    exact h q

theorem PortsInv.congr {b : PortId → Bool} {s t : State} (h : PortsInv b s) (north : t.pn = s.pn) (south : t.ps = s.ps) :
    PortsInv b t := by
  intro p
  cases p with
  | north => exact (show t.port .north = s.port .north from north) ▸ h .north
  | south => exact (show t.port .south = s.port .south from south) ▸ h .south

theorem PortsInv.placed {b : PortId → Bool} {s : State} (h : PortsInv b s) {p : PortId} {c : TxClass} (f : Frame)
    (room : offerOutcome p c s = .placed) : PortsInv b (s.modPort p (fun x => x.setQueue c (x.queue c ++ [f]))) := by
  obtain ⟨ready, few⟩ := offerOutcome_placed_iff.mp room
  refine h.setPort ?_
  rw [Port.leftIf_setQueue]
  exact (h p).setQueue (by rw [Port.leftIf_transmitReady, ready]) (by simpa using few)

/-- A command joined to the tail frame of PS's queue: the queue is as long as before, and PS is ready to have it (R19, R35). -/
theorem PortsInv.appended {b : PortId → Bool} {s : State} (h : PortsInv b s) {c : GateCommand} {q : List Frame}
    (joined : appendToTail s.ps.timed c = some q) : PortsInv b (s.modPort .south (fun x => { x with timed := q })) := by
  obtain ⟨init, cs, before, -, rfl⟩ := appendToTail_eq_some.mp joined
  have inv := h .south
  have timed : ((s.port .south).leftIf (b .south)).timed = init ++ [.gate cs] := (Port.leftIf_queue _ _ .timed).trans before
  refine h.setPort ?_
  show PortInv (((s.port .south).setQueue .timed (init ++ [.gate (cs ++ [c])])).leftIf (b .south))
  rw [Port.leftIf_setQueue]
  refine inv.setQueue (by_contra fun lost => ?_) ?_
  · have empty := (inv.ready (by simpa using lost)).2.1
    rw [timed] at empty
    simp at empty
  · have few := inv.timed
    rw [timed] at few
    simpa [capacity] using few

theorem gateStable_ports (b : PortId → Bool) : GateStable (PortsInv b) where
  counters _ _ h p := by cases p <;> exact h _
  notice _ _ _ h p := by simpa using h p
  place s p c f _ room h := h.placed f room
  append s c q _ joined h := h.appended joined
  channel _ _ _ _ _ h p := by simpa using h p

/-- A queue with fewer frames. -/
theorem PortsInv.purged {s : State} (h : PortsInv (fun _ => false) s) : PortsInv (fun _ => false) (purgeQueue s) := by
  have inv : PortInv (s.port .south) := h .south
  refine h.setPort ?_
  exact { inv with
    timed := (List.length_filterMap_le _ _).trans inv.timed
    ready := fun lost => (inv.ready lost).imp_right (And.imp_left (congrArg (List.filterMap purgeFrame))) }

theorem coreStable_ports : CoreStable (PortsInv (fun _ => false)) :=
  .of_supFree (gateStable_ports _) (fun _ _ _ _ h p => by simpa using h p) (fun _ _ room h => h.placed _ room)
    (fun _ _ _ joined h => h.appended joined) (fun _ h => h.purged) (fun _ _ h p => by simpa using h p) (fun _ _ h p => by simpa using h p)
    (fun _ _ _ h p => by simpa using h p) (fun _ _ _ h p => by simpa using h p) (fun _ _ _ h p => by simpa using h p)

theorem reportFire_port (c : GateCommand) (r : FireReport) (s : State) (p : PortId) : (reportFire c r s).port p = s.port p := by
  have counted (s : State) : (countReport c.valve r s).port p = s.port p := by cases r <;> simp [countReport, bumpChannel]
  unfold reportFire
  dsimp only
  rw [counted]
  split <;> simp

theorem reportNotSent_port (c : GateCommand) (s : State) (p : PortId) : (reportNotSent c s).port p = s.port p := by
  unfold reportNotSent
  split
  · exact reportFire_port c _ s p
  · simp [bumpChannel]

theorem foldl_port {α : Type} {p : PortId} (f : State → α → State) (hf : ∀ s a, (f s a).port p = s.port p) (l : List α) (s : State) :
    (l.foldl f s).port p = s.port p := by
  induction l generalizing s with
  | nil => rfl
  | cons a l ih => exact (ih _).trans (hf s a)

theorem reportFrameNotSent_port (f : Frame) (s : State) (p : PortId) : (reportFrameNotSent f s).port p = s.port p := by
  cases f with
  | gate cs => exact foldl_port _ (fun s c => reportNotSent_port c s p) cs s
  | _ => rfl

/-- A flush touches its port alone (R19). -/
theorem flush_ports (p q : PortId) (s : State) : (flush p s).port q = (s.modPort p Port.flushed).port q := by
  have drops (c : TxClass) (l : List Frame) (u : State) : (countDrops p c l u).port q = u.port q :=
    foldl_port _ (fun s _ => by simp) l u
  unfold flush
  dsimp only
  rw [foldl_port _ (fun s f => reportFrameNotSent_port f s q), drops, drops, drops, drops]
  split <;> simp

/-- What a flush leaves of a port: flushed where it was ready and is no longer (R19). -/
theorem flushIfLost_self (b : Bool) (p : PortId) (s : State) : (flushIfLost b p s).port p
    = if b && !(s.port p).transmitReady then (s.port p).flushed else s.port p := by
  unfold flushIfLost
  split
  · rw [flush_ports, State.modPort_port]
  · rfl

theorem flushIfLost_port_ne (b : Bool) {p q : PortId} (s : State) (other : q ≠ p) : (flushIfLost b p s).port q = s.port q := by
  unfold flushIfLost
  split
  · rw [flush_ports, State.modPort_port_ne _ _ other]
  · rfl

/-- A flushed port meets its bounds (R19, R34). -/
theorem PortInv.flushed {x : Port} (h : PortInv x) : PortInv x.flushed :=
  { h with
    timed := Nat.zero_le _, access := Nat.zero_le _, measure := Nat.zero_le _, pass := Nat.zero_le _
    effAccess := le_rfl, effMeasure := le_rfl, effPass := le_rfl, ready := fun _ => ⟨rfl, rfl, rfl, rfl, rfl⟩ }

theorem Enterable.flushed {new : LinkState} {x : Port} (h : Enterable new x) : Enterable new x.flushed :=
  ⟨h.rest.flushed, h.attempts, h.window, h.stopped⟩

/-- A port that can change to a state meets its bounds there, once it is left where it leaves UP and FAR_FAULT, and empty where it is not
ready (R3, R5, R10, R19, R20). -/
theorem Enterable.bounds {new : LinkState} {x : Port} (h : Enterable new x)
    (ready : (x.enter new).transmitReady = false → x.tx = none ∧ x.timed = [] ∧ x.access = [] ∧ x.measure = [] ∧ x.pass = []) :
    PortInv ((x.enter new).leftIf (x.link.receives && !new.receives)) := by
  have rest := h.rest
  have seeking : (x.enter new).seekTimer.isSome = true → new = .seeking := by simp [Port.enter]
  have aligned : (x.enter new).alignTimer.isSome = true → new = .aligned := by simp [Port.enter]
  have holdoff : (x.enter new).holdoffTimer.isSome = true → new = .holdoff := by simp [Port.enter]
  cases leaves : x.link.receives && !new.receives with
  | true =>
    simp only [Bool.and_eq_true, Bool.not_eq_true'] at leaves
    exact { rest with
      attempts := h.attempts.1, working := h.attempts.2, seeking := seeking, aligned := aligned, holdoff := holdoff, ready := ready
      rx := by simp [Port.leftIf, Port.left]
      window := leaves.2.symm
      degraded := by simp [Port.leftIf, Port.left]
      request := by simp [Port.leftIf, Port.left]
      train := by simp [Port.leftIf, Port.left, Port.enter] }
  | false =>
    have still (r : x.link.receives = true) : new.receives = true := by simpa [r] using leaves
    exact { rest with
      attempts := h.attempts.1, working := h.attempts.2, seeking := seeking, aligned := aligned, holdoff := holdoff, ready := ready
      rx := fun r some => (rest.rx r some).imp_right still
      window := by
        cases e : new.receives with
        | true => exact (h.window e).trans e.symm
        | false =>
          have idle : x.windowTimer.isSome = false := by
            by_contra runs
            exact absurd (still (h.stopped e (Bool.not_eq_false _ ▸ runs))) (by simp [e])
          exact idle.trans e.symm
      degraded := fun on => still (rest.degraded on)
      request := fun on => still (rest.request on)
      train := by simp [Port.leftIf, Port.enter] }

theorem Enterable.entered {new : LinkState} {x : Port} (h : Enterable new x) :
    PortInv ((if x.transmitReady && !(x.enter new).transmitReady then (x.enter new).flushed else x.enter new).leftIf
      (x.link.receives && !new.receives)) := by
  split
  · exact h.flushed.bounds (fun _ => ⟨rfl, rfl, rfl, rfl, rfl⟩)
  · next kept =>
    have idle (lost : (x.enter new).transmitReady = false) : x.transmitReady = false := by simpa [lost] using kept
    exact h.bounds (fun lost => h.rest.ready (idle lost))

/-- The bounds of a port after its one-way mode was written (R15, R19). -/
theorem PortInv.oneWay {x : Port} (h : PortInv x) (on : Bool) :
    PortInv (if x.transmitReady && !({ x with oneWay := on } : Port).transmitReady then ({ x with oneWay := on } : Port).flushed
      else { x with oneWay := on }) := by
  split
  · exact { h.flushed with ready := fun _ => ⟨rfl, rfl, rfl, rfl, rfl⟩ }
  · next kept => exact { h with ready := fun lost => h.ready (by simpa [lost] using kept) }

/-- A port that is left has no window, no frame in reception, no mark request and DEGRADED clear (R3, R5, R20). -/
theorem PortsInv.leaveWorking {p : PortId} {s : State} (h : PortsInv (fun q => q == p) s) : PortsInv (fun _ => false) (leaveWorking p s) := by
  have cleared : PortsInv (fun q => q == p) (setDegraded p false s) := by
    refine ite_keeps _ (fun _ => h) (fun _ => (gateStable_ports _).raise _ _ _ (h.setPort ?_))
    simpa [Port.leftIf, Port.left] using h p
  intro q
  unfold Machine.leaveWorking
  by_cases same : q = p
  · subst same
    have inv := cleared q
    have off : ((setDegraded q false s).port q).degraded = false := by
      unfold setDegraded
      split
      · simp_all
      · rw [(raise_quiet _ _ _).toSupFrame.degraded, State.modPort_port]
    rw [State.modPort_port]
    simp only [beq_self_eq_true, Port.leftIf, if_true, Port.left] at inv
    simpa [Port.leftIf, off] using inv
  · rw [State.modPort_port_ne _ _ same]
    simpa [Port.leftIf, same] using cleared q

/-- A change of a port's state keeps the bounds of the ports (R10, R19, R20). -/
theorem PortsInv.changeLink {p : PortId} {new : LinkState} {s : State} (others : ∀ q, q ≠ p → PortInv (s.port q))
    (enters : Enterable new (s.port p)) : PortsInv (fun _ => false) (changeLink p new s) := by
  have flushed : PortsInv (fun q => q == p && ((s.port p).link.receives && !new.receives))
      (flushIfLost (s.port p).transmitReady p (s.modPort p (fun x => x.enter new))) := by
    intro q
    by_cases same : q = p
    · subst same
      rw [flushIfLost_self, State.modPort_port]
      simpa using enters.entered
    · rw [flushIfLost_port_ne _ _ same, State.modPort_port_ne _ _ same]
      simpa [same, Port.leftIf] using others q same
  have told := (gateStable_ports _).raiseIf ((s.port p).link != new) (srcPortState p) (linkDetail (s.port p).link new) _ flushed
  have stopped := ite_keeps (P := PortsInv (fun _ => false)) ((s.port p).link.receives && !new.receives)
    (fun leaves => PortsInv.leaveWorking (p := p) (by simpa only [leaves, Bool.and_true] using told))
    (fun stays => by simpa only [stays, Bool.and_false] using told)
  exact iteInduction (fun _ => coreStable_ports.psChanged _ _ _ stopped) (fun _ => stopped)

theorem PortInv.warmReset {x : Port} (h : PortInv x) : PortInv x.warmReset :=
  { h with
    timed := Nat.zero_le _, measure := Nat.zero_le _, pass := Nat.zero_le _
    effAccess := le_rfl, effMeasure := le_rfl, effPass := le_rfl
    ready := fun lost => ⟨(h.ready lost).1, rfl, (h.ready lost).2.2.1, rfl, rfl⟩ }

theorem portPowerOn_inv (signal : Bool) : PortInv (portPowerOn signal) := by
  constructor <;> simp [portPowerOn, LinkState.receives, Port.transmitReady]

theorem stable_ports : Stable (PortsInv (fun _ => false)) :=
  { coreStable_ports with
    port := fun s0 s p x h0 h inv _ => h.setPort (inv (h0 p) (h p))
    change := fun s p new f enters _ h => by
      refine .changeLink (fun q other => ?_) ?_
      · rw [State.modPort_port_ne _ _ other]
        exact h q
      · rw [State.modPort_port]
        exact enters (h p)
    oneWay := fun s p on h q => by
      unfold setOneWay
      by_cases same : q = p
      · subst same
        rw [flushIfLost_self, State.modPort_port]
        exact PortInv.oneWay (h q) on
      · rw [flushIfLost_port_ne _ _ same, State.modPort_port_ne _ _ same]
        exact h q
    merge := fun _ _ _ h p => by simpa using h p
    opened := fun _ _ h p => by simpa [openRow] using h p
    agent := fun _ _ _ h => h.congr rfl rfl
    fwd := fun _ _ h => h.congr rfl rfl
    pending := fun _ _ h => h.congr rfl rfl
    powered := fun _ _ _ _ p => by cases p <;> exact portPowerOn_inv _
    blocks := fun s h p => by
      cases p with
      | north => exact PortInv.warmReset (x := s.pn) (h .north)
      | south => exact PortInv.warmReset (x := s.ps) (h .south)
    warmed := fun _ _ _ h p => by simpa using h p }

/-- Settles O57: the bounds of the two ports are a stable predicate. -/
theorem portsKeepTheirBounds : Obligations.PortsKeepTheirBounds := by
  unfold Obligations.PortsKeepTheirBounds
  exact fun s t inv run => stable_ports.step inv run

end Sys2Proof.Machine
end

section
/-! The step on its queue, the state after reset, and the two statements about one operation's whole effect on a fixed state. -/

namespace Sys2Proof.Machine

/-- Settles O1, by the definition of a step. -/
theorem stepRunsTheFrontCommand : Obligations.StepRunsTheFrontCommand := by
  unfold Obligations.StepRunsTheFrontCommand
  intro c rest s pending
  simp [step, pending]

/-- The marks of one clock at a port that sends no frame (R2, R11 to R16). -/
theorem Port.tick_free {x : Port} (free : x.tx = none) : x.tick.trainOwed = false ∧ x.tick.lineMark = some x.nextMark := by
  unfold Port.tick
  rw [Port.sendsMarks_free x free]
  exact ⟨rfl, rfl⟩

/-- A frame in transmission leaves no place for a mark (R2). -/
theorem Port.tick_busy {x : Port} (busy : x.tx ≠ none) : x.tick.trainOwed = x.trainOwed ∧ x.tick.lineMark = x.lineMark := by
  unfold Port.tick
  rw [Port.sendsMarks_busy x busy]
  exact ⟨rfl, rfl⟩

theorem tick_port (s : State) (p : PortId) : (tick s).port p = (s.port p).tick := by cases p <;> rfl

/-- Settles O2, by the three branches of a step on an empty queue. -/
theorem emptyQueueStep : Obligations.EmptyQueueStep := by
  unfold Obligations.EmptyQueueStep
  intro s pending
  refine ⟨fun c cs due => by simp [step, pending, idle, due], fun r q due queue => by simp [step, pending, idle, due, queue],
    fun due queue => ⟨tick s, by simp [step, pending, idle, due, queue], rfl, rfl, rfl, rfl, rfl, rfl, rfl, fun p free => ?_, fun p busy => ?_⟩⟩
  · rw [tick_port]
    exact Port.tick_free free
  · rw [tick_port]
    exact Port.tick_busy busy

theorem reset_counter (c : Counter) : State.reset.counter c = 0 := by
  simp [State.counter, State.reset, State.powerOn]

theorem reset_entries : (∀ i : Fin 16, State.reset.fwd[i].enable = false) ∧ (∀ n : SourceId, State.reset.notices[n].enable = false
    ∧ State.reset.notices[n].pending = false) := by
  simp [State.reset, State.powerOn, fwdPowerOn, noticePowerOn]

/-- Settles O3, block by block. -/
theorem resetState : Obligations.ResetState := by
  unfold Obligations.ResetState
  refine ⟨fun p => by cases p <;> decide, reset_counter, reset_entries.1, rfl, ?_, rfl, rfl, rfl, rfl, rfl, rfl, rfl, rfl, rfl, rfl, rfl, rfl, rfl,
    rfl, rfl, rfl, ?_, ?_, rfl, rfl, rfl, ?_, rfl, rfl, rfl, rfl, rfl, rfl, rfl, rfl, reset_entries.2⟩
  · decide
  · decide
  · decide
  · intro id
    cases id <;> decide

/-- Settles O4, from the bounds of the blocks' power-on states. -/
theorem resetMeetsTheInvariants : Obligations.ResetMeetsTheInvariants := by
  unfold Obligations.ResetMeetsTheInvariants
  refine ⟨fun p => ?_, .of_empty rfl rfl rfl, trackerPowerOn_inv, supervisorPowerOn_inv, .quenched reset_blocked (fun _ mem => by cases mem),
    ⟨Nat.zero_le _, reset_misses, Nat.zero_le _⟩⟩
  cases p <;> exact portPowerOn_inv _

/-- Settles O33, by the buffering and the state of the channel. -/
theorem deliverAngleRule : Obligations.DeliverAngle := by
  unfold Obligations.DeliverAngle
  rintro v a s ch rfl
  refine ⟨fun waits => ?_, fun single armed suppressed => ?_, fun single armed below after => ?_⟩
  · have pends : ((s.channel v).buffering == .single && (s.channel v).state == .armed) = false := by
      rcases waits with double | idle
      · simp [double]
      · simp [idle]
    simp [deliverAngle, pends, pendAngle]
  · simp [deliverAngle, replaceAngle, single, armed, suppressed, bumpChannel]
  · have later : ¬ (s.channel v).alphaOff ≤ a := by omega
    simp [deliverAngle, replaceAngle, watchIssue, reached, isAfter, single, armed, later, after]

/-! ### Power-on reset as a command -/

/-- A source that is disabled discards its events (R204). -/
theorem raise_disabled {n : SourceId} {d : Word} {s : State} (off : s.notices[n].enable = false) : raise n d s = s :=
  if_neg (by rw [off]; exact Bool.false_ne_true)

theorem raiseIf_disabled {b : Bool} {n : SourceId} {d : Word} {s : State} (off : s.notices[n].enable = false) : raiseIf b n d s = s := by
  cases b with
  | false => rfl
  | true => exact raise_disabled off

/-- In OFF, with the permissives not holding, an item told again as it stands changes nothing (R172, R173). -/
theorem updateItems_same {f : Permissives → Permissives} {s : State} (off : s.sup.state = .off) (same : f s.sup.items = s.sup.items)
    (unmet : s.sup.items.hold = false) : updateItems f s = s := by
  have told : setItems f s = s := by simp [setItems, State.setSup, same]
  simp [updateItems, evaluate, evalOff, told, off, unmet]

/-- Every counter but the one raised keeps its word (R201). -/
theorem counter_bump_of_ne {c d : Counter} (s : State) (h : c ≠ d) : (bump c s).counter d = s.counter d :=
  counter_bump_ne s (fun e => h (offset_injective c d e))

/-- Where no notice source is enabled and the supervisor is OFF without the LINK item, the move from DOWN to SEEKING touches its port and
its counter alone (R11, R172, R173). -/
theorem seekFromDown_silent {p : PortId} {s : State} (down : (s.port p).link = .down) (silent : ∀ n : SourceId, s.notices[n].enable = false)
    (off : s.sup.state = .off) (unmet : s.sup.items.link = false) :
    seekFromDown p s = bump (.trainingAttempts p) (s.setPort p { (s.port p).enter .seeking with validRun := 0 }) := by
  have idle : (s.port p).transmitReady = false := by simp [Port.transmitReady, down]
  have same : { s.sup.items with link := LinkState.seeking == .up } = s.sup.items := by
    rw [show (LinkState.seeking == .up) = s.sup.items.link from unmet.symm]
  have ps : psChanged .down .seeking (s.setPort p ((s.port p).enter .seeking)) = s.setPort p ((s.port p).enter .seeking) := by
    unfold psChanged
    rw [updateItems_same (by simpa using off) (by simpa using same) (by simp [Permissives.hold, unmet])]
    rfl
  have told : changeLink p .seeking s = s.setPort p ((s.port p).enter .seeking) := by
    have kept (x : State) : flushIfLost false p x = x := rfl
    unfold changeLink
    rw [idle, down]
    dsimp only
    rw [kept, raiseIf_disabled (by simpa using silent _)]
    exact iteInduction (motive := fun t => t = _) (fun _ => ps) (fun _ => rfl)
  rw [seekFromDown, told]
  simp [State.modPort]

/-- R11 where nothing but the port and its counter take part: SEEKING with signal present. -/
def seekOnSignal (p : PortId) (s : State) : State :=
  if (s.port p).signal then bump (.trainingAttempts p) (s.setPort p { (s.port p).enter .seeking with validRun := 0 }) else s

theorem applyR11_silent {p : PortId} {s : State} (down : (s.port p).link = .down) (silent : ∀ n : SourceId, s.notices[n].enable = false)
    (off : s.sup.state = .off) (unmet : s.sup.items.link = false) : applyR11 p s = seekOnSignal p s := by
  simp [applyR11, seekOnSignal, down, seekFromDown_silent down silent off unmet]

theorem seekOnSignal_port_ne {p q : PortId} {s : State} (other : q ≠ p) : (seekOnSignal p s).port q = s.port q := by
  unfold seekOnSignal
  split
  · rw [bump_port, State.setPort_port_ne _ _ other]
  · rfl

theorem seekOnSignal_self (p : PortId) (s : State) : (seekOnSignal p s).port p
    = if (s.port p).signal then { (s.port p).enter .seeking with validRun := 0 } else s.port p := by
  unfold seekOnSignal
  split <;> simp

theorem seekOnSignal_counter (p : PortId) (s : State) (c : Counter) : (seekOnSignal p s).counter c
    = if (s.port p).signal ∧ c = .trainingAttempts p then s.counter c + 1 else s.counter c := by
  unfold seekOnSignal
  by_cases same : c = .trainingAttempts p
  · subst same
    split <;> simp [*]
  · split <;> simp [same, counter_bump_of_ne _ (Ne.symm same)]

/-- The blocks that R11 leaves at a port of the power-on state. -/
structure SameBlocks (s t : State) : Prop where
  nodeId : t.nodeId = s.nodeId
  pending : t.pending = s.pending
  fwd : t.fwd = s.fwd
  pace : t.pace = s.pace
  merge : t.merge = s.merge
  tracker : t.tracker = s.tracker
  engine : t.engine = s.engine
  channels : t.channels = s.channels
  tables : t.tables = s.tables
  sup : t.sup = s.sup
  agent : t.agent = s.agent
  notices : t.notices = s.notices

theorem seekOnSignal_blocks (p : PortId) (s : State) : SameBlocks s (seekOnSignal p s) := by
  unfold seekOnSignal
  split
  · constructor <;> simp
  · constructor <;> rfl

/-- The power-on state with the commands still waiting (assumption 9). -/
def poweredOn (straps : Byte) (s : State) : State := { State.powerOn straps s.pn.signal s.ps.signal with pending := s.pending }

theorem poweredOn_port (straps : Byte) (s : State) (p : PortId) : (poweredOn straps s).port p = portPowerOn (s.port p).signal := by
  cases p <;> rfl

theorem poweredOn_counter (straps : Byte) (s : State) (c : Counter) : (poweredOn straps s).counter c = 0 := by
  simp [poweredOn, State.counter, State.powerOn]

theorem powerOnReset_eq (straps : Byte) (s : State) :
    powerOnReset straps s = seekOnSignal .south (seekOnSignal .north (poweredOn straps s)) := by
  have silent : ∀ n : SourceId, (poweredOn straps s).notices[n].enable = false := by
    simp [poweredOn, State.powerOn, noticePowerOn]
  have north : applyR11 .north (poweredOn straps s) = seekOnSignal .north (poweredOn straps s) := applyR11_silent rfl silent rfl rfl
  have kept := seekOnSignal_blocks .north (poweredOn straps s)
  show applyR11 .south (applyR11 .north (poweredOn straps s)) = _
  rw [north]
  refine applyR11_silent ?_ (fun n => ?_) ?_ ?_
  · rw [seekOnSignal_port_ne (by simp)]
    rfl
  · rw [kept.notices]
    exact silent n
  · rw [kept.sup]
    rfl
  · rw [kept.sup]
    rfl

/-- The port after the reset: as at power-on, or SEEKING with signal present (R11, R24). -/
theorem powerOnReset_port (straps : Byte) (s : State) (p : PortId) : (powerOnReset straps s).port p
    = if (s.port p).signal then { (portPowerOn (s.port p).signal).enter .seeking with validRun := 0 } else portPowerOn (s.port p).signal := by
  rw [powerOnReset_eq]
  cases p with
  | north => rw [seekOnSignal_port_ne (by simp), seekOnSignal_self, poweredOn_port]; rfl
  | south => rw [seekOnSignal_self, seekOnSignal_port_ne (by simp), poweredOn_port]; rfl

/-- The counters after the reset, with the training attempts of R11 (R22, R24). -/
theorem powerOnReset_counter (straps : Byte) (s : State) (c : Counter) : (powerOnReset straps s).counter c
    = if (s.ps.signal ∧ c = .trainingAttempts .south) ∨ (s.pn.signal ∧ c = .trainingAttempts .north) then 1 else 0 := by
  have signals (p : PortId) : ((poweredOn straps s).port p).signal = (s.port p).signal := by rw [poweredOn_port]; rfl
  rw [powerOnReset_eq, seekOnSignal_counter, seekOnSignal_counter, seekOnSignal_port_ne (by simp), signals, signals, poweredOn_counter]
  by_cases north : c = .trainingAttempts .north
  · simp [north]
  · by_cases south : c = .trainingAttempts .south
    · simp [south]
    · simp [north, south]

/-- Settles O5: R11 at each port of the power-on state. -/
theorem powerOnResetCommand : Obligations.PowerOnResetCommand := by
  unfold Obligations.PowerOnResetCommand
  intro straps s
  have kept := seekOnSignal_blocks .south (seekOnSignal .north (poweredOn straps s))
  have first := seekOnSignal_blocks .north (poweredOn straps s)
  rw [← powerOnReset_eq] at kept
  refine ⟨powerOnReset straps s, rfl, kept.nodeId.trans first.nodeId, kept.pending.trans first.pending, fun p => ?_, fun c north south => ?_,
    kept.fwd.trans first.fwd, kept.pace.trans first.pace, kept.merge.trans first.merge, kept.tracker.trans first.tracker,
    kept.engine.trans first.engine, kept.channels.trans first.channels, kept.tables.trans first.tables, kept.sup.trans first.sup,
    kept.agent.trans first.agent, kept.notices.trans first.notices⟩
  · rw [powerOnReset_port, powerOnReset_counter]
    cases p with
    | north => cases e : s.pn.signal <;> simp [portPowerOn, Port.enter, seekClocks, e]
    | south => cases e : s.ps.signal <;> simp [portPowerOn, Port.enter, seekClocks, e]
  · simp [powerOnReset_counter, north, south]

end Sys2Proof.Machine
end

section
/-! The commands of the access agent: each is answered with the status and the state of its effect. -/

namespace Sys2Proof.Machine

/-- A command whose effect is known is answered with it. -/
theorem served_of_effect (r : Request) {effect : State → Status × State} {s u : State} {st : Status} (h : effect s = (st, u)) :
    Served r st [] u (serveCommand r effect s) := by
  have served := serveCommand_served r effect s
  rwa [h] at served

/-! ### Modes, manual values, commits, styles and buffering -/

theorem holdEffect_eq (s : State) : holdEffect s = (.ok, if s.engine.mode = .hold then s
    else { s with engine := { s.engine with mode := .hold, rememberedManual := decide (s.engine.mode = .manual) } }) := by
  unfold holdEffect
  cases e : s.engine.mode <;> rfl

theorem releaseEffect_eq (s : State) : releaseEffect s = if s.engine.mode = .hold
    then (.ok, { s with engine := { s.engine with mode := if s.engine.rememberedManual = true then .manual else .auto } })
    else (.state, s) := by
  unfold releaseEffect
  cases e : s.engine.mode <;> rfl

theorem setModeEffect_eq {a : Word} {s : State} (known : a = 0#32 ∨ a = 1#32) : setModeEffect a s = (.ok, if s.engine.mode = .hold
    then { s with engine := { s.engine with rememberedManual := decide (a = 1#32) } }
    else { s with engine := { s.engine with mode := if a = 1#32 then .manual else .auto } }) := by
  have one : (a == 1#32) = decide (a = 1#32) := rfl
  unfold setModeEffect
  rw [if_pos known, one]
  cases e : s.engine.mode <;> simp [modeOf, State.setEngine]

/-- Settles O45, by the mode of the engine and the argument. -/
theorem modeCommands : Obligations.ModeCommands := by
  unfold Obligations.ModeCommands
  rintro c s e rfl
  refine ⟨⟨_, rfl, served_of_effect _ (holdEffect_eq s)⟩, ⟨_, rfl, ?_⟩, ⟨_, rfl, ?_⟩⟩
  · have effect := releaseEffect_eq s
    split
    · next hold => exact served_of_effect _ (effect.trans (if_pos hold))
    · next hold => exact served_of_effect _ (effect.trans (if_neg hold))
  · split
    · next known => exact served_of_effect _ (setModeEffect_eq known)
    · next unknown => exact served_of_effect _ (if_neg unknown)

theorem commitTable_eq (id : TableId) (n : Nat) (s : State) : commitTable id n s = if (s.tables.commit id).state = .idle
    then (.ok, s.setTables (s.tables.setCommit id { s.tables.commit id with state := .checking, timer := 500, expected := BitVec.ofNat 16 n }))
    else (.busy, s) := by
  by_cases idle : (s.tables.commit id).state = .idle <;> simp [commitTable, idle, checkClocks]

theorem commitEffect_of_code {a : Word} {s : State} {id : TableId} (code : tableCode id = argHigh a) :
    commitEffect a s = commitTable id (argLow a) s := by
  unfold commitEffect
  rw [← code]
  cases id <;> rfl

theorem commitEffect_unknown {a : Word} {s : State} (code : 3 ≤ argHigh a) : commitEffect a s = (.badArgument, s) := by
  unfold commitEffect
  split
  · omega
  · omega
  · omega
  · rfl

/-- Settles O46, by the upper half of the argument and the table's commit state. -/
theorem manualAndCommit : Obligations.ManualAndCommit := by
  unfold Obligations.ManualAndCommit
  rintro c s hi lo rfl rfl
  refine ⟨⟨_, rfl, fun known => served_of_effect _ (dif_pos known), fun unknown => served_of_effect _ (dif_neg (Nat.not_lt.mpr unknown))⟩,
    ⟨_, rfl, fun unknown => served_of_effect _ (commitEffect_unknown unknown), fun id code => ⟨fun idle => ?_, fun busy => ?_⟩⟩⟩
  · exact served_of_effect _ ((commitEffect_of_code code).trans ((commitTable_eq _ _ _).trans (if_pos idle)))
  · exact served_of_effect _ ((commitEffect_of_code code).trans ((commitTable_eq _ _ _).trans (if_neg busy)))

/-- The argument of SET_STYLE and SET_BUFFERING: a valve id and a choice of two (R137, R141). -/
theorem valveArgument_known {a : Word} {v : ValveId} (valve : argHigh a = v) (choice : argLow a < 2) :
    valveArgument a = some (v, decide (argLow a = 1)) := by
  have few : argHigh a < 6 := by omega
  have same : (⟨argHigh a, few⟩ : ValveId) = v := Fin.ext valve
  unfold valveArgument
  rw [dif_pos few, same]
  by_cases zero : argLow a = 0
  · simp [zero]
  · have one : argLow a = 1 := by omega
    simp [one]

theorem valveArgument_unknown {a : Word} (bad : 6 ≤ argHigh a ∨ 2 ≤ argLow a) : valveArgument a = none := by
  unfold valveArgument
  split
  · rw [if_neg (by omega), if_neg (by omega)]
  · rfl

/-- Settles O47, by the two halves of the argument. -/
theorem styleAndBuffering : Obligations.StyleAndBuffering := by
  unfold Obligations.StyleAndBuffering
  rintro c s hi lo rfl rfl
  have low : c.argument.toNat % 65536 = argLow c.argument := rfl
  refine ⟨⟨_, rfl, fun v valve choice => served_of_effect _ ?_, fun bad => served_of_effect _ ?_⟩,
    ⟨_, rfl, fun v valve choice => served_of_effect _ ?_, fun bad => served_of_effect _ ?_⟩⟩
  · simp [setStyleEffect, valveArgument_known valve choice, low]
  · simp [setStyleEffect, valveArgument_unknown bad]
  · simp [setBufferingEffect, valveArgument_known valve choice, low]
  · simp [setBufferingEffect, valveArgument_unknown bad]

/-! ### CLEAR_NOTICE -/

@[simp] theorem offerQuiet_notices (p : PortId) (c : TxClass) (f : Frame) (s : State) : (offerQuiet p c f s).notices = s.notices := by
  unfold offerQuiet
  split <;> simp

/-- A source replaced leaves the others. -/
theorem setNotice_notices_ne {n m : SourceId} (e : NoticeEntry) (s : State) (other : m ≠ n) : (s.setNotice n e).notices[m] = s.notices[m] := by
  have differ : n.val ≠ m.val := fun same => other (Fin.ext same.symm)
  simp [State.setNotice, differ]

@[simp] theorem setNotice_notices_self (n : SourceId) (e : NoticeEntry) (s : State) : (s.setNotice n e).notices[n] = e := by
  simp [State.setNotice]

theorem sendNotice_notices_ne {n m : SourceId} (k : Nat) (d : Word) (s : State) (other : m ≠ n) :
    (sendNotice n k d s).notices[m] = s.notices[m] := by
  have kept (c : Counter) (p : PortId) (f : Frame) (e : NoticeEntry) :
      (bump c ((offerQuiet p .access f s).setNotice n e)).notices[m] = s.notices[m] :=
    (setNotice_notices_ne e _ other).trans (congrArg (fun l : Vector NoticeEntry 22 => l[m]) (offerQuiet_notices p .access f s))
  unfold sendNotice
  dsimp only
  split
  · exact kept _ _ _ _
  · exact kept _ _ _ _

/-- A follow-up notice placed at its routed port (R205). -/
theorem sendNotice_placed {n : SourceId} {k : Nat} {d : Word} {s : State}
    (room : offerOutcome (s.notices[n]).route .access s = .placed) :
    sendNotice n k d s = bump .noticesQueued ((s.modPort (s.notices[n]).route (fun x =>
      { x with access := x.access ++ [.notice (s.notices[n]).dest n (s.notices[n]).vector k s.sup.state d] })).setNotice n
        { s.notices[n] with pending := true, repeats := 0, latest := some d }) := by
  unfold sendNotice offerQuiet
  dsimp only
  rw [room]
  rfl

/-- What CLEAR_NOTICE does at a source (R205). -/
theorem clearSource_eq (n : SourceId) (s : State) : clearSource n s = if (s.notices[n]).pending = true then
      (if (s.notices[n]).repeats = 0 then s.setNotice n { s.notices[n] with pending := false, latest := none }
       else sendNotice n (s.notices[n]).repeats ((s.notices[n]).latest.getD 0) s) else s := rfl

theorem clearSource_quiet (n : SourceId) (s : State) : QuietFrame s (clearSource n s) := by
  rw [clearSource_eq]
  split
  · split
    · exact setNotice_quiet _ _ s
    · exact sendNotice_quiet _ _ _ s
  · exact .refl s

theorem clearSource_notices_ne {n m : SourceId} (s : State) (other : m ≠ n) : (clearSource n s).notices[m] = s.notices[m] := by
  rw [clearSource_eq]
  split
  · split
    · exact setNotice_notices_ne _ _ other
    · exact sendNotice_notices_ne _ _ _ other
  · rfl

theorem clearNoticeEffect_known {a : Word} {n : SourceId} {s : State} (number : a.toNat = n) :
    clearNoticeEffect a s = (.ok, clearSource n s) := by
  have few : a.toNat < 22 := by omega
  have same : (⟨a.toNat, few⟩ : SourceId) = n := Fin.ext number
  unfold clearNoticeEffect
  rw [dif_pos few, same]

/-- Settles O49: the events by `raise_raised`, and the command by the state of the source. -/
theorem clearNotice : Obligations.ClearNotice := by
  unfold Obligations.ClearNotice
  refine ⟨raise_raised, fun c s => ⟨fun unknown => ⟨_, rfl, served_of_effect _ (dif_neg (Nat.not_lt.mpr unknown))⟩, ?_⟩⟩
  rintro n e number rfl
  have effect := clearSource_eq n s
  refine ⟨_, clearSource n s, rfl, served_of_effect _ (clearNoticeEffect_known number), clearSource_quiet n s,
    fun m other => clearSource_notices_ne s other, fun off => ?_, fun on zero => ?_, fun d on repeated latest ready room => ?_⟩
  · exact effect.trans (if_neg (by rw [off]; exact Bool.false_ne_true))
  · exact effect.trans ((if_pos on).trans (if_pos zero))
  · have placed : offerOutcome (s.notices[n]).route .access s = .placed := offerOutcome_placed_iff.mpr ⟨ready, room⟩
    rw [effect, if_pos on, if_neg repeated, latest, Option.getD_some, sendNotice_placed placed]
    exact ⟨by simp, by simp, by rw [counter_bump_self]; simp⟩

end Sys2Proof.Machine
end

section
/-! The exchanges and the activation of the table store, the evaluation of the permissives in OFF, and the statements about the commit. -/

namespace Sys2Proof.Machine

/-! ### The evaluation in OFF -/

/-- The supervisor after the evaluation in OFF: READY where the permissives hold (R173). -/
theorem evalOff_sup (s : State) : (evalOff s).sup
    = if s.sup.state = .off ∧ s.sup.items.hold = true then { s.sup with state := .ready } else s.sup := by
  by_cases ready : s.sup.state = .off ∧ s.sup.items.hold = true
  · have moved : evalOff s = moveTo .ready .permissivesMet 0 s := if_pos (by simp [ready])
    have live : s.sup.items.notTripped = true := by
      have hold := ready.2
      simp only [Permissives.hold, Bool.and_eq_true] at hold
      exact hold.2
    rw [if_pos ready, moved, moveTo_sup]
    simp only [enterState, State.setSup_sup]
    rw [show (OpState.ready != .tripped) = s.sup.items.notTripped from live.symm]
  · rw [if_neg ready]
    have stays : evalOff s = s := if_neg (by simpa using ready)
    rw [stays]

/-- The evaluation in OFF is a move of the supervisor, or nothing (R173). -/
theorem evalOff_gate (s : State) : GateFrame { s with sup := (evalOff s).sup } (evalOff s) := by
  by_cases ready : (s.sup.state == .off && s.sup.items.hold) = true
  · have moved : evalOff s = moveTo .ready .permissivesMet 0 s := if_pos ready
    rw [moved, moveTo_sup]
    exact moveTo_gate _ _ _ s
  · have stays : evalOff s = s := if_neg ready
    rw [stays]
    exact .refl s

theorem evalOff_items (s : State) : (evalOff s).sup.items = s.sup.items := by
  rw [evalOff_sup]
  split <;> rfl

theorem evalOff_state (s : State) : (evalOff s).sup.state
    = if s.sup.state = .off ∧ (evalOff s).sup.items.hold = true then .ready else s.sup.state := by
  rw [evalOff_items, evalOff_sup]
  split <;> rfl

/-- A result recorded is its commit status and a notice (R168). -/
theorem recordResult_quiet (id : TableId) (next : CommitState) (r : CommitResult) (k : Nat) (s : State) :
    QuietFrame (s.setTables (s.tables.setCommit id { s.tables.commit id with state := next, timer := 0, result := r, failing := k }))
      (recordResult id next r k s) := raise_quiet _ _ _

theorem commitDetail_eq (id : TableId) (r : CommitResult) (h : Half) :
    BitVec.ofNat 32 (field (tableCode id) 8 24 + field (resultCode r) 8 16 + field h.toNat 16 0)
      = BitVec.ofNat 32 (tableCode id * 16777216 + resultCode r * 65536 + h.toNat) := by
  have small : tableCode id < 2 ^ 8 ∧ resultCode r < 2 ^ 8 := by cases id <;> cases r <;> decide
  unfold field
  rw [Nat.mod_eq_of_lt small.1, Nat.mod_eq_of_lt small.2, Nat.mod_eq_of_lt h.isLt, Nat.pow_zero, Nat.mul_one]
  rfl

theorem recordResult_raised (id : TableId) (next : CommitState) (r : CommitResult) (k : Nat) (s : State) :
    Raised srcCommitResult (BitVec.ofNat 32 (tableCode id * 16777216 + resultCode r * 65536 + (s.tables.commit id).computed.toNat))
      (s.setTables (s.tables.setCommit id { s.tables.commit id with state := next, timer := 0, result := r, failing := k }))
      (recordResult id next r k s) := by
  rw [← commitDetail_eq]
  exact raise_raised _ _ _

/-! ### Exchanges -/

/-- The angle banks exchanged and told, before the supervisor takes the ANGLE item (R164, R168). -/
def angleRecorded (s : State) : State :=
  recordResult .angle .idle .activated 0 (s.setTables { countActivation .angle s.tables with
    angleActiveB := !s.tables.angleActiveB, angleValid := true })

theorem exchangeAngle_eq (s : State) : exchangeAngle s = evalOff (setItems (fun i => { i with angle := true }) (angleRecorded s)) := rfl

theorem angleRecorded_sup (s : State) : (angleRecorded s).sup = s.sup := (recordResult_quiet _ _ _ _ _).sup

theorem exchangeAngle_tables (s : State) : (exchangeAngle s).tables = { s.tables with
    angleActiveB := !s.tables.angleActiveB, angleValid := true, angleCommit := { s.tables.angleCommit with
      state := .idle, timer := 0, result := .activated, failing := 0, activeCheck := s.tables.angleCommit.computed,
      activations := s.tables.angleCommit.activations + 1 } } :=
  (evalOff_gate _).tables.trans (recordResult_quiet _ _ _ _ _).tables

theorem exchangeAngle_taken (s : State) : AngleExchanged s (exchangeAngle s) := by
  have items : (exchangeAngle s).sup.items = { s.sup.items with angle := true } := by
    rw [exchangeAngle_eq, evalOff_items]
    simp only [setItems, State.setSup_sup, angleRecorded_sup]
  have tables := exchangeAngle_tables s
  refine ⟨exchangeAngle_frame s, ?_, ?_, ?_, ?_, ?_, ?_⟩ <;> simp [tables, items]

theorem exchangeReference_taken (s : State) : ReferenceExchanged s (exchangeReference s) :=
  recordResult_quiet .reference .idle .activated 0 (s.setTables { countActivation .reference s.tables with
    refActiveB := !s.tables.refActiveB, refValid := true })

/-! ### Activation of the parameter record -/

/-- The next boundary lies at a phase of passPhase or 32768 beyond, at most 32768 gu after G (R75). -/
theorem nextBoundaryAfter_spec (p : Nat) (g : Pos) : (nextBoundaryAfter p g).toNat % 32768 = p % 32768
    ∧ 0 < diff (nextBoundaryAfter p g) g ∧ diff (nextBoundaryAfter p g) g ≤ 32768 := by
  have step : ∃ d, d = 32768 - (phaseOf g + 65536 - p % 65536) % 32768 ∧ 0 < d ∧ d ≤ 32768 := ⟨_, rfl, by omega, by omega⟩
  obtain ⟨d, eq, pos, le⟩ := step
  have ahead : nextBoundaryAfter p g - g = BitVec.ofNat 32 d := by
    unfold nextBoundaryAfter
    rw [← eq]
    bv_omega
  have far : diff (nextBoundaryAfter p g) g = d := by
    unfold diff
    rw [ahead, BitVec.toInt_eq_toNat_of_lt] <;> simp only [BitVec.toNat_ofNat] <;> omega
  refine ⟨?_, by omega, by omega⟩
  unfold nextBoundaryAfter phaseOf at *
  rw [← eq, BitVec.toNat_add, BitVec.toNat_ofNat]
  omega

/-- A change of fn at an activation with the tracker away from FREE drops the TRACKER item, so the evaluation in OFF finds the
permissives not holding (R84, R172). -/
theorem applyFnChange_eq (s : State) : applyFnChange s = if s.tracker.state = .free
    then { s with pace := s.pace.retime (pFn s.par), tracker := s.tracker.setFree }
    else setItems (fun i => { i with tracker := false }) (raise srcTrackerState (bytes4 (trackerCode s.tracker.state) (trackerCode .free) 0 0)
      { s with pace := s.pace.retime (pFn s.par), tracker := s.tracker.setFree }) := by
  have unmet (t : State) : evalOff (setItems (fun i => { i with tracker := false }) t) = setItems (fun i => { i with tracker := false }) t :=
    if_neg (by simp [setItems, Permissives.hold])
  unfold applyFnChange
  dsimp only
  rw [unmet]
  cases e : s.tracker.state <;> simp

/-- What a change of fn leaves of the blocks it acts on (R44, R84). -/
theorem applyFnChange_blocks (s : State) : (applyFnChange s).tables = s.tables ∧ (applyFnChange s).pace = s.pace.retime (pFn s.par)
    ∧ (applyFnChange s).tracker = s.tracker.setFree
    ∧ (applyFnChange s).sup = { s.sup with items := { s.sup.items with tracker := s.sup.items.tracker && decide (s.tracker.state = .free) } } := by
  rw [applyFnChange_eq]
  split
  · next free => simp [free]
  · next moved =>
    have told := raise_quiet srcTrackerState (bytes4 (trackerCode s.tracker.state) (trackerCode .free) 0 0)
      { s with pace := s.pace.retime (pFn s.par), tracker := s.tracker.setFree }
    refine ⟨told.tables, told.pace, told.tracker, ?_⟩
    simp only [setItems, State.setSup_sup, told.sup, moved, decide_false, Bool.and_false]

/-- What the blocks leave when told of an activation (R44, R75, R84). -/
theorem activationEffects_blocks (before : ParamRecord) (s : State) : (activationEffects before s).tables = s.tables
    ∧ (activationEffects before s).pace = (if pFn s.par = pFn before then s.pace else s.pace.retime (pFn s.par))
    ∧ (activationEffects before s).tracker = { (if pFn s.par = pFn before then s.tracker else s.tracker.setFree) with
        nextBoundary := if pPassPhase s.par = pPassPhase before then s.tracker.nextBoundary else nextBoundaryAfter (pPassPhase s.par) s.g }
    ∧ (activationEffects before s).sup = { s.sup with items := { s.sup.items with
        tracker := s.sup.items.tracker && decide (pFn s.par = pFn before ∨ s.tracker.state = .free) } } := by
  obtain ⟨tables, pace, tracker, sup⟩ := applyFnChange_blocks s
  have par : (applyFnChange s).par = s.par := by simp [State.par, tables]
  have g : (applyFnChange s).g = s.g := by simp [State.g, tracker, Tracker.setFree]
  have swapped (a b : Nat) : (b == a) = decide (a = b) := by rw [Bool.beq_comm]; rfl
  unfold activationEffects
  rw [swapped]
  dsimp only
  rw [swapped]
  by_cases fn : pFn s.par = pFn before
  · by_cases phase : pPassPhase s.par = pPassPhase before <;> simp [fn, phase, applyPassPhase]
  · by_cases phase : pPassPhase s.par = pPassPhase before <;>
      simp [fn, phase, applyPassPhase, tables, pace, tracker, sup, par, g, Tracker.setFree]

/-- The staged record in use and told, before the blocks take it (R165, R168). -/
def paramsRecorded (s : State) : State :=
  recordResult .parameters .idle .activated 0
    (s.setTables { countActivation .parameters s.tables with active := s.tables.staged, paramsValid := true })

theorem activateParams_eq (s : State) : activateParams s
    = evalOff (setItems (fun i => { i with parameters := true }) (activationEffects s.par (paramsRecorded s))) := rfl

theorem paramsRecorded_tables (s : State) : (paramsRecorded s).tables = { s.tables with
    active := s.tables.staged, paramsValid := true, paramsCommit := { s.tables.paramsCommit with
      state := .idle, timer := 0, result := .activated, failing := 0, activeCheck := s.tables.paramsCommit.computed,
      activations := s.tables.paramsCommit.activations + 1 } } :=
  (recordResult_quiet _ _ _ _ _).tables

theorem activateParams_taken (s : State) : ParamsActivated s (activateParams s) := by
  have told : QuietFrame _ (paramsRecorded s) := recordResult_quiet .parameters .idle .activated 0
    (s.setTables { countActivation .parameters s.tables with active := s.tables.staged, paramsValid := true })
  have par : (paramsRecorded s).par = s.tables.staged := by simp [State.par, paramsRecorded_tables]
  have g : (paramsRecorded s).g = s.g := congrArg (fun x : Tracker => x.g48.extractLsb' 16 32) told.tracker
  have sup : (paramsRecorded s).sup = s.sup := told.sup
  have tracker0 : (paramsRecorded s).tracker = s.tracker := told.tracker
  have pace0 : (paramsRecorded s).pace = s.pace := told.pace
  obtain ⟨tables, pace, tracker, effects⟩ := activationEffects_blocks s.par (paramsRecorded s)
  have evaluated := evalOff_gate (setItems (fun i => { i with parameters := true }) (activationEffects s.par (paramsRecorded s)))
  rw [par] at pace tracker effects
  rw [pace0] at pace
  rw [tracker0, g] at tracker
  rw [sup, tracker0] at effects
  have tracker' : (activateParams s).tracker = _ := evaluated.tracker.trans tracker
  refine ⟨activateParams_frame s, evaluated.tables.trans (tables.trans (paramsRecorded_tables s)), evaluated.pace.trans pace, ?_, ?_, ?_, ?_⟩
  · rw [tracker']
    rfl
  · rw [tracker']
    dsimp only
    split
    · rfl
    · exact nextBoundaryAfter_spec _ _
  · rw [activateParams_eq, evalOff_items]
    simp only [setItems, State.setSup_sup, effects]
  · rw [activateParams_eq, evalOff_state]
    simp only [setItems, State.setSup_sup, effects]

theorem condition4_iff (s : State) : condition4 s = true
    ↔ s.sup.state = .off ∨ (s.tables.staged[0] = s.par[0] ∧ s.tables.staged[1] = s.par[1]) := by
  simp [condition4, sameFnAndRotation]

/-- Each table taken, as `TableTaken` spells it. -/
theorem activate_taken (id : TableId) (s : State) : TableTaken id s (activate id s) := by
  cases id with
  | angle => exact exchangeAngle_taken s
  | reference => exact exchangeReference_taken s
  | parameters =>
    have condition := condition4_iff s
    unfold TableTaken activate
    dsimp only
    split
    · next holds =>
      rw [if_pos (condition.mpr holds)]
      exact activateParams_taken s
    · next fails =>
      rw [if_neg (fun holds => fails (condition.mp holds))]
      exact recordResult_quiet .parameters .idle .state 0 s

theorem activateIfPending_taken (id : TableId) (s : State) : TakenIfPending id s (activateIfPending id s) := by
  unfold TakenIfPending activateIfPending
  by_cases pending : (s.tables.commit id).state = .pending
  · rw [if_pos pending, if_pos (by simpa using pending)]
    exact activate_taken id s
  · rw [if_neg pending, if_neg (by simpa using pending)]

theorem activatePending_taken (s : State) : PendingTaken s (activatePending s) :=
  ⟨_, _, activateIfPending_taken _ _, activateIfPending_taken _ _, activateIfPending_taken _ _⟩

theorem idleCondition_iff (s : State) : idleCondition s = true ↔ s.sup.state = .off ∧ s.engine.inFlight = none ∧ s.tables.quiet = none := by
  simp [idleCondition, and_assoc]

/-! ### The check completion and the quiet timer -/

/-- The computed check stored, before its verdict (R162). -/
def checkStored (id : TableId) (s : State) : State :=
  s.setTables (s.tables.setCommit id
    { s.tables.commit id with computed := checkOfWords (s.tables.checkedWords id), failing := 0, timer := 0 })

theorem checkVerdict_stored (id : TableId) (s : State) : checkVerdict id (checkStored id s) = checkVerdict id s := by
  cases id <;> rfl

theorem idleCondition_stored (id : TableId) (s : State) : idleCondition (checkStored id s) = idleCondition s := by
  cases id <;> rfl

/-- A table is taken whatever its failing word was. -/
theorem activate_stored (id : TableId) (s : State) : activate id (checkStored id s) = activate id (s.setTables (s.tables.setCommit id
    { s.tables.commit id with computed := checkOfWords (s.tables.checkedWords id), timer := 0 })) := by
  cases id <;> rfl

/-- A result recorded after the check was stored. -/
theorem recordResult_stored (id : TableId) (next : CommitState) (r : CommitResult) (k : Nat) (s : State) :
    Raised srcCommitResult
      (BitVec.ofNat 32 (tableCode id * 16777216 + resultCode r * 65536 + (checkOfWords (s.tables.checkedWords id)).toNat))
      (s.setTables (s.tables.setCommit id { s.tables.commit id with
        state := next, timer := 0, result := r, computed := checkOfWords (s.tables.checkedWords id), failing := k }))
      (recordResult id next r k (checkStored id s)) := by
  have raised := recordResult_raised id next r k (checkStored id s)
  cases id <;> exact raised

/-- What a check completion does with a check in flight (R162, R163). -/
theorem checkCompletion_eq {id : TableId} {s : State} (checking : (s.tables.commit id).state = .checking) : checkCompletion id s =
    match checkVerdict id s with
    | some (r, k) => recordResult id .idle r k (checkStored id s)
    | none => if idleCondition s then activate id (checkStored id s) else recordResult id .pending .passed 0 (checkStored id s) := by
  rw [← checkVerdict_stored, ← idleCondition_stored id]
  exact if_pos (by simpa using checking)

/-- Settles O34, by the verdict and the idle condition. -/
theorem checkCompletionRule : Obligations.CheckCompletion := by
  unfold Obligations.CheckCompletion
  rintro id s c rfl
  refine ⟨fun idle => ?_, fun checking => ?_⟩
  · have stays : checkCompletion id s = s := if_neg (by simpa using idle)
    exact congrArg Host.Outcome.next stays
  · have completed := checkCompletion_eq checking
    refine ⟨fun r k failed => ⟨_, rfl, ?_⟩, fun passed busy => ⟨_, rfl, ?_⟩, fun passed off free quiet => ⟨_, rfl, ?_⟩⟩
    · rw [failed] at completed
      rw [completed]
      exact recordResult_stored id .idle r k s
    · rw [passed] at completed
      dsimp only at completed
      rw [completed, if_neg (fun h => busy ((idleCondition_iff s).mp h))]
      exact recordResult_stored id .pending .passed 0 s
    · rw [passed] at completed
      dsimp only at completed
      rw [completed, if_pos ((idleCondition_iff s).mpr ⟨off, free, quiet⟩), activate_stored]
      exact activate_taken id _

theorem Tables.commit_quiet (t : Tables) (q : Option Nat) (id : TableId) : ({ t with quiet := q } : Tables).commit id = t.commit id := by
  cases id <;> rfl

/-- With no table PENDING nothing is taken (R166). -/
theorem activatePending_none {s : State} (none : ∀ id, (s.tables.commit id).state ≠ .pending) : activatePending s = s := by
  have kept (id : TableId) : activateIfPending id s = s := if_neg (by simpa using none id)
  simp [activatePending, kept]

theorem activatePending_quiet (s : State) : (activatePending s).tables.quiet = s.tables.quiet := by
  have recorded (id : TableId) (n : CommitState) (r : CommitResult) (k : Nat) (t : State) :
      (recordResult id n r k t).tables.quiet = t.tables.quiet :=
    (congrArg Tables.quiet (recordResult_quiet id n r k t).tables).trans (by cases id <;> rfl)
  have taken (id : TableId) (t : State) : (activateIfPending id t).tables.quiet = t.tables.quiet := by
    refine ite_keeps (P := fun u => u.tables.quiet = t.tables.quiet) _ (fun _ => ?_) (fun _ => rfl)
    cases id with
    | angle =>
      have quiet := congrArg Tables.quiet (exchangeAngle_tables t)
      exact quiet
    | reference => exact recorded _ _ _ _ _
    | parameters =>
      have quiet := congrArg Tables.quiet (activateParams_taken t).tables
      exact ite_keeps (P := fun u => u.tables.quiet = t.tables.quiet) _ (fun _ => quiet) (fun _ => recorded _ _ _ _ t)
  exact (taken _ _).trans ((taken _ _).trans (taken _ _))

/-- Settles O36, by the idle condition. -/
theorem quietTimer : Obligations.QuietTimer := by
  unfold Obligations.QuietTimer
  intro s
  refine ⟨fun stopped => ?_, fun runs => ⟨fun busy => ?_, fun off free => ?_⟩⟩
  · have stays : quietExpiry s = s := if_neg (by simp [stopped])
    exact congrArg Host.Outcome.next stays
  · have expired : quietExpiry s = idleTest (s.setTables { s.tables with quiet := none }) := if_pos runs
    refine congrArg Host.Outcome.next (expired.trans ?_)
    refine ite_keeps (P := fun t => t = s.setTables { s.tables with quiet := none }) _ (fun idle => ?_) (fun _ => rfl)
    obtain ⟨off, free, -⟩ := (idleCondition_iff _).mp idle
    rcases busy with live | inFlight | none
    · exact absurd off live
    · rw [show s.engine.inFlight = none from free] at inFlight
      cases inFlight
    · exact activatePending_none (fun id => by rw [State.setTables_tables, Tables.commit_quiet]; exact none id)
  · have idle : idleCondition (s.setTables { s.tables with quiet := none }) = true := (idleCondition_iff _).mpr ⟨off, free, rfl⟩
    have expired : quietExpiry s = activatePending (s.setTables { s.tables with quiet := none }) := (if_pos runs).trans (if_pos idle)
    exact ⟨_, rfl, by rw [expired, activatePending_quiet]; rfl, by rw [expired]; exact activatePending_taken _⟩

/-! ### The verdict on an angle table -/

/-- No word fails its test exactly where every word passes. -/
theorem firstFailing_eq_none {ok : Nat → Word → Bool} {ws : List Word} {k : Nat} :
    firstFailing ok k ws = none ↔ ∀ (i : Nat) (h : i < ws.length), ok (k + i) ws[i] = true := by
  induction ws generalizing k with
  | nil => simp [firstFailing]
  | cons w ws ih =>
    have split : (∀ (i : Nat) (h : i < (w :: ws).length), ok (k + i) (w :: ws)[i] = true)
        ↔ ok k w = true ∧ ∀ (i : Nat) (h : i < ws.length), ok (k + 1 + i) ws[i] = true := by
      constructor
      · intro all
        refine ⟨all 0 (by simp), fun i h => ?_⟩
        have next := all (i + 1) (by simpa using h)
        rwa [show k + (i + 1) = k + 1 + i by omega, List.getElem_cons_succ] at next
      · rintro ⟨first, rest⟩ i h
        cases i with
        | zero => exact first
        | succ i =>
          rw [show k + (i + 1) = k + 1 + i by omega, List.getElem_cons_succ]
          exact rest i (by simpa using h)
    rw [split, firstFailing]
    by_cases first : ok k w = true
    · simp [first, ih]
    · simp [first]

/-- The lowest failing word is the one reported. -/
theorem firstFailing_eq_some {ok : Nat → Word → Bool} {ws : List Word} {k i : Nat} (h : i < ws.length) (fails : ok (k + i) ws[i] = false)
    (before : ∀ (j : Nat) (hj : j < i), ok (k + j) (ws[j]'(by omega)) = true) : firstFailing ok k ws = some (k + i) := by
  induction ws generalizing k i with
  | nil => cases h
  | cons w ws ih =>
    cases i with
    | zero => simp [firstFailing, show ok k w = false from fails]
    | succ i =>
      have first : ok k w = true := before 0 (by omega)
      have rest := ih (k := k + 1) (i := i) (by simpa using h) (by rw [show k + 1 + i = k + (i + 1) by omega]; exact fails)
        (fun j hj => by
          have next := before (j + 1) (by omega)
          rwa [show k + (j + 1) = k + 1 + j by omega, List.getElem_cons_succ] at next)
      rw [firstFailing, if_pos first, rest, show k + 1 + i = k + (i + 1) by omega]

/-- No entry rises exactly where none is greater than the one before it. -/
theorem firstRising_eq_none {ws : List Word} {k : Nat} :
    firstRising k ws = none ↔ ∀ (i : Nat) (h : i + 1 < ws.length), ws[i + 1].toNat ≤ ws[i].toNat := by
  induction ws generalizing k with
  | nil => simp [firstRising]
  | cons a ws ih =>
    cases ws with
    | nil => simp [firstRising]
    | cons b ws =>
      have split : (∀ (i : Nat) (h : i + 1 < (a :: b :: ws).length), (a :: b :: ws)[i + 1].toNat ≤ (a :: b :: ws)[i].toNat)
          ↔ b.toNat ≤ a.toNat ∧ ∀ (i : Nat) (h : i + 1 < (b :: ws).length), (b :: ws)[i + 1].toNat ≤ (b :: ws)[i].toNat := by
        constructor
        · intro all
          exact ⟨all 0 (by simp), fun i h => all (i + 1) (by simpa using h)⟩
        · rintro ⟨first, rest⟩ i h
          cases i with
          | zero => exact first
          | succ i => exact rest i (by simpa using h)
      rw [split, firstRising]
      by_cases rises : a.toNat < b.toNat
      · simp [rises]
      · simp [rises, ih, Nat.not_lt.mp rises]

/-- The first entry that rises is the one reported. -/
theorem firstRising_eq_some {ws : List Word} {k i : Nat} (h : i + 1 < ws.length) (rises : ws[i].toNat < ws[i + 1].toNat)
    (before : ∀ (j : Nat) (hj : j < i), (ws[j + 1]'(by omega)).toNat ≤ (ws[j]'(by omega)).toNat) : firstRising k ws = some (k + i + 1) := by
  induction ws generalizing k i with
  | nil => cases h
  | cons a ws ih =>
    cases ws with
    | nil => simp at h
    | cons b ws =>
      cases i with
      | zero => simp [firstRising, show a.toNat < b.toNat from rises]
      | succ i =>
        have first : ¬ a.toNat < b.toNat := Nat.not_lt.mpr (before 0 (by omega))
        have rest := ih (k := k + 1) (i := i) (by simpa using h) rises (fun j hj => before (j + 1) (by omega))
        rw [firstRising, if_neg first, rest]
        congr 1
        omega

/-- The verdict on the standby angle table, by its conditions in order (R162). -/
theorem checkVerdict_angle (s : State) : checkVerdict .angle s =
    if checkOfWords s.tables.angleStandby.toList ≠ s.tables.angleCommit.expected then some (.checkMismatch, 0)
    else match firstFailing (fun _ => inRange 16384 32768) 0 s.tables.angleStandby.toList with
      | some i => some (.outOfRange, i)
      | none => (firstRising 0 s.tables.angleStandby.toList).map (fun i => (.notMonotonic, i)) := by
  refine if_congr Iff.rfl rfl ?_
  have allowed : wordOk s.tables .angle = fun _ => inRange 16384 32768 := rfl
  have words : s.tables.checkedWords .angle = s.tables.angleStandby.toList := rfl
  dsimp only
  rw [allowed, words]
  cases firstFailing (fun _ => inRange 16384 32768) 0 s.tables.angleStandby.toList with
  | some i => rfl
  | none => cases firstRising 0 s.tables.angleStandby.toList <;> rfl

/-- Settles O35, by the order of the three conditions. -/
theorem angleCheckVerdict : Obligations.AngleCheckVerdict := by
  unfold Obligations.AngleCheckVerdict
  rintro s t rfl
  have length : s.tables.angleStandby.toList.length = 257 := by simp
  have ranged : firstFailing (fun _ => inRange 16384 32768) 0 s.tables.angleStandby.toList = none
      ↔ ∀ (i : Nat) (h : i < 257), 16384 ≤ (s.tables.angleStandby[i]).toNat ∧ (s.tables.angleStandby[i]).toNat ≤ 32768 := by
    simp [firstFailing_eq_none, inRange_iff]
  have falling : firstRising 0 s.tables.angleStandby.toList = none
      ↔ ∀ (i : Nat) (h : i + 1 < 257), (s.tables.angleStandby[i + 1]).toNat ≤ (s.tables.angleStandby[i]).toNat := by
    simp [firstRising_eq_none]
  rw [checkVerdict_angle]
  refine ⟨?_, fun mismatch => if_pos mismatch, fun i h same fails before => ?_, fun i h same all rises before => ?_⟩
  · by_cases same : checkOfWords s.tables.angleStandby.toList = s.tables.angleCommit.expected
    · rw [if_neg (not_not.mpr same), ← ranged, ← falling]
      cases firstFailing (fun _ => inRange 16384 32768) 0 s.tables.angleStandby.toList <;> simp [same]
    · simp [same]
  · have failing := firstFailing_eq_some (ok := fun _ => inRange 16384 32768) (ws := s.tables.angleStandby.toList) (k := 0) (i := i)
      (by simpa using h) (by simpa [inRange] using fails) (fun j hj => by simpa [inRange] using before j hj)
    rw [if_neg (not_not.mpr same), failing]
    simp
  · have rising := firstRising_eq_some (ws := s.tables.angleStandby.toList) (k := 0) (i := i) (by simpa using h) (by simpa using rises)
      (fun j hj => by simpa using before j hj)
    rw [if_neg (not_not.mpr same), ranged.mpr all, rising]
    simp

end Sys2Proof.Machine
end

section
/-! The commands of the operating state (R183 to R185): what a move leaves of the channels, and the supervisor after an entry into OFF. -/

namespace Sys2Proof.Machine

/-! ### Channels under block and deblock -/

/-- An operation that acts on the channel of its valve only, folded over valves without repetition, acts once on each channel named. -/
theorem foldl_channel (f : State → ValveId → State) (g : Channel → Channel)
    (hf : ∀ s v w, (f s v).channel w = if w = v then g (s.channel w) else s.channel w) {l : List ValveId} (once : l.Nodup)
    (s : State) (w : ValveId) : (l.foldl f s).channel w = if w ∈ l then g (s.channel w) else s.channel w := by
  induction l generalizing s with
  | nil => rfl
  | cons v l ih =>
    obtain ⟨fresh, once⟩ := List.nodup_cons.mp once
    rw [List.foldl_cons, ih once, hf]
    by_cases same : w = v
    · subst same
      simp [fresh]
    · simp [same]

theorem blockChannel_channel (s : State) (v w : ValveId) : (blockChannel v s).channel w
    = if w = v then { s.channel w with state := .blocked } else s.channel w := by
  unfold blockChannel
  dsimp only
  split
  · next already =>
    split
    · next same =>
      subst same
      rw [show ChannelState.blocked = (s.channel w).state from (beq_iff_eq.mp already).symm]
    · rfl
  · split
    · next same => rw [same, State.channel_setChannel]
    · next other => rw [State.channel_setChannel_ne _ _ other, issueGate_plain_channel _ rfl]

theorem deblockChannel_channel (s : State) (v w : ValveId) : (deblockChannel v s).channel w
    = if w = v then (if (s.channel w).state = .blocked then { s.channel w with state := .idle, misses := 0, blockAck := false }
        else s.channel w) else s.channel w := by
  unfold deblockChannel
  dsimp only
  by_cases same : w = v
  · subst same
    rw [if_pos rfl]
    by_cases blocked : (s.channel w).state = .blocked
    · rw [if_pos blocked, if_pos (beq_iff_eq.mpr blocked), State.channel_setChannel]
    · rw [if_neg blocked, if_neg (by simpa using blocked)]
  · rw [if_neg same]
    split
    · rw [State.channel_setChannel_ne _ _ same, issueGate_plain_channel _ rfl]
    · rfl

theorem blockAll_channel (s : State) (w : ValveId) : (blockAll s).channel w = { s.channel w with state := .blocked } :=
  (foldl_channel _ (fun c => { c with state := .blocked }) blockChannel_channel (by decide) s w).trans (if_pos (valveIds_mem w))

theorem deblockAll_channel (s : State) (w : ValveId) : (deblockAll s).channel w
    = if (s.channel w).state = .blocked then { s.channel w with state := .idle, misses := 0, blockAck := false } else s.channel w :=
  (foldl_channel _ (fun c => if c.state = .blocked then { c with state := .idle, misses := 0, blockAck := false } else c)
    deblockChannel_channel (by decide) s w).trans (if_pos (valveIds_mem w))

/-- A block leaves a BLOCKED channel as it is. -/
theorem blockAll_channel_of_blocked {s : State} {w : ValveId} (blocked : (s.channel w).state = .blocked) :
    (blockAll s).channel w = s.channel w := by
  rw [blockAll_channel, show ChannelState.blocked = (s.channel w).state from blocked.symm]

/-- An outcome report leaves a channel that is not in ISSUED as it is (R138). -/
theorem reportFire_channel_of_ne_issued (c : GateCommand) (r : FireReport) {s : State} {w : ValveId} (other : (s.channel w).state ≠ .issued) :
    (reportFire c r s).channel w = s.channel w := by
  have counted (t : State) : (countReport c.valve r t).channel w = t.channel w := by cases r <;> rfl
  unfold reportFire
  dsimp only
  rw [counted]
  split
  · next current =>
    have issued : (s.channel c.valve).state = .issued := by
      simp only [Channel.isCurrent, Bool.and_eq_true, beq_iff_eq] at current
      exact current.1
    rw [State.channel_setChannel_ne _ _ (fun same => other (by rw [same]; exact issued))]
  · rfl

/-- The reports of a purge leave a BLOCKED channel as it is (R149). -/
theorem reportPurged_channel_of_blocked (cs : List GateCommand) {s : State} {w : ValveId} (blocked : (s.channel w).state = .blocked) :
    (reportPurged cs s).channel w = s.channel w :=
  foldl_keeps (P := fun t => t.channel w = s.channel w) _
    (fun t c h => (reportFire_channel_of_ne_issued c _ (by rw [h, blocked]; decide)).trans h) cs s rfl

theorem purgeAndBlock_channel (s : State) (w : ValveId) : (purgeAndBlock s).channel w = { s.channel w with state := .blocked } := by
  unfold purgeAndBlock
  rw [reportPurged_channel_of_blocked _ (blockAll_blocked _ w), blockAll_channel, purgeQueue, State.modPort_channel]

/-- Every move but those into RUNNING and HOLDING blocks the channels (R186). -/
theorem moveTo_channel {new : OpState} (stops : new.fires = false) (c : Cause) (v w : ValveId) (s : State) :
    ((moveTo new c v s).channel w) = { s.channel w with state := .blocked } := by
  have told := (raise_quiet srcOperatingState (moveDetail s.sup.state new c v) (enterState new s)).channel w
  unfold moveTo moveConsequences
  dsimp only
  split
  · cases stops
  · cases stops
  · split
    · rw [purgeAndBlock_channel, told]
      rfl
    · rw [blockAll_channel, told]
      rfl

theorem moveTo_channel_of_blocked {new : OpState} (stops : new.fires = false) (c : Cause) (v : ValveId) {w : ValveId} {s : State}
    (blocked : (s.channel w).state = .blocked) : (moveTo new c v s).channel w = s.channel w := by
  rw [moveTo_channel stops, show ChannelState.blocked = (s.channel w).state from blocked.symm]

/-- A move into RUNNING from READY or BLOCKED deblocks the channels (R186). -/
theorem moveTo_running_channel {s : State} (from_ : s.sup.state = .ready ∨ s.sup.state = .blocked) (c : Cause) (v w : ValveId) :
    (moveTo .running c v s).channel w
    = if (s.channel w).state = .blocked then { s.channel w with state := .idle, misses := 0, blockAck := false } else s.channel w := by
  have told := (raise_quiet srcOperatingState (moveDetail s.sup.state .running c v) (enterState .running s)).channel w
  have moved : moveTo .running c v s = deblockAll (raise srcOperatingState (moveDetail s.sup.state .running c v) (enterState .running s)) :=
    if_pos (by simpa using from_)
  rw [moved, deblockAll_channel, told]
  rfl

/-! ### The part at rest: in OFF, or in READY with the permissives met -/

/-- s is r after an entry into OFF and what may follow it (R166, R173): the part rests in OFF, or in READY with its permissives met; of the
supervisor only the state and the items have changed, and no BLOCKED channel has. -/
structure AtRest (r s : State) : Prop where
  sup : s.sup = { r.sup with state := s.sup.state, items := s.sup.items }
  live : s.sup.items.notTripped = r.sup.items.notTripped
  state : s.sup.state = .off ∨ (s.sup.state = .ready ∧ s.sup.items.hold = true)
  channels : ∀ w : ValveId, (r.channel w).state = .blocked → s.channel w = r.channel w

namespace AtRest
variable {r s t : State}

theorem refl (off : s.sup.state = .off) : AtRest s s := ⟨rfl, rfl, .inl off, fun _ _ => rfl⟩

theorem congr (h : AtRest r s) (sup : t.sup = s.sup) (channels : t.channels = s.channels) : AtRest r t := by
  refine ⟨?_, ?_, ?_, fun w blocked => ?_⟩
  · rw [sup]; exact h.sup
  · rw [sup]; exact h.live
  · rw [sup]; exact h.state
  · exact (congrArg (fun cs : Vector Channel 6 => cs[w]) channels).trans (h.channels w blocked)

theorem quiet (h : AtRest r s) (q : QuietFrame s t) : AtRest r t := h.congr q.sup q.channels

theorem setTables (h : AtRest r s) (x : Tables) : AtRest r (s.setTables x) := h.congr rfl rfl

/-- An item that may only become met keeps the part at rest; any other does so in OFF. -/
theorem setItems (h : AtRest r s) {f : Permissives → Permissives} (live : (f s.sup.items).notTripped = s.sup.items.notTripped)
    (holds : s.sup.state = .off ∨ (s.sup.items.hold = true → (f s.sup.items).hold = true)) : AtRest r (setItems f s) := by
  refine ⟨?_, live.trans h.live, ?_, h.channels⟩
  · simp only [Machine.setItems, State.setSup_sup]
    rw [h.sup]
  · rcases h.state with off | ⟨ready, hold⟩
    · exact .inl off
    · rcases holds with off | kept
      · exact .inl off
      · exact .inr ⟨ready, kept hold⟩

theorem evalOff (h : AtRest r s) : AtRest r (evalOff s) := by
  refine ⟨?_, by rw [evalOff_items, h.live], ?_, fun w blocked => ?_⟩
  · rw [evalOff_sup, h.sup]
    split <;> rfl
  · rw [evalOff_state, evalOff_items]
    split
    · next moved => exact .inr ⟨rfl, moved.2⟩
    · exact h.state
  · refine ite_keeps (P := fun t => t.channel w = r.channel w) _ (fun _ => ?_) (fun _ => h.channels w blocked)
    rw [moveTo_channel_of_blocked rfl _ _ (by rw [h.channels w blocked]; exact blocked)]
    exact h.channels w blocked

theorem recordResult (h : AtRest r s) (id : TableId) (n : CommitState) (x : CommitResult) (k : Nat) : AtRest r (recordResult id n x k s) :=
  (h.setTables _).quiet (recordResult_quiet id n x k s)

theorem applyFnChange (h : AtRest r s) (off : s.sup.state = .off) : AtRest r (applyFnChange s) := by
  unfold Machine.applyFnChange
  dsimp only
  have retimed : AtRest r { s with pace := s.pace.retime (pFn s.par), tracker := s.tracker.setFree } := h.congr rfl rfl
  split
  · exact retimed
  · have told := raise_quiet srcTrackerState (bytes4 (trackerCode s.tracker.state) (trackerCode .free) 0 0)
      { s with pace := s.pace.retime (pFn s.par), tracker := s.tracker.setFree }
    refine ((retimed.quiet told).setItems rfl (.inl ?_)).evalOff
    rw [told.sup]
    exact off

theorem activationEffects (h : AtRest r s) (off : s.sup.state = .off) (before : ParamRecord) : AtRest r (activationEffects before s) := by
  unfold Machine.activationEffects
  exact ite_keeps (P := AtRest r) _ (fun _ => ite_keeps _ (fun _ => h) (fun _ => h.applyFnChange off))
    (fun _ => AtRest.congr (ite_keeps (P := AtRest r) _ (fun _ => h) (fun _ => h.applyFnChange off)) rfl rfl)

theorem activateParams (h : AtRest r s) (off : s.sup.state = .off) : AtRest r (activateParams s) := by
  refine ((((h.setTables _).recordResult _ _ _ _).activationEffects ?_ _).setItems rfl (.inr fun hold => ?_)).evalOff
  · rw [(recordResult_quiet _ _ _ _ _).sup]
    exact off
  · simp only [Permissives.hold, Bool.and_eq_true] at hold ⊢
    simp [hold]

theorem exchangeAngle (h : AtRest r s) : AtRest r (exchangeAngle s) := by
  refine (((h.setTables _).recordResult _ _ _ _).setItems rfl (.inr fun hold => ?_)).evalOff
  simp only [Permissives.hold, Bool.and_eq_true] at hold ⊢
  simp [hold]

theorem activateIfPending (h : AtRest r s) (id : TableId) (off : id = .parameters → s.sup.state = .off) :
    AtRest r (activateIfPending id s) := by
  refine ite_keeps _ (fun _ => ?_) (fun _ => h)
  cases id with
  | angle => exact h.exchangeAngle
  | reference => exact (h.setTables _).recordResult _ _ _ _
  | parameters => exact ite_keeps _ (fun _ => h.activateParams (off rfl)) (fun _ => h.recordResult _ _ _ _)

theorem idleTest (h : AtRest r s) : AtRest r (idleTest s) := by
  refine ite_keeps _ (fun idle => ?_) (fun _ => h)
  exact ((h.activateIfPending .parameters (fun _ => ((idleCondition_iff s).mp idle).1)).activateIfPending .angle
    (fun e => by cases e)).activateIfPending .reference (fun e => by cases e)

end AtRest

/-- The evaluation leaves OFF where the permissives hold (R173). -/
theorem evalOff_ne_off {s : State} (hold : (evalOff s).sup.items.hold = true) : (evalOff s).sup.state ≠ .off := by
  rw [evalOff_state]
  split
  · decide
  · next stays => exact fun off => stays ⟨off, hold⟩

/-- The part is at rest after an entry into OFF (R173, R187). -/
theorem enterOff_atRest (c : Cause) (s : State) : AtRest (moveTo .off c 0 s) (enterOff c s) :=
  ((AtRest.refl (moveTo_state _ _ _ _)).idleTest).evalOff

/-- An entry into OFF ends in READY exactly where the permissives hold then (R173). -/
theorem enterOff_ready_iff (c : Cause) (s : State) : (enterOff c s).sup.state = .ready ↔ (enterOff c s).sup.items.hold = true := by
  constructor
  · intro ready
    rcases (enterOff_atRest c s).state with off | met
    · rw [ready] at off; cases off
    · exact met.2
  · intro hold
    rcases (enterOff_atRest c s).state with off | met
    · exact absurd off (evalOff_ne_off hold)
    · exact met.1

/-- What an entry into OFF leaves of the supervisor. -/
theorem enterOff_sup (c : Cause) (s : State) : (enterOff c s).sup
    = { s.sup with state := (enterOff c s).sup.state, items := (enterOff c s).sup.items } := by
  have rest := (enterOff_atRest c s).sup
  rwa [moveTo_sup] at rest

theorem enterOff_notTripped (c : Cause) (s : State) : (enterOff c s).sup.items.notTripped = true := by
  rw [(enterOff_atRest c s).live, moveTo_sup]
  rfl

theorem enterOff_blocked (c : Cause) (s : State) (w : ValveId) : ((enterOff c s).channel w).state = .blocked := by
  have blocked : ((moveTo .off c 0 s).channel w).state = .blocked := by rw [moveTo_channel rfl]
  rw [(enterOff_atRest c s).channels w blocked, blocked]

theorem enterOff_channel_of_blocked (c : Cause) {s : State} {w : ValveId} (blocked : (s.channel w).state = .blocked) :
    (enterOff c s).channel w = s.channel w := by
  have kept := moveTo_channel_of_blocked (new := .off) rfl c 0 blocked
  rw [(enterOff_atRest c s).channels w (by rw [kept, blocked]), kept]

/-! ### START, STOP and RESET_TRIP -/

/-- Settles O43, by the operating state: START is a move to RUNNING, RESET_TRIP an entry into OFF. -/
theorem startAndResetTrip : Obligations.StartAndResetTrip := by
  unfold Obligations.StartAndResetTrip
  refine ⟨fun c s ready => ?_, fun c s other => ?_, fun c s tripped => ?_, fun c s other => ?_⟩
  · exact ⟨_, _, rfl, served_of_effect _ (if_pos (beq_iff_eq.mpr ready)), moveTo_gate _ _ _ s,
      moveTo_running_channel (.inl ready) .start 0⟩
  · exact ⟨_, rfl, served_of_effect _ (if_neg (by simpa using other))⟩
  · refine ⟨_, _, rfl, served_of_effect _ (if_pos (beq_iff_eq.mpr tripped)), (setSup_frame _ s).trans (enterOff_frame _ _), ?_, ?_,
      (enterOff_atRest _ _).state.imp_right And.left, enterOff_notTripped _ _, enterOff_ready_iff _ _,
      fun v blocked => enterOff_channel_of_blocked _ (by exact blocked)⟩
    · rw [enterOff_sup]; rfl
    · rw [enterOff_sup]; rfl
  · exact ⟨_, rfl, served_of_effect _ (if_neg (by simpa using other))⟩

/-- The supervisor's counts cleared by STOP (R184). -/
def stopCleared (s : State) : State := s.setSup { s.sup with recovery := 0, holding := 0, ramp := false }

theorem stopEffect_firing {s : State} (h : s.sup.state = .running ∨ s.sup.state = .holding ∨ s.sup.state = .blocked) :
    stopEffect s = (.ok, if s.sup.items.hold = true then moveTo .ready .stop 0 (stopCleared s) else enterOff .stop (stopCleared s)) := by
  unfold stopEffect
  rcases h with h | h | h <;> rw [h] <;> rfl

/-- Settles O44, by the operating state, and in the three that STOP leaves by the permissives. -/
theorem stopCommand : Obligations.StopCommand := by
  unfold Obligations.StopCommand
  refine fun c s => ⟨fun quiet => ?_, fun tripped => ?_, fun firing => ?_⟩
  · refine ⟨_, rfl, served_of_effect _ ?_⟩
    unfold stopEffect
    rcases quiet with off | ready
    · rw [off]
    · rw [ready]
  · refine ⟨_, rfl, served_of_effect _ ?_⟩
    unfold stopEffect
    rw [tripped]
  · have effect := stopEffect_firing firing
    by_cases hold : s.sup.items.hold = true
    · rw [if_pos hold] at effect
      have live : s.sup.items.notTripped = true := by
        simp only [Permissives.hold, Bool.and_eq_true] at hold
        exact hold.2
      have gate : GateFrame { s with sup := { s.sup with state := .ready, recovery := 0, holding := 0, ramp := false } }
          (moveTo .ready .stop 0 (stopCleared s)) := by
        have moved := moveTo_gate .ready .stop 0 (stopCleared s)
        have entered : enterState .ready (stopCleared s)
            = { s with sup := { s.sup with state := .ready, recovery := 0, holding := 0, ramp := false } } := by
          simp only [enterState, stopCleared, State.setSup]
          rw [show (OpState.ready != .tripped) = s.sup.items.notTripped from live.symm]
        rwa [entered] at moved
      refine ⟨_, _, rfl, served_of_effect _ effect, (setSup_frame _ s).trans (moveTo_frame _ _ _ _),
        fun v => by rw [moveTo_channel rfl], ?_, ?_, ?_, ?_, ?_, fun _ => gate, fun lost => absurd hold (by simp [lost])⟩
      all_goals rw [gate.sup]
    · rw [if_neg hold] at effect
      refine ⟨_, _, rfl, served_of_effect _ effect, (setSup_frame _ s).trans (enterOff_frame _ _), enterOff_blocked _ _,
        ?_, ?_, ?_, ?_, ?_, fun met => absurd met hold, fun _ => (enterOff_atRest _ _).state⟩
      all_goals rw [enterOff_sup]; rfl

end Sys2Proof.Machine
end

section
/-! The access agent: which window and which region an address reaches, and what a request meets there (R195, R196, R199). -/

namespace Sys2Proof.Machine

/-! ### A READ at the head of the queue -/

theorem readWords_eq (g : Region) (s : State) (i n : Nat) : readWords g s i n = (List.range n).map (fun k => readWord g (i + k) s) := by
  induction n generalizing i with
  | zero => rfl
  | succ n ih =>
    rw [readWords, ih, List.range_succ_eq_map, List.map_cons, List.map_map]
    congr 1
    exact List.map_congr_left (fun k _ => congrArg (fun j => readWord g j s) (by simp; omega))

theorem isPosted_read {r : Request} (s : State) (read : r.operation = 1#8) : isPosted r s = false := by
  unfold isPosted forcedPosted
  rw [read]
  split <;> rfl

/-- A READ that reaches a region is answered with its words (R195, R198). -/
theorem serveAccess_read {r : Request} {s : State} {g : Region} {i : Nat} (read : r.operation = 1#8)
    (target : accessTarget r s = .ok (g, i)) : serveAccess r s
    = dequeue r (sendReply r .ok ((List.range r.count.toNat).map (fun k => readWord g (i + k) s)) (bump .requestsServed s)) := by
  have outcome : accessOutcome r s = { status := .ok, data := readWords g s i r.count.toNat, state := s } := by
    have reads : r.isWrite = false := by
      unfold Request.isWrite
      rw [read]
      rfl
    unfold accessOutcome
    rw [target]
    dsimp only
    rw [reads]
    rfl
  unfold serveAccess answer
  rw [isPosted_read s read, outcome, readWords_eq]
  rfl

/-- Settles O56, by the service of the head request on an empty queue. -/
theorem readReturnsTheWords : Obligations.ReadReturnsTheWords := by
  unfold Obligations.ReadReturnsTheWords
  intro s r q g i pending due queue read target
  have serves : serveRequest r s = serveAccess r s := if_neg (by rw [read]; decide)
  refine ⟨serveAccess r s, by simp [step, pending, idle, due, queue, serves], ?_, ?_⟩
  · rw [serveAccess_read read target]
    exact reply_served r _ _ _
  · rw [serveAccess_read read target, dequeue_agent]
    simp only
    have kept : (sendReply r .ok ((List.range r.count.toNat).map (fun k => readWord g (i + k) s)) (bump .requestsServed s)).agent
        = s.agent := (offer_access_quiet _ _ _).agent
    rw [kept, queue, if_pos (List.head?_cons ..)]
    rfl

/-! ### Windows and regions -/

theorem firstHit_none {a : Word} {ws : Vector Window 8} (miss : ∀ j : StreamId, (ws[j]).hit a = false) : firstHit a ws = none := by
  unfold firstHit
  rw [List.find?_eq_none]
  intro w mem
  obtain ⟨j, -, rfl⟩ := List.mem_map.mp mem
  rw [Bool.not_eq_true]
  exact miss j

theorem streamIds_eq : streamIds = List.finRange 8 := by decide

/-- The first enabled window that an address hits decides (R196). -/
theorem firstHit_some {a : Word} {ws : Vector Window 8} {j : StreamId} (hit : (ws[j]).hit a = true)
    (first : ∀ k : StreamId, k < j → (ws[k]).hit a = false) : firstHit a ws = some ws[j] := by
  unfold firstHit
  rw [List.find?_eq_some_iff_getElem, streamIds_eq]
  refine ⟨hit, j.val, by simp, by simp, fun k before => ?_⟩
  have miss := first ⟨k, by omega⟩ before
  simpa using miss

/-- Two regions share no word. -/
def Region.apart (g h : Region) : Prop := g.base + g.words ≤ h.base ∨ h.base + h.words ≤ g.base

theorem regionIds_apart : regionIds.Pairwise Region.apart := by
  unfold Region.apart
  decide

theorem regionIds_mem (g : Region) : g ∈ regionIds := by cases g <;> decide

theorem Region.holds_iff {g : Region} {a : Nat} : g.holds a = true ↔ g.base ≤ a ∧ a < g.base + g.words := by simp [Region.holds]

/-- A word address lies in one region at most. -/
theorem Region.eq_of_holds {g h : Region} {a : Nat} (hg : g.holds a = true) (hh : h.holds a = true) : g = h := by
  rw [Region.holds_iff] at hg hh
  by_contra other
  have symmetric : Std.Symm Region.apart := ⟨fun _ _ => Or.symm⟩
  have apart := regionIds_apart.forall (regionIds_mem g) (regionIds_mem h) other
  unfold Region.apart at apart
  omega

theorem regionOf_eq_some {g : Region} {a : Nat} (h : g.holds a = true) : regionOf a = some g := by
  unfold regionOf
  cases found : regionIds.find? (fun r => r.holds a) with
  | none => exact absurd h (by simpa using List.find?_eq_none.mp found g (regionIds_mem g))
  | some x =>
    have holds : x.holds a = true := by simpa using List.find?_some found
    rw [Region.eq_of_holds holds h]

theorem holds_of_regionOf {g : Region} {a : Nat} (h : regionOf a = some g) : g.holds a = true := by simpa using List.find?_some h

/-- An access reaches a region exactly where its first and last words lie in it (R195, test 5). -/
theorem regionSpan_some {g : Region} {first : Word} {n : Nat} (some_ : 1 ≤ n) (lower : g.base ≤ first.toNat)
    (upper : first.toNat + n ≤ g.base + g.words) : regionSpan first n = some (g, first.toNat - g.base) := by
  unfold regionSpan
  rw [regionOf_eq_some (g := g) (Region.holds_iff.mpr ⟨lower, by omega⟩)]
  exact if_pos (Region.holds_iff.mpr ⟨by omega, by omega⟩)

theorem regionSpan_none {first : Word} {n : Nat} (some_ : 1 ≤ n)
    (outside : ∀ g : Region, ¬(g.base ≤ first.toNat ∧ first.toNat + n ≤ g.base + g.words)) :
    regionSpan first n = none := by
  unfold regionSpan
  cases found : regionOf first.toNat with
  | none => rfl
  | some g =>
    refine if_neg fun last => outside g ?_
    have begins := Region.holds_iff.mp (holds_of_regionOf found)
    have ends := Region.holds_iff.mp last
    omega

/-! ### What a write meets -/

theorem writeRequest_isWrite (w : WriteRequest) : (writeRequest w).isWrite = true := by
  unfold writeRequest Request.isWrite
  cases w.posted <;> rfl

theorem accessTarget_write (w : WriteRequest) (s : State) : accessTarget (writeRequest w) s =
    if w.count.toNat < 1 ∨ 32 < w.count.toNat then .error .badCount
    else match firstHit w.address s.agent.windows with
      | none => .error .noWindow
      | some x =>
        if x.readOnly = true then .error .readOnly
        else match regionSpan (x.translated w.address) w.count.toNat with
          | none => .error .badAddress
          | some (g, i) => if g.writable = true then .ok (g, i) else .error .readOnly := by
  unfold accessTarget
  rw [writeRequest_isWrite, Bool.or_true]
  simp only [Bool.not_true, Bool.false_eq_true, if_false, Bool.true_and]
  refine if_congr Iff.rfl rfl ?_
  change (match firstHit w.address s.agent.windows with | none => _ | some x => _) = _
  cases firstHit w.address s.agent.windows with
  | none => rfl
  | some x =>
    refine if_congr Iff.rfl rfl ?_
    change (match regionSpan (x.translated w.address) w.count.toNat with | none => _ | some (g, i) => _) = _
    cases regionSpan (x.translated w.address) w.count.toNat with
    | none => rfl
    | some gi => cases h : gi.1.writable <;> simp [h]

theorem accessTarget_badCount {w : WriteRequest} (s : State) (bad : w.count = 0#8 ∨ 32 < w.count.toNat) :
    accessTarget (writeRequest w) s = .error .badCount := by
  rw [accessTarget_write]
  exact if_pos (bad.imp (fun zero => by rw [zero]; decide) id)

theorem accessTarget_noWindow {w : WriteRequest} {s : State} (lower : 1 ≤ w.count.toNat) (upper : w.count.toNat ≤ 32)
    (miss : ∀ j : StreamId, (s.agent.windows[j]).hit w.address = false) : accessTarget (writeRequest w) s = .error .noWindow := by
  rw [accessTarget_write, if_neg (by omega), firstHit_none miss]

/-- What a write of an admitted count meets behind the first window it hits (R195, tests 4 to 6). -/
theorem accessTarget_window {w : WriteRequest} {s : State} {j : StreamId} (lower : 1 ≤ w.count.toNat) (upper : w.count.toNat ≤ 32)
    (hit : (s.agent.windows[j]).hit w.address = true) (first : ∀ a : StreamId, a < j → (s.agent.windows[a]).hit w.address = false) :
    accessTarget (writeRequest w) s =
      if (s.agent.windows[j]).readOnly = true then .error .readOnly
      else match regionSpan ((s.agent.windows[j]).translated w.address) w.count.toNat with
        | none => .error .badAddress
        | some (g, i) => if g.writable = true then .ok (g, i) else .error .readOnly := by
  rw [accessTarget_write, if_neg (by omega), firstHit_some hit first]

theorem accessTarget_region {w : WriteRequest} {s : State} {j : StreamId} {g : Region} (lower : 1 ≤ w.count.toNat)
    (upper : w.count.toNat ≤ 32) (hit : (s.agent.windows[j]).hit w.address = true)
    (first : ∀ a : StreamId, a < j → (s.agent.windows[a]).hit w.address = false) (writes : (s.agent.windows[j]).readOnly = false)
    (from_ : g.base ≤ ((s.agent.windows[j]).translated w.address).toNat)
    (to_ : ((s.agent.windows[j]).translated w.address).toNat + w.count.toNat ≤ g.base + g.words) : accessTarget (writeRequest w) s
    = if g.writable = true then .ok (g, ((s.agent.windows[j]).translated w.address).toNat - g.base) else .error .readOnly := by
  rw [accessTarget_window lower upper hit first, if_neg (by rw [writes]; decide), regionSpan_some lower from_ to_]

/-- A write is answered with the status and the state that its region gives it (R197, R199). -/
theorem write_answered {w : WriteRequest} {s : State} {g : Region} {i : Nat} (target : accessTarget (writeRequest w) s = .ok (g, i))
    {st : Status} {u : State} (effect : writeRegion g i w.data s = (st, u)) :
    Answered (writeRequest w) (isPosted (writeRequest w) s) st u (serveAccess (writeRequest w) s) := by
  have answered := serveAccess_answered (writeRequest w) s (accessOutcome_write _ s (writeRequest_isWrite w))
  have outcome : accessOutcome (writeRequest w) s = { status := st, data := [], state := u } := by
    unfold accessOutcome
    rw [target]
    dsimp only
    rw [writeRequest_isWrite, if_pos rfl]
    have effect' : writeRegion g i (writeRequest w).data s = (st, u) := effect
    rw [effect']
  rwa [outcome] at answered

/-- A write turned away before its region is answered with that status, and changes nothing. -/
theorem write_refused {w : WriteRequest} {s : State} {e : Status} (target : accessTarget (writeRequest w) s = .error e) :
    Answered (writeRequest w) (isPosted (writeRequest w) s) e s (serveAccess (writeRequest w) s) := by
  have answered := serveAccess_answered (writeRequest w) s (accessOutcome_write _ s (writeRequest_isWrite w))
  have outcome : accessOutcome (writeRequest w) s = { status := e, data := [], state := s } := by
    unfold accessOutcome
    rw [target]
  rwa [outcome] at answered

/-- Each of the eight write rows is the service of its request. -/
theorem exec_write {k : Instr} {w : WriteRequest}
    (row : k ∈ [Instr.portConfigurationWrite w, .forwardingTableWrite w, .streamTableWrite w, .accessWindowWrite w,
      .noticeVectorWrite w, .counterClear w, .standbyOrStagedWrite w, .readOnlyRegionWrite w]) (s : State) :
    exec k s = .next (serveAccess (writeRequest w) s) := by
  simp only [List.mem_cons, List.not_mem_nil, or_false] at row
  rcases row with h | h | h | h | h | h | h | h <;> subst h <;> rfl

/-- Settles O55, by the tests of R195 in their order. -/
theorem writesThatReachNoRegion : Obligations.WritesThatReachNoRegion := by
  unfold Obligations.WritesThatReachNoRegion
  refine ⟨fun k w s e row target => ⟨_, exec_write ?_ s, write_refused target⟩, fun w s => ⟨accessTarget_badCount s, fun lower upper =>
    ⟨accessTarget_noWindow lower upper, fun j hit first => ⟨fun readOnly => ?_, ?_⟩⟩⟩, ?_⟩
  · simpa using List.mem_map_of_mem (f := fun k : WriteRequest → Instr => k w) row
  · rw [accessTarget_window lower upper hit first, if_pos readOnly]
  · rintro start writes rfl
    refine ⟨fun outside => ?_, fun g from_ to_ => accessTarget_region lower upper hit first writes from_ to_⟩
    rw [accessTarget_window lower upper hit first, if_neg (by rw [writes]; decide), regionSpan_none lower outside]
  · rintro w s j g start lower upper hit first rfl from_ to_ writes locked
    refine ⟨_, rfl, write_refused ?_⟩
    rw [accessTarget_region lower upper hit first writes from_ to_, if_neg (by rw [locked]; decide)]

end Sys2Proof.Machine
end

section
/-! What a region reads after a write: the words written one by one, and the fields of each record from the bits of its words
(R25, R196, R199, R203). -/

namespace Sys2Proof.Machine

/-! ### Words written one by one -/

/-- Where each word written changes the read of its own place only, a place reads the word written there, or as before. -/
theorem foldl_placed_reads {σ : Type} {f : σ → Nat × Word → σ} {read : Nat → σ → Word} {mask : Nat → Word} {good : σ → Prop}
    {ok : Nat × Word → Bool} {size : Nat} (kept : ∀ s x, ok x = true → good s → good (f s x))
    (written : ∀ s x k, k < size → ok x = true → good s → read k (f s x) = if k = x.1 then x.2 &&& mask k else read k s)
    {ws : List Word} {i : Nat} (admitted : (placed i ws).all ok = true) {s : σ} (h : good s) {k : Nat} (inside : k < size) :
    read k ((placed i ws).foldl f s) = if i ≤ k ∧ k < i + ws.length then ws.getD (k - i) 0 &&& mask k else read k s := by
  induction ws generalizing i s with
  | nil => exact (if_neg (by simp)).symm
  | cons w ws ih =>
    rw [placed, List.all_cons, Bool.and_eq_true] at admitted
    rw [placed, List.foldl_cons, ih admitted.2 (kept s _ admitted.1 h), written s _ k inside admitted.1 h, List.length_cons]
    by_cases here : k = i
    · subst here
      simp
    · by_cases later : i + 1 ≤ k
      · have index : k - i = k - (i + 1) + 1 := by omega
        rw [index, List.getD_cons_succ]
        by_cases within : k < i + 1 + ws.length
        · rw [if_pos ⟨later, within⟩, if_pos ⟨by omega, by omega⟩]
        · rw [if_neg (fun c => within c.2), if_neg here, if_neg (fun c => within (by omega))]
      · rw [if_neg (fun c => later c.1), if_neg here, if_neg (fun c => later (by omega))]

/-- All words placed from i on satisfy a test where each does at its place. -/
theorem placed_all {ok : Nat × Word → Bool} {ws : List Word} {i : Nat} :
    (placed i ws).all ok = true ↔ ∀ j, j < ws.length → ok (i + j, ws.getD j 0) = true := by
  induction ws generalizing i with
  | nil => simp [placed]
  | cons w ws ih =>
    rw [placed, List.all_cons, Bool.and_eq_true, ih, List.length_cons]
    constructor
    · rintro ⟨first, rest⟩ j inside
      cases j with
      | zero => exact first
      | succ j =>
        have holds := rest j (by omega)
        rwa [show i + 1 + j = i + (j + 1) by omega] at holds
    · intro all
      refine ⟨all 0 (by omega), fun j inside => ?_⟩
      have holds := all (j + 1) (by omega)
      rwa [show i + (j + 1) = i + 1 + j by omega] at holds

/-- A record of a region with one word written: the other records read as before, and so do the other words of this one. -/
theorem recordWord_written {n size : Nat} {a b : Fin n → List Word} {j : Nat} {w : Word} {mask : Nat → Word} (hj : j / size < n)
    (others : ∀ r : Fin n, r.val ≠ j / size → b r = a r)
    (inside : ∀ c, c < size → wordOf (b ⟨j / size, hj⟩) c = if c = j % size then w &&& mask j else wordOf (a ⟨j / size, hj⟩) c)
    (pos : 0 < size) (k : Nat) : recordWord b size k = if k = j then w &&& mask k else recordWord a size k := by
  unfold recordWord
  have whole := Nat.div_add_mod k size
  have whole' := Nat.div_add_mod j size
  by_cases record : k / size = j / size
  · have hk : k / size < n := record ▸ hj
    have same : (⟨k / size, hk⟩ : Fin n) = ⟨j / size, hj⟩ := Fin.ext record
    rw [dif_pos hk, dif_pos hk, same, inside _ (Nat.mod_lt _ pos)]
    by_cases place : k % size = j % size
    · have here : k = j := by rw [← whole, ← whole', record, place]
      rw [if_pos place, if_pos here, here]
    · rw [if_neg place, if_neg (fun here => place (by rw [here]))]
  · rw [if_neg (fun here => record (by rw [here]))]
    by_cases hk : k / size < n
    · rw [dif_pos hk, dif_pos hk, others _ record]
    · rw [dif_neg hk, dif_neg hk]

/-! ### Fields and bits -/

theorem bit_getLsbD (w : Word) (k : Nat) : bit (w.getLsbD k) = w.toNat / 2 ^ k % 2 := by
  rw [BitVec.getLsbD, Nat.testBit_eq_decide_div_mod_eq, bit]
  have two := Nat.mod_lt (w.toNat / 2 ^ k) (by decide : 2 > 0)
  by_cases one : w.toNat / 2 ^ k % 2 = 1
  · simp [one]
  · simp only [one, decide_false, Bool.false_eq_true, if_false]
    omega

/-- A mask of two parts takes the bits of each part. -/
theorem and_split (n a : Nat) {b k : Nat} (small : b < 2 ^ k) : n &&& (2 ^ k * a + b) = 2 ^ k * (n / 2 ^ k &&& a) + (n % 2 ^ k &&& b) := by
  have upper : (n &&& (2 ^ k * a + b)) / 2 ^ k = n / 2 ^ k &&& a := by
    rw [Nat.and_div_two_pow, Nat.mul_add_div (Nat.two_pow_pos k), Nat.div_eq_of_lt small, Nat.add_zero]
  have lower : (n &&& (2 ^ k * a + b)) % 2 ^ k = n % 2 ^ k &&& b := by
    rw [Nat.and_mod_two_pow, Nat.mul_add_mod, Nat.mod_eq_of_lt small]
  rw [← upper, ← lower, Nat.div_add_mod]

theorem and_low (n k : Nat) : n &&& (2 ^ k - 1) = n % 2 ^ k := Nat.and_two_pow_sub_one_eq_mod n k

/-- A packed number is a masked word where it is the number of the masked bits. -/
theorem pack_eq_and {n : Nat} {w m : Word} (h : n = w.toNat &&& m.toNat) : pack n = w &&& m := by
  apply BitVec.eq_of_toNat_eq
  have small : (w &&& m).toNat < 2 ^ 32 := (w &&& m).isLt
  rw [BitVec.toNat_and] at small ⊢
  rw [pack, BitVec.toNat_ofNat, h, Nat.mod_eq_of_lt small]

theorem and_allOnes (w : Word) : w &&& 0xFFFFFFFF#32 = w := BitVec.and_allOnes

end Sys2Proof.Machine
end

section
/-! Writes to the forwarding table, the access windows and the notice vectors (R25, R196, R203). -/

namespace Sys2Proof.Machine

/-! ### The forwarding table -/

theorem arrivalCode_arrivalOf {n : Nat} (h : n < 3) : arrivalCode (arrivalOf n) = n := by
  interval_cases n <;> rfl

theorem actionCode_actionOf {n : Nat} (h : n < 4) : actionCode (actionOf n) = n := by
  interval_cases n <;> rfl

theorem destCode_destModeOf {n : Nat} (h : n < 4) : destCode (destModeOf n) = n := by
  interval_cases n <;> rfl

theorem bitsOf_lt (w : Word) (shift n : Nat) : bitsOf w shift n < 2 ^ n := Nat.mod_lt _ (Nat.two_pow_pos n)

theorem and_0x77 (n : Nat) : n &&& 0x77 = 16 * (n / 16 % 8) + n % 8 := by
  have upper : n / 16 &&& 7 = n / 16 % 8 := and_low (n / 16) 3
  have lower : n % 16 &&& 7 = n % 16 % 8 := and_low (n % 16) 3
  have split : n &&& 0x77 = 16 * (n / 16 &&& 7) + (n % 16 &&& 7) := and_split n 7 (b := 7) (k := 4) (by decide)
  omega

theorem and_0x1FF (n : Nat) : n &&& 0x1FF = n % 512 := and_low n 9

theorem and_0x3FF (n : Nat) : n &&& 0x3FF = n % 1024 := and_low n 10

theorem fwdWordOk_iff {x : Nat × Word} : fwdWordOk x = true ↔ (x.1 % 4 = 0 → x.2.toNat / 2 % 4 ≠ 3) := by
  simp [fwdWordOk, bitsOf, imp_iff_not_or]

/-- Word 0 of a forwarding entry reads as written, with its arrival port code admitted (R25). -/
theorem fwdWord0_written (w : Word) (admitted : bitsOf w 1 2 ≠ 3) :
    pack (bit (w.getLsbD 0) + field (arrivalCode (arrivalOf (bitsOf w 1 2))) 2 1 + field (actionCode (actionOf (bitsOf w 4 2))) 2 4
      + field (bit (w.getLsbD 6)) 1 6) = w &&& 0x77#32 := by
  have arrival := bitsOf_lt w 1 2
  rw [arrivalCode_arrivalOf (by omega), actionCode_actionOf (bitsOf_lt w 4 2), bit_getLsbD, bit_getLsbD]
  refine pack_eq_and ((?_ : _ = _).trans (and_0x77 w.toNat).symm)
  unfold field bitsOf
  omega

theorem fwdWord1_written (w : Word) : pack ((w.extractLsb' 0 8).toNat + field (bit (w.getLsbD 8)) 1 8) = w &&& 0x1FF#32 := by
  rw [bit_getLsbD, BitVec.extractLsb'_toNat]
  refine pack_eq_and ((?_ : _ = _).trans (and_0x1FF w.toNat).symm)
  unfold field
  rw [Nat.shiftRight_zero]
  omega

theorem fwdWord2_written (w : Word) :
    pack ((w.extractLsb' 0 8).toNat + field (destCode (destModeOf (bitsOf w 8 2))) 2 8) = w &&& 0x3FF#32 := by
  rw [destCode_destModeOf (bitsOf_lt w 8 2), BitVec.extractLsb'_toNat]
  refine pack_eq_and ((?_ : _ = _).trans (and_0x3FF w.toNat).symm)
  unfold field bitsOf
  rw [Nat.shiftRight_zero]
  omega

/-- A forwarding entry with one word written reads that word within its mask, and its other words as before. -/
theorem fwdWords_write (e : FwdEntry) {k c : Nat} (hk : k < 4) (hc : c < 4) (w : Word) (admitted : k ≠ 0 ∨ bitsOf w 1 2 ≠ 3) :
    wordOf (fwdWords (e.write k w)) c = if c = k then w &&& Region.forwarding.mask k else wordOf (fwdWords e) c := by
  by_cases here : c = k
  · subst here
    rw [if_pos rfl]
    interval_cases c
    · exact fwdWord0_written w (admitted.resolve_left (by decide))
    · exact fwdWord1_written w
    · exact fwdWord2_written w
    · exact fwdWord1_written w
  · rw [if_neg here]
    interval_cases k <;> interval_cases c <;> first | rfl | exact absurd rfl here

theorem fwdMask_mod (k : Nat) : Region.forwarding.mask (k % 4) = Region.forwarding.mask k := by
  unfold Region.mask
  rw [Nat.mod_mod]

/-- One word written to the forwarding table, in range and admitted (R25). -/
theorem readWord_applyFwdWord (s : State) (x : Nat × Word) {k : Nat} (inside : k < 64) (ok : fwdWordOk x = true) :
    readWord .forwarding k (applyFwdWord s x) = if k = x.1 then x.2 &&& Region.forwarding.mask k else readWord .forwarding k s := by
  obtain ⟨j, w⟩ := x
  unfold applyFwdWord
  dsimp only
  by_cases hj : j / 4 < 16
  · rw [dif_pos hj]
    unfold readWord
    refine recordWord_written hj (fun r other => ?_) (fun c hc => ?_) (by decide) k
    · have apart : j / 4 ≠ r.val := fun same => other same.symm
      simp [apart]
    · have admitted : j % 4 ≠ 0 ∨ bitsOf w 1 2 ≠ 3 := by simpa [fwdWordOk] using ok
      rw [← fwdMask_mod, ← fwdWords_write _ (Nat.mod_lt _ (by decide)) hc w admitted]
      simp
  · rw [dif_neg hj, if_neg (by omega)]

theorem applyFwdWord_other (s : State) (x : Nat × Word) : applyFwdWord s x = { s with fwd := (applyFwdWord s x).fwd } := by
  unfold applyFwdWord
  split <;> rfl

/-! ### The access windows -/

theorem and_0xF (n : Nat) : n &&& 0xF = n % 16 := and_low n 4

theorem windowWord0_written (w : Word) : pack (bit (w.getLsbD 0) + 2 * bit (w.getLsbD 1) + 4 * bit (w.getLsbD 2) + 8 * bit (w.getLsbD 3))
    = w &&& 0xF#32 := by
  simp only [bit_getLsbD]
  refine pack_eq_and ((?_ : _ = _).trans (and_0xF w.toNat).symm)
  omega

theorem windowWords_write (e : Window) {k c : Nat} (hk : k < 4) (hc : c < 4) (w : Word) :
    wordOf (windowWords (e.write k w)) c = if c = k then w &&& Region.windows.mask k else wordOf (windowWords e) c := by
  by_cases here : c = k
  · subst here
    rw [if_pos rfl]
    interval_cases c
    · exact windowWord0_written w
    · exact (and_allOnes w).symm
    · exact (and_allOnes w).symm
    · exact (and_allOnes w).symm
  · rw [if_neg here]
    interval_cases k <;> interval_cases c <;> first | rfl | exact absurd rfl here

theorem windowMask_mod (k : Nat) : Region.windows.mask (k % 4) = Region.windows.mask k := by
  unfold Region.mask
  rw [Nat.mod_mod]

theorem readWord_applyWindowWord (s : State) (x : Nat × Word) {k : Nat} (inside : k < 32) :
    readWord .windows k (applyWindowWord s x) = if k = x.1 then x.2 &&& Region.windows.mask k else readWord .windows k s := by
  obtain ⟨j, w⟩ := x
  unfold applyWindowWord
  dsimp only
  by_cases hj : j / 4 < 8
  · rw [dif_pos hj]
    unfold readWord
    refine recordWord_written hj (fun r other => ?_) (fun c hc => ?_) (by decide) k
    · have apart : j / 4 ≠ r.val := fun same => other same.symm
      simp [apart]
    · rw [← windowMask_mod, ← windowWords_write _ (Nat.mod_lt _ (by decide)) hc w]
      simp
  · rw [dif_neg hj, if_neg (by omega)]

theorem applyWindowWord_other (s : State) (x : Nat × Word) :
    applyWindowWord s x = { s with agent := { s.agent with windows := (applyWindowWord s x).agent.windows } } := by
  unfold applyWindowWord
  split <;> rfl

/-! ### The notice vectors -/

theorem and_0xFFFF03 (n : Nat) : n &&& 0xFFFF03 = 256 * (n / 256 % 65536) + n % 4 := by
  have upper : n / 256 &&& 0xFFFF = n / 256 % 65536 := and_low (n / 256) 16
  have lower : n % 256 &&& 3 = n % 256 % 4 := and_low (n % 256) 2
  have split : n &&& 0xFFFF03 = 256 * (n / 256 &&& 0xFFFF) + (n % 256 &&& 3) := and_split n 0xFFFF (b := 3) (k := 8) (by decide)
  omega

/-- Word 0 of a vector entry reads as written (R203). -/
theorem noticeWord0_written (e : NoticeEntry) (w : Word) : wordOf (noticeWords (e.write w)) 0 = w &&& 0xFFFF03#32 := by
  have route : bit ((if w.getLsbD 1 then PortId.south else .north) == .south) = w.toNat / 2 % 2 := by
    have bit1 := bit_getLsbD w 1
    rw [pow_one] at bit1
    rw [← bit1]
    cases w.getLsbD 1 <;> rfl
  have word : wordOf (noticeWords (e.write w)) 0 = pack (bit (w.getLsbD 0)
      + 2 * bit ((if w.getLsbD 1 then PortId.south else .north) == .south) + field (w.extractLsb' 8 8).toNat 8 8
      + field (w.extractLsb' 16 8).toNat 8 16) := by
    unfold NoticeEntry.write
    dsimp only
    split <;> rfl
  rw [word, route, bit_getLsbD, BitVec.extractLsb'_toNat, BitVec.extractLsb'_toNat]
  refine pack_eq_and ((?_ : _ = _).trans (and_0xFFFF03 w.toNat).symm)
  unfold field
  rw [Nat.shiftRight_eq_div_pow, Nat.shiftRight_eq_div_pow]
  omega

/-- What a write leaves of the pending state of a vector entry (R203). -/
theorem NoticeEntry.write_pending (e : NoticeEntry) (w : Word) : if e.enable = true ∧ w.getLsbD 0 = false
    then (e.write w).pending = false ∧ (e.write w).repeats = 0
    else (e.write w).pending = e.pending ∧ (e.write w).repeats = e.repeats ∧ (e.write w).latest = e.latest := by
  unfold NoticeEntry.write
  cases enabled : e.enable <;> cases bit0 : w.getLsbD 0 <;> simp

/-- A write to the vectors gives each entry its own word 0, if it is among those written. -/
theorem foldl_applyVectorWord (ws : List Word) (i : Nat) (s : State) (n : SourceId) :
    ((placed i ws).foldl applyVectorWord s).notices[n] = if i ≤ 2 * n.val ∧ 2 * n.val < i + ws.length
      then (s.notices[n]).write (ws.getD (2 * n.val - i) 0) else s.notices[n] := by
  induction ws generalizing i s with
  | nil => exact (if_neg (by simp)).symm
  | cons w ws ih =>
    rw [placed, List.foldl_cons, ih, List.length_cons]
    have one : (applyVectorWord s (i, w)).notices[n] = if i = 2 * n.val then (s.notices[n]).write w else s.notices[n] := by
      unfold applyVectorWord
      dsimp only
      by_cases hi : i / 2 < 22
      · rw [dif_pos hi]
        by_cases even : i % 2 = 0
        · rw [if_pos even]
          by_cases same : i = 2 * n.val
          · have index : (⟨i / 2, hi⟩ : SourceId) = n := Fin.ext (by simp; omega)
            rw [if_pos same, index, setNotice_notices_self]
            have entry : s.notices[i / 2] = s.notices[n] := congrArg (fun m : SourceId => s.notices[m]) index
            rw [entry]
          · rw [if_neg same, setNotice_notices_ne _ _ (fun e => same (by rw [e]; simp; omega))]
        · rw [if_neg even, if_neg (by omega)]
      · have bound := n.isLt
        rw [dif_neg hi, if_neg (by omega)]
    rw [one]
    by_cases here : i = 2 * n.val
    · rw [if_neg (by omega), if_pos here, if_pos (by omega), here, Nat.sub_self]
      rfl
    · rw [if_neg here]
      by_cases later : i + 1 ≤ 2 * n.val
      · have index : 2 * n.val - i = 2 * n.val - (i + 1) + 1 := by omega
        rw [index, List.getD_cons_succ]
        exact if_congr (by omega) rfl rfl
      · rw [if_neg (by omega), if_neg (by omega)]

theorem applyVectorWord_other (s : State) (x : Nat × Word) : applyVectorWord s x = { s with notices := (applyVectorWord s x).notices } := by
  unfold applyVectorWord
  split
  · split <;> rfl
  · rfl

theorem readWord_vectors (s : State) (n : SourceId) : readWord .vectors (2 * n.val) s = wordOf (noticeWords s.notices[n]) 0 := by
  have record : 2 * n.val / 2 = n.val := by omega
  have place : 2 * n.val % 2 = 0 := by omega
  unfold readWord recordWord
  dsimp only
  rw [dif_pos (by rw [record]; exact n.isLt), place]
  congr 2
  exact congrArg (fun m : SourceId => s.notices[m]) (Fin.ext record)

/-- An operation that changes one block only does so over a list. -/
theorem foldl_only {α : Type} {only : State → State → Prop} (f : State → α → State) (same : ∀ s, only s s)
    (step : ∀ r s a, only r s → only r (f s a)) (l : List α) (s : State) : only s (l.foldl f s) :=
  foldl_keeps (P := only s) f (fun t a h => step s t a h) l s (same s)

/-- Settles O52, by the words of each table written one by one. -/
theorem tableWritesReadBack : Obligations.TableWritesReadBack := by
  unfold Obligations.TableWritesReadBack
  rintro w s i posted - rfl
  refine ⟨fun target => ⟨fun admitted => ?_, ?_⟩, fun target => ?_, fun target => ?_⟩
  · have ok : (placed i w.data).all fwdWordOk = true := placed_all.mpr fun j inside => fwdWordOk_iff.mpr (admitted j inside)
    refine ⟨_, _, rfl, write_answered target (if_pos ok), ?_, fun k inside => ?_⟩
    · exact foldl_only (only := fun s t => t = { s with fwd := t.fwd }) _ (fun _ => rfl)
        (fun r t x h => by rw [applyFwdWord_other, h]) _ s
    · exact foldl_placed_reads (good := fun _ => True) (fun _ _ _ _ => trivial) (fun t x k inside ok _ => readWord_applyFwdWord t x inside ok)
        ok trivial inside
  · rintro ⟨j, inside, first, code⟩
    refine ⟨_, rfl, write_answered target (if_neg fun ok => ?_)⟩
    exact fwdWordOk_iff.mp (placed_all.mp ok j inside) first code
  · refine ⟨_, _, rfl, write_answered target rfl, ?_, fun k inside => ?_⟩
    · exact foldl_only (only := fun s t => t = { s with agent := { s.agent with windows := t.agent.windows } }) _ (fun _ => rfl)
        (fun r t x h => by rw [applyWindowWord_other, h]) _ s
    · exact foldl_placed_reads (good := fun _ => True) (ok := fun _ => true) (fun _ _ _ _ => trivial)
        (fun t x k inside _ _ => readWord_applyWindowWord t x inside) (by simp) trivial inside
  · refine ⟨_, _, rfl, write_answered target rfl, ?_, fun n => ⟨fun outside => ?_, fun from_ to_ => ?_⟩⟩
    · exact foldl_only (only := fun s t => t = { s with notices := t.notices }) _ (fun _ => rfl)
        (fun r t x h => by rw [applyVectorWord_other, h]) _ s
    · exact (foldl_applyVectorWord _ _ _ _).trans (if_neg outside)
    · have entry := (foldl_applyVectorWord w.data i s n).trans (if_pos ⟨from_, to_⟩)
      rw [readWord_vectors, entry, noticeWord0_written]
      exact ⟨rfl, (s.notices[n]).write_pending _⟩

end Sys2Proof.Machine
end

section
/-! Writes to the counters, the standby banks, the staged record and the port configuration (R23, R158, R159, R199). -/

namespace Sys2Proof.Machine

/-! ### Counters -/

theorem readWord_clearCounterWord (s : State) (x : Nat × Word) (k : Nat) (zero : (x.2 == 0) = true) :
    readWord .counters k (clearCounterWord s x) = if k = x.1 then x.2 &&& Region.counters.mask k else readWord .counters k s := by
  obtain ⟨j, w⟩ := x
  obtain rfl : w = 0 := by simpa using zero
  have masked : (0 : Word) &&& Region.counters.mask k = 0 := BitVec.zero_and
  unfold clearCounterWord readWord
  dsimp only
  rw [masked]
  by_cases inside : k < 297
  · rw [dif_pos inside]
    by_cases hj : j < 297
    · rw [dif_pos hj, Vector.getElem_set, dif_pos inside]
      exact if_congr eq_comm rfl rfl
    · rw [dif_neg hj, dif_pos inside, if_neg (by omega)]
  · rw [dif_neg inside, dif_neg inside, ite_self]

theorem clearCounterWord_other (s : State) (x : Nat × Word) : clearCounterWord s x = { s with counters := (clearCounterWord s x).counters } := by
  unfold clearCounterWord
  split <;> rfl

/-! ### Standby banks and the staged record -/

/-- Word k of a bank, 0 outside it. -/
def bankWord {n : Nat} (k : Nat) (t : Vector Word n) : Word := if h : k < n then t[k] else 0

theorem bankWord_setWord {n : Nat} (t : Vector Word n) (x : Nat × Word) {k : Nat} (inside : k < n) :
    bankWord k (setWord t x) = if k = x.1 then x.2 &&& 0xFFFFFFFF#32 else bankWord k t := by
  unfold bankWord setWord
  rw [dif_pos inside, dif_pos inside, and_allOnes]
  by_cases hx : x.1 < n
  · simp only [dif_pos hx, Vector.getElem_set]
    exact if_congr eq_comm rfl rfl
  · simp only [dif_neg hx]
    exact (if_neg (by omega)).symm

/-- A bank reads the words written to it (R158). -/
theorem bankWord_setWords {n : Nat} (t : Vector Word n) (i : Nat) (ws : List Word) {k : Nat} (inside : k < n) : bankWord k (setWords t i ws)
    = if i ≤ k ∧ k < i + ws.length then ws.getD (k - i) 0 &&& 0xFFFFFFFF#32 else bankWord k t :=
  foldl_placed_reads (mask := fun _ => 0xFFFFFFFF#32) (good := fun _ => True) (ok := fun _ => true) (size := n) (fun _ _ _ _ => trivial)
    (fun t x _ inside _ _ => bankWord_setWord t x inside) (by simp) trivial inside

/-- The words that R159 does not name read 0. -/
def UnnamedZero (t : ParamRecord) : Prop := ∀ k, paramUnnamed k = true → bankWord k t = 0

theorem bankWord_setStagedWord {t : ParamRecord} (zero : UnnamedZero t) (x : Nat × Word) {k : Nat} (inside : k < 64) :
    bankWord k (setStagedWord t x) = if k = x.1 then x.2 &&& Region.staged.mask k else bankWord k t := by
  unfold setStagedWord
  by_cases unnamed : paramUnnamed x.1 = true
  · rw [if_pos unnamed]
    by_cases here : k = x.1
    · subst here
      have masked : Region.staged.mask x.1 = 0#32 := if_pos unnamed
      rw [if_pos rfl, masked, zero _ unnamed]
      exact BitVec.and_zero.symm
    · rw [if_neg here]
  · rw [if_neg unnamed, bankWord_setWord t x inside]
    by_cases here : k = x.1
    · subst here
      have masked : Region.staged.mask x.1 = 0xFFFFFFFF#32 := if_neg unnamed
      rw [if_pos rfl, if_pos rfl, masked]
    · rw [if_neg here, if_neg here]

theorem UnnamedZero.setStagedWord {t : ParamRecord} (zero : UnnamedZero t) (x : Nat × Word) : UnnamedZero (setStagedWord t x) := by
  intro k unnamed
  have inside : k < 64 := by
    have small : ∀ j, j ∈ [7, 14, 15, 22, 23, 30, 31, 38, 39, 46, 47, 53, 54, 55, 61, 62, 63] → j < 64 := by decide
    exact small k (List.contains_iff_mem.mp unnamed)
  have masked : Region.staged.mask k = 0#32 := if_pos unnamed
  rw [bankWord_setStagedWord zero x inside, masked, zero k unnamed, BitVec.and_zero]
  split <;> rfl

theorem bankWord_setStagedWords {t : ParamRecord} (zero : UnnamedZero t) (i : Nat) (ws : List Word) {k : Nat} (inside : k < 64) :
    bankWord k (setStagedWords t i ws) = if i ≤ k ∧ k < i + ws.length then ws.getD (k - i) 0 &&& Region.staged.mask k else bankWord k t :=
  foldl_placed_reads (good := UnnamedZero) (ok := fun _ => true) (fun _ x _ zero => zero.setStagedWord x)
    (fun _ x _ inside _ zero => bankWord_setStagedWord zero x inside) (by simp) zero inside

theorem Tables.writeStandby_angle (t : Tables) (i : Nat) (ws : List Word) :
    (t.writeStandby .angle i ws).angleStandby = setWords t.angleStandby i ws := by
  unfold Tables.writeStandby Tables.angleStandby
  cases t.angleActiveB <;> simp

theorem Tables.writeStandby_reference (t : Tables) (i : Nat) (ws : List Word) :
    (t.writeStandby .reference i ws).refStandby = setWords t.refStandby i ws := by
  unfold Tables.writeStandby Tables.refStandby
  cases t.refActiveB <;> simp

/-- A write to what stands by leaves what is active, and every commit, as it is (R158). -/
theorem Tables.writeStandby_active (t : Tables) (id : TableId) (i : Nat) (ws : List Word) :
    (t.writeStandby id i ws).angleActive = t.angleActive ∧ (t.writeStandby id i ws).refActive = t.refActive
      ∧ (t.writeStandby id i ws).active = t.active ∧ ∀ k : TableId, (t.writeStandby id i ws).commit k = t.commit k := by
  cases id with
  | parameters => exact ⟨rfl, rfl, rfl, fun k => by cases k <;> rfl⟩
  | angle =>
    unfold Tables.writeStandby Tables.angleActive
    cases t.angleActiveB <;> simp [Tables.refActive] <;> intro k <;> cases k <;> rfl
  | reference =>
    unfold Tables.writeStandby Tables.refActive
    cases t.refActiveB <;> simp [Tables.angleActive] <;> intro k <;> cases k <;> rfl

/-- The region that takes the writes to what stands by of a table, or to the staged record (R158). -/
def standbyRegion : TableId → Region
  | .parameters => .staged
  | .angle => .angleStandby
  | .reference => .refStandby

theorem writeRegion_standby (id : TableId) (i : Nat) (ws : List Word) (s : State) :
    writeRegion (standbyRegion id) i ws s = if (s.tables.commit id).state = .idle then (.ok, s.setTables (s.tables.writeStandby id i ws))
      else (.busy, s) := by
  have written : writeRegion (standbyRegion id) i ws s = writeStandby id i ws s := by cases id <;> rfl
  rw [written]
  unfold writeStandby
  cases (s.tables.commit id).state <;> rfl

theorem standby_readsBack (id : TableId) (i : Nat) (ws : List Word) {s : State} (zero : UnnamedZero s.tables.staged) :
    ReadsBack (standbyRegion id) i ws s (s.setTables (s.tables.writeStandby id i ws)) := by
  intro k inside
  cases id with
  | parameters => exact bankWord_setStagedWords zero i ws inside
  | angle =>
    have reads := bankWord_setWords s.tables.angleStandby i ws inside
    rw [← Tables.writeStandby_angle] at reads
    exact reads
  | reference =>
    have reads := bankWord_setWords s.tables.refStandby i ws inside
    rw [← Tables.writeStandby_reference] at reads
    exact reads

/-- Settles O53, by the words of the region written one by one, and by the commit of the table. -/
theorem counterAndStandbyWrites : Obligations.CounterAndStandbyWrites := by
  unfold Obligations.CounterAndStandbyWrites
  rintro w s i posted - rfl
  refine ⟨fun target => ⟨fun zeros => ?_, ?_⟩, fun r id region target => ?_⟩
  · have all : w.data.all (fun x => x == 0) = true := List.all_eq_true.mpr fun x mem => by simp [zeros x mem]
    have ok : (placed i w.data).all (fun x => x.2 == 0) = true := placed_all.mpr fun j inside => by
      have zero := zeros _ (List.getElem_mem inside)
      simp [List.getD, inside, zero]
    refine ⟨_, _, rfl, write_answered target (if_pos all), ?_, fun k inside => ?_⟩
    · exact foldl_only (only := fun s t => t = { s with counters := t.counters }) _ (fun _ => rfl)
        (fun r t x h => by rw [clearCounterWord_other, h]) _ s
    · exact foldl_placed_reads (good := fun _ => True) (fun _ _ _ _ => trivial)
        (fun t x k _ zero _ => readWord_clearCounterWord t x k zero) ok trivial inside
  · rintro ⟨x, mem, nonzero⟩
    exact ⟨_, rfl, write_answered target (if_neg fun all => nonzero (by simpa using List.all_eq_true.mp all x mem))⟩
  · obtain rfl : r = standbyRegion id := by
      rcases region with ⟨rfl, rfl⟩ | ⟨rfl, rfl⟩ | ⟨rfl, rfl⟩ <;> rfl
    refine ⟨fun idle => ?_, fun busy => ⟨_, rfl, write_answered target ((writeRegion_standby ..).trans (if_neg busy))⟩⟩
    exact ⟨_, _, rfl, write_answered target ((writeRegion_standby ..).trans (if_pos idle)), rfl, standby_readsBack id i w.data,
      s.tables.writeStandby_active id i w.data⟩

end Sys2Proof.Machine
end

section
/-! Writes to the port configuration (R23, R34): what the words of a port say, and what a lost readiness lets go. -/

namespace Sys2Proof.Machine

/-! ### A flush outside its port -/

/-- t differs from s in its ports, and otherwise as gate commands and notices may change it. -/
def PortsOnly (s t : State) : Prop := GateFrame { s with pn := t.pn, ps := t.ps } t

theorem PortsOnly.refl (s : State) : PortsOnly s s := GateFrame.refl s

theorem PortsOnly.trans {s t u : State} (a : PortsOnly s t) (b : PortsOnly t u) : PortsOnly s u :=
  GateFrame.trans (t := { t with pn := u.pn, ps := u.ps })
    ⟨⟨a.pending, a.nodeId, a.fwd, a.merge, a.engine, a.agent, rfl, rfl, a.counts⟩, a.sup, a.tables, a.tracker, a.pace, a.gates⟩ b

theorem PortsOnly.modPort (s : State) (p : PortId) (f : Port → Port) : PortsOnly s (s.modPort p f) := by
  cases p <;> exact GateFrame.refl _

theorem flush_gate (p : PortId) (s : State) : GateFrame (s.modPort p Port.flushed) (flush p s) := by
  have drops (u : State) : GateFrame u (countDrops p .pass (s.port p).pass (countDrops p .measure (s.port p).measure
      (countDrops p .access (s.port p).access (countDrops p .timed (s.port p).timed u)))) :=
    ((((countDrops_quiet p _ _ u).trans (countDrops_quiet p _ _ _)).trans (countDrops_quiet p _ _ _)).trans
      (countDrops_quiet p _ _ _)).toGateFrame
  unfold flush
  dsimp only
  refine GateFrame.trans ?_ (foldl_gate _ (fun s f => reportFrameNotSent_gate f s) _ _)
  split
  · exact (bump_quiet _ _ rfl).toGateFrame.trans (drops _)
  · exact drops _

theorem flush_portsOnly (p : PortId) (s : State) : PortsOnly s (flush p s) := by
  have gate := flush_gate p s
  have north : (flush p s).pn = (s.modPort p Port.flushed).pn := flush_ports p .north s
  have south : (flush p s).ps = (s.modPort p Port.flushed).ps := flush_ports p .south s
  unfold PortsOnly
  rw [north, south]
  cases p <;> exact gate

theorem setOneWay_portsOnly (p : PortId) (on : Bool) (s : State) : PortsOnly s (setOneWay p on s) :=
  (PortsOnly.modPort s p _).trans (ite_keeps (P := PortsOnly _) _ (fun _ => flush_portsOnly p _) (fun _ => .refl _))

/-! ### The words of a port -/

/-- The port whose record of the region has number r. -/
def recordPort (r : Fin 2) : PortId := if r = 0 then .north else .south

theorem recordPort_injective : ∀ a b : Fin 2, recordPort a = recordPort b → a = b := by decide

theorem readWord_portConfig (k : Nat) (s : State) :
    readWord .portConfig k s = recordWord (fun r : Fin 2 => portConfigWords (s.port (recordPort r))) 8 k := by
  have records : (fun r : Fin 2 => portConfigWords (s.port (recordPort r))) = fun r : Fin 2 => portConfigWords (if r = 0 then s.pn else s.ps) := by
    funext r
    unfold recordPort
    split <;> rfl
  rw [records]
  rfl

theorem portOfWord_eq {j : Nat} (hj : j / 8 < 2) : portOfWord j = recordPort ⟨j / 8, hj⟩ := by
  unfold portOfWord recordPort
  have first : (⟨j / 8, hj⟩ : Fin 2) = 0 ↔ j < 8 := by rw [Fin.ext_iff]; simp
  simp only [first]

theorem setOneWay_port_ne {p q : PortId} (on : Bool) (s : State) (other : q ≠ p) : (setOneWay p on s).port q = s.port q :=
  (flushIfLost_port_ne _ _ other).trans (State.modPort_port_ne _ _ other)

theorem setOneWay_config (p : PortId) (on : Bool) (s : State) : ((setOneWay p on s).port p).oneWay = on
    ∧ ((setOneWay p on s).port p).hiErrThreshold = (s.port p).hiErrThreshold
    ∧ ((setOneWay p on s).port p).accessPriority = (s.port p).accessPriority := by
  unfold setOneWay
  simp

theorem applyPortWord_port_ne (s : State) (x : Nat × Word) {q : PortId} (other : q ≠ portOfWord x.1) :
    (applyPortWord s x).port q = s.port q := by
  unfold applyPortWord
  split
  · exact setOneWay_port_ne _ s other
  · exact State.modPort_port_ne _ _ other
  · exact State.modPort_port_ne _ _ other
  · rfl

/-- The word of a port that the admitted word names reads as written, and its other words as before (R23). -/
theorem portConfigWords_applyPortWord (s : State) (x : Nat × Word) (ok : portWordOk x = true) {c : Nat} (hc : c < 8) :
    wordOf (portConfigWords ((applyPortWord s x).port (portOfWord x.1))) c
      = if c = x.1 % 8 then x.2 &&& Region.portConfig.mask x.1 else wordOf (portConfigWords (s.port (portOfWord x.1))) c := by
  obtain ⟨j, w⟩ := x
  unfold portWordOk at ok
  unfold applyPortWord Region.mask
  dsimp only at ok ⊢
  have place := Nat.mod_lt j (by decide : 8 > 0)
  generalize j % 8 = k at ok place
  have number : pack w.toNat = w := BitVec.ofNat_toNat ..
  match k, place with
  | 0, _ =>
    have bit0 : pack (bit (w == 1)) = w := by
      have small : w.toNat ≤ 1 := (inRange_iff.mp ok).2
      rcases (by omega : w.toNat = 0 ∨ w.toNat = 1) with zero | one
      · obtain rfl : w = 0 := BitVec.eq_of_toNat_eq zero
        rfl
      · obtain rfl : w = 1 := BitVec.eq_of_toNat_eq one
        rfl
    obtain ⟨on, threshold, priority⟩ := setOneWay_config (portOfWord j) (w == 1) s
    simp only [portConfigWords, on, threshold, priority, bit0]
    interval_cases c <;> simp [wordOf, and_allOnes]
  | 1, _ =>
    simp only [State.modPort_port, portConfigWords, number]
    interval_cases c <;> simp [wordOf, and_allOnes]
  | 2, _ =>
    simp only [setAccessPriority, State.modPort_port, portConfigWords, number]
    interval_cases c <;> simp [wordOf, and_allOnes]
  | k + 3, _ =>
    have masked : (if k + 3 < 3 then 0xFFFFFFFF#32 else 0#32) = 0#32 := if_neg (by omega)
    rw [masked]
    by_cases here : c = k + 3
    · rw [if_pos here, here]
      exact BitVec.and_zero.symm
    · rw [if_neg here]
      rfl

theorem readWord_applyPortWord (s : State) (x : Nat × Word) (k : Nat) (ok : portWordOk x = true) (inside : x.1 < 16) :
    readWord .portConfig k (applyPortWord s x) = if k = x.1 then x.2 &&& Region.portConfig.mask k else readWord .portConfig k s := by
  have hj : x.1 / 8 < 2 := by omega
  rw [readWord_portConfig, readWord_portConfig]
  refine recordWord_written hj (fun r other => ?_) (fun c hc => ?_) (by decide) k
  · rw [applyPortWord_port_ne]
    rw [portOfWord_eq hj]
    exact fun same => other (congrArg Fin.val (recordPort_injective _ _ same))
  · rw [← portOfWord_eq hj]
    exact portConfigWords_applyPortWord s x ok hc

/-! ### What a write keeps -/

/-- The port y has the link state, the attempt count and the reception of x, and holds no frame where it lost its readiness (R19, R23). -/
structure PortConfigured (x y : Port) : Prop where
  link : y.link = x.link
  rx : y.rx = x.rx
  attempts : y.attempts = x.attempts
  flushed : x.transmitReady = true → y.transmitReady = false →
    y.timed = [] ∧ y.access = [] ∧ y.measure = [] ∧ y.pass = [] ∧ y.tx = none

theorem PortConfigured.setOneWay {x : Port} {s : State} {p : PortId} (h : PortConfigured x (s.port p)) (on : Bool) :
    PortConfigured x ((setOneWay p on s).port p) := by
  refine ⟨by simp [Machine.setOneWay, h.link], by simp [Machine.setOneWay, h.rx], by simp [Machine.setOneWay, h.attempts], ?_⟩
  intro was
  unfold Machine.setOneWay
  dsimp only
  rw [flushIfLost_self, State.modPort_port]
  split
  · exact fun _ => ⟨rfl, rfl, rfl, rfl, rfl⟩
  · next stays =>
    intro lost
    have before : (s.port p).transmitReady = false := by
      rw [lost] at stays
      simpa using stays
    exact h.flushed was before

theorem PortConfigured.applyPortWord {x : Port} {s : State} {p : PortId} (h : PortConfigured x (s.port p)) (y : Nat × Word) :
    PortConfigured x ((applyPortWord s y).port p) := by
  by_cases here : p = portOfWord y.1
  · subst here
    unfold Machine.applyPortWord
    split
    · exact h.setOneWay _
    · rw [State.modPort_port]
      exact ⟨h.link, h.rx, h.attempts, h.flushed⟩
    · rw [setAccessPriority, State.modPort_port]
      exact ⟨h.link, h.rx, h.attempts, h.flushed⟩
    · exact h
  · rw [applyPortWord_port_ne s y here]
    exact h

theorem applyPortWord_portsOnly (s : State) (x : Nat × Word) : PortsOnly s (applyPortWord s x) := by
  unfold applyPortWord
  split
  · exact setOneWay_portsOnly _ _ s
  · exact .modPort s _ _
  · exact .modPort s _ _
  · exact .refl s

theorem portWordOk_iff (i : Nat) (w : Word) : portWordOk (i, w) = true ↔ match i % 8 with
    | 0 => w.toNat ≤ 1
    | 1 => 1 ≤ w.toNat ∧ w.toNat ≤ 255
    | 2 => 1 ≤ w.toNat ∧ w.toNat ≤ 15
    | _ => True := by
  unfold portWordOk
  dsimp only
  generalize i % 8 = k
  match k with
  | 0 => simp [inRange_iff]
  | 1 => exact inRange_iff
  | 2 => exact inRange_iff
  | k + 3 => simp

theorem not_portWordOk {i : Nat} {w : Word} (bad : match i % 8 with
    | 0 => 2 ≤ w.toNat
    | 1 => w.toNat = 0 ∨ 256 ≤ w.toNat
    | 2 => w.toNat = 0 ∨ 16 ≤ w.toNat
    | _ => False) : portWordOk (i, w) ≠ true := by
  rw [ne_eq, portWordOk_iff]
  generalize i % 8 = k at bad
  match k, bad with
  | 0, bad => exact fun ok => absurd (show w.toNat ≤ 1 from ok) (Nat.not_le.mpr bad)
  | 1, bad => exact fun ok : 1 ≤ w.toNat ∧ w.toNat ≤ 255 => (by omega : ¬(w.toNat = 0 ∨ 256 ≤ w.toNat)) bad
  | 2, bad => exact fun ok : 1 ≤ w.toNat ∧ w.toNat ≤ 15 => (by omega : ¬(w.toNat = 0 ∨ 16 ≤ w.toNat)) bad
  | k + 3, bad => exact bad.elim

/-- A write that reaches a region lies in it (R195, test 5). -/
theorem target_fits {w : WriteRequest} {s : State} {g : Region} {i : Nat} (target : accessTarget (writeRequest w) s = .ok (g, i)) :
    i + w.count.toNat ≤ g.words := by
  rw [accessTarget_write] at target
  split at target
  · cases target
  next counted =>
  split at target
  · cases target
  split at target
  · cases target
  split at target
  · cases target
  next h i' span =>
  split at target
  · obtain ⟨rfl, rfl⟩ := Prod.mk.inj (Except.ok.inj target)
    unfold regionSpan at span
    split at span
    · cases span
    next g' found =>
    split at span
    · next last =>
      obtain ⟨rfl, rfl⟩ := Prod.mk.inj (Option.some.inj span)
      have begins := Region.holds_iff.mp (holds_of_regionOf found)
      have ends := Region.holds_iff.mp last
      omega
    · cases span
  · cases target

/-- Settles O51, by the words of the region written one by one. -/
theorem portConfigurationWrite : Obligations.PortConfigurationWrite := by
  unfold Obligations.PortConfigurationWrite
  intro w s i wellFormed target
  have length : w.data.length = w.count.toNat := by simpa [WriteRequest.wellFormed] using wellFormed
  have fits : i + w.data.length ≤ 16 := length ▸ target_fits target
  refine ⟨fun admitted => ?_, ?_⟩
  · have ok : (placed i w.data).all portWordOk = true := placed_all.mpr fun j inside => (portWordOk_iff _ _).mpr (admitted j inside)
    have okInside : (placed i w.data).all (fun x => portWordOk x && decide (x.1 < 16)) = true := placed_all.mpr fun j inside => by
      have within : i + j < 16 := by omega
      rw [placed_all.mp ok j inside]
      simpa using within
    refine ⟨_, _, rfl, write_answered target (if_pos ok), fun k inside => ?_, ?_, fun p => ?_⟩
    · refine foldl_placed_reads (good := fun _ => True) (fun _ _ _ _ => trivial) (fun t x k _ okx _ => ?_) okInside trivial inside
      rw [Bool.and_eq_true, decide_eq_true_eq] at okx
      exact readWord_applyPortWord t x k okx.1 okx.2
    · exact foldl_only (only := PortsOnly) _ PortsOnly.refl (fun r t x h => h.trans (applyPortWord_portsOnly t x)) _ s
    · have configured : PortConfigured (s.port p) (((placed i w.data).foldl applyPortWord s).port p) :=
        foldl_keeps (P := fun t => PortConfigured (s.port p) (t.port p)) _ (fun t x h => h.applyPortWord x) _ s
          ⟨rfl, rfl, rfl, fun was lost => by rw [was] at lost; cases lost⟩
      exact ⟨configured.link, configured.rx, configured.attempts, configured.flushed⟩
  · rintro ⟨j, inside, bad⟩
    exact ⟨_, rfl, write_answered target (if_neg fun ok => not_portWordOk bad (placed_all.mp ok j inside))⟩

end Sys2Proof.Machine
end

section
/-! Writes to the stream table (R48 to R50): the words of an entry, the conditions of R49, and the streams that a write restarts. -/

namespace Sys2Proof.Machine

/-! ### The blocks that the supervisor's operations leave alone -/

/-- t has the waiting commands, the node id, the forwarding table, the merge unit and the agent of r. -/
structure SameStores (r t : State) : Prop where
  pending : t.pending = r.pending
  nodeId : t.nodeId = r.nodeId
  fwd : t.fwd = r.fwd
  merge : t.merge = r.merge
  agent : t.agent = r.agent

theorem SameStores.refl (s : State) : SameStores s s := ⟨rfl, rfl, rfl, rfl, rfl⟩

theorem SameStores.congr {r s t : State} (h : SameStores r s) (k : SameStores s t) : SameStores r t :=
  ⟨k.pending.trans h.pending, k.nodeId.trans h.nodeId, k.fwd.trans h.fwd, k.merge.trans h.merge, k.agent.trans h.agent⟩

theorem SupFrame.sameStores {s t : State} (h : SupFrame s t) : SameStores s t := ⟨h.pending, h.nodeId, h.fwd, h.merge, h.agent⟩

theorem gateStable_sameStores (r : State) : GateStable (SameStores r) where
  counters _ _ h := h.congr ⟨rfl, rfl, rfl, rfl, rfl⟩
  notice s n e h := h.congr (setNotice_quiet n e s).toSupFrame.sameStores
  place s p _ _ _ _ h := h.congr (by constructor <;> simp)
  append s _ q _ _ h := h.congr (setTimed_gate (fun _ => q) s).toSupFrame.sameStores
  channel s v c _ _ h := h.congr (setChannel_gate v c s).toSupFrame.sameStores

/-- What the supervisor, the channels, the table store, the tracker and the engine do leaves those blocks as they are. -/
theorem coreStable_sameStores (r : State) : CoreStable (SameStores r) :=
  .of_supFree (gateStable_sameStores r) (fun s v c _ h => h.congr (setChannel_gate v c s).toSupFrame.sameStores)
    (fun s _ _ h => h.congr (by constructor <;> simp)) (fun s _ q _ h => h.congr (setTimed_gate (fun _ => q) s).toSupFrame.sameStores)
    (fun s h => h.congr (purgeQueue_gate s).toSupFrame.sameStores) (fun _ _ h => h.congr ⟨rfl, rfl, rfl, rfl, rfl⟩) (fun _ _ h => h.congr ⟨rfl, rfl, rfl, rfl, rfl⟩)
    (fun _ _ _ h => h.congr ⟨rfl, rfl, rfl, rfl, rfl⟩) (fun _ _ _ h => h.congr ⟨rfl, rfl, rfl, rfl, rfl⟩) (fun _ _ _ h => h.congr ⟨rfl, rfl, rfl, rfl, rfl⟩)

/-! ### The stream table under a row close -/

theorem closeStream_table (m : Merge) (r : Row) (s : State) (i : StreamId) : (closeStream m r s i).merge.table = s.merge.table := by
  unfold closeStream bumpStream
  split
  · split
    · rw [putStatus_merge]
    · rw [putStatus_merge]
      split <;> rfl
  · rfl

theorem closeSelection_table (index : Word) (s : State) : (closeSelection index s).merge.table = s.merge.table := by
  unfold closeSelection
  exact iteInduction (motive := fun t : State => t.merge.table = s.merge.table) (fun _ => rfl)
    (fun _ => by rw [(updateItems_frame _ _).merge, (raise_quiet _ _ _).merge]; rfl)

theorem closeRow_table (r : Row) (s : State) : (closeRow r s).merge.table = s.merge.table := by
  have streams := foldl_keeps (P := fun t => t.merge.table = s.merge.table) (closeStream s.merge r)
    (fun t i h => (closeStream_table s.merge r t i).trans h) streamIds s rfl
  have appended (c : CompositeSet) (t : State) : (closeAppend c t).merge.table = t.merge.table := by
    unfold closeAppend
    rw [((coreStable_sameStores _).testWindows _ (.refl _)).merge]
    rfl
  unfold closeRow
  dsimp only
  rw [appended, closeSelection_table]
  exact streams

theorem closeCascade_table (check : Option Nat) (fuel : Nat) (s : State) : (closeCascade check fuel s).merge.table = s.merge.table := by
  induction fuel generalizing s with
  | zero => rfl
  | succ fuel ih =>
    unfold closeCascade
    split
    · rfl
    · split
      · rw [ih, closeRow_table]
      · rfl

/-! ### The words of an entry -/

theorem roleCode_roleOf {n : Nat} (h : n < 3) : roleCode (roleOf n) = n := by
  interval_cases n <;> rfl

theorem and_0xFF0F (n : Nat) : n &&& 0xFF0F = 256 * (n / 256 % 256) + n % 16 := by
  have upper : n / 256 &&& 0xFF = n / 256 % 256 := and_low (n / 256) 8
  have lower : n % 256 &&& 0xF = n % 256 % 16 := and_low (n % 256) 4
  have split : n &&& 0xFF0F = 256 * (n / 256 &&& 0xFF) + (n % 256 &&& 0xF) := and_split n 0xFF (b := 0xF) (k := 8) (by decide)
  omega

theorem streamWord0_written (w : Word) (admitted : bitsOf w 1 2 ≠ 3) :
    pack (bit (w.getLsbD 0) + field (roleCode (roleOf (bitsOf w 1 2))) 2 1 + field (bit (w.getLsbD 3)) 1 3
      + field (w.extractLsb' 8 8).toNat 8 8) = w &&& 0xFF0F#32 := by
  have role := bitsOf_lt w 1 2
  rw [roleCode_roleOf (by omega), bit_getLsbD, bit_getLsbD, BitVec.extractLsb'_toNat]
  refine pack_eq_and ((?_ : _ = _).trans (and_0xFF0F w.toNat).symm)
  unfold field bitsOf
  rw [Nat.shiftRight_eq_div_pow]
  omega

theorem mapBits_mapOf (w : Word) (shift : Nat) : mapBits (mapOf w shift) shift = w.toNat / 2 ^ shift % 16 * 2 ^ shift := by
  have whole : w.toNat / 2 ^ (shift + 3) = w.toNat / 2 ^ shift / 8 := by rw [pow_add, Nat.div_div_eq_div_mul]; rfl
  unfold mapBits mapOf field
  dsimp only
  rw [bit_getLsbD, whole, pow_add, bitsOf, ← mul_assoc, mul_right_comm, ← add_mul]
  congr 1
  omega

theorem streamWord1_written (w : Word) : pack (mapBits (mapOf w 0) 0 + mapBits (mapOf w 4) 4 + mapBits (mapOf w 8) 8) = w &&& 0xFFF#32 := by
  have masked : w.toNat &&& 0xFFF = w.toNat % 4096 := and_low w.toNat 12
  rw [mapBits_mapOf, mapBits_mapOf, mapBits_mapOf]
  refine pack_eq_and ((?_ : _ = _).trans masked.symm)
  omega

theorem streamWord2_written (w : Word) : pack (w.extractLsb' 0 16).toNat = w &&& 0xFFFF#32 := by
  rw [BitVec.extractLsb'_toNat, Nat.shiftRight_zero]
  exact pack_eq_and (and_low w.toNat 16).symm

theorem streamWord3_written (w : Word) : pack (w.extractLsb' 0 8).toNat = w &&& 0xFF#32 := by
  rw [BitVec.extractLsb'_toNat, Nat.shiftRight_zero]
  exact pack_eq_and (and_low w.toNat 8).symm

theorem streamEntryWords_write (e : StreamEntry) {k c : Nat} (hk : k < 4) (hc : c < 4) (w : Word) (admitted : k ≠ 0 ∨ bitsOf w 1 2 ≠ 3) :
    wordOf (streamEntryWords (e.write k w)) c = if c = k then w &&& Region.streamTable.mask k else wordOf (streamEntryWords e) c := by
  by_cases here : c = k
  · subst here
    rw [if_pos rfl]
    interval_cases c
    · exact streamWord0_written w (admitted.resolve_left (by decide))
    · exact streamWord1_written w
    · exact streamWord2_written w
    · exact streamWord3_written w
  · rw [if_neg here]
    interval_cases k <;> interval_cases c <;> first | rfl | exact absurd rfl here

theorem streamMask_mod (k : Nat) : Region.streamTable.mask (k % 4) = Region.streamTable.mask k := by
  unfold Region.mask
  rw [Nat.mod_mod]

/-- Word k of the region over a stream table. -/
def streamTableWord (k : Nat) (t : Vector StreamEntry 8) : Word := recordWord (fun a : Fin 8 => streamEntryWords t[a]) 4 k

theorem streamTableWord_applyStreamWord (t : Vector StreamEntry 8) (x : Nat × Word) {k : Nat} (inside : k < 32) (ok : streamWordOk x = true) :
    streamTableWord k (applyStreamWord t x) = if k = x.1 then x.2 &&& Region.streamTable.mask k else streamTableWord k t := by
  obtain ⟨j, w⟩ := x
  unfold applyStreamWord
  dsimp only
  by_cases hj : j / 4 < 8
  · rw [dif_pos hj]
    unfold streamTableWord
    refine recordWord_written hj (fun r other => ?_) (fun c hc => ?_) (by decide) k
    · have apart : j / 4 ≠ r.val := fun same => other same.symm
      simp [apart]
    · have admitted : j % 4 ≠ 0 ∨ bitsOf w 1 2 ≠ 3 := by simpa [streamWordOk] using ok
      rw [← streamMask_mod, ← streamEntryWords_write _ (Nat.mod_lt _ (by decide)) hc w admitted]
      simp
  · rw [dif_neg hj, if_neg (by omega)]

/-- The table as it would stand reads the words written (R48). -/
theorem streamTableWord_after (t : Vector StreamEntry 8) (i : Nat) (ws : List Word) (ok : (placed i ws).all streamWordOk = true) {k : Nat}
    (inside : k < 32) : streamTableWord k (streamTableAfter i ws t)
    = if i ≤ k ∧ k < i + ws.length then ws.getD (k - i) 0 &&& Region.streamTable.mask k else streamTableWord k t :=
  foldl_placed_reads (good := fun _ => True) (fun _ _ _ _ => trivial) (fun t x _ inside ok _ => streamTableWord_applyStreamWord t x inside ok)
    ok trivial inside

theorem streamWordOk_iff {x : Nat × Word} : streamWordOk x = true ↔ (x.1 % 4 = 0 → x.2.toNat / 2 % 4 ≠ 3) := by
  simp [streamWordOk, bitsOf, imp_iff_not_or]

theorem streamTableWord_entry (t : Vector StreamEntry 8) (a : StreamId) {c : Nat} (hc : c < 4) :
    streamTableWord (4 * a.val + c) t = wordOf (streamEntryWords t[a]) c := by
  have record : (4 * a.val + c) / 4 = a.val := by omega
  have place : (4 * a.val + c) % 4 = c := by omega
  unfold streamTableWord recordWord
  have index : (⟨(4 * a.val + c) / 4, by rw [record]; exact a.isLt⟩ : Fin 8) = a := Fin.ext record
  rw [dif_pos (by rw [record]; exact a.isLt), index, place]

/-- What the words of an entry say of it (R48). -/
theorem streamEntry_fields (e : StreamEntry) :
    ((wordOf (streamEntryWords e) 0).getLsbD 0 = e.enable) ∧ (wordOf (streamEntryWords e) 0).toNat / 2 % 4 = roleCode e.role
      ∧ (wordOf (streamEntryWords e) 0).toNat / 256 % 256 = e.source.toNat ∧ (wordOf (streamEntryWords e) 3).toNat % 256 = e.holdLimit.toNat := by
  have word : (wordOf (streamEntryWords e) 0).toNat = bit e.enable + 2 * roleCode e.role + 8 * bit e.acceptTest + 256 * e.source.toNat := by
    have role : roleCode e.role < 3 := by cases e.role <;> decide
    have enable : bit e.enable < 2 := by cases e.enable <;> decide
    have test : bit e.acceptTest < 2 := by cases e.acceptTest <;> decide
    have source := e.source.isLt
    change (pack _).toNat = _
    rw [pack, BitVec.toNat_ofNat]
    unfold field
    omega
  have role : roleCode e.role < 3 := by cases e.role <;> decide
  have enable : bit e.enable < 2 := by cases e.enable <;> decide
  have test : bit e.acceptTest < 2 := by cases e.acceptTest <;> decide
  have source := e.source.isLt
  have hold := e.holdLimit.isLt
  refine ⟨?_, by omega, by omega, ?_⟩
  · have bits := bit_getLsbD (wordOf (streamEntryWords e) 0) 0
    rw [word] at bits
    have same : bit ((wordOf (streamEntryWords e) 0).getLsbD 0) = bit e.enable := by omega
    generalize (wordOf (streamEntryWords e) 0).getLsbD 0 = x at same
    cases x <;> cases h : e.enable <;> simp_all [bit]
  · change (pack e.holdLimit.toNat).toNat % 256 = _
    rw [pack, BitVec.toNat_ofNat]
    omega

end Sys2Proof.Machine
end

section
/-! The conditions on a stream table (R49), the streams that a write restarts (R50), and the statement about the write. -/

namespace Sys2Proof.Machine

/-! ### The conditions of R49 -/

theorem countEntries_eq_card (t : Vector StreamEntry 8) (f : StreamEntry → Bool) :
    countEntries t f = (Finset.univ.filter (fun a : StreamId => f t[a] = true)).card := by
  unfold countEntries
  rw [streamIds_eq, ← List.toFinset_card_of_nodup ((List.nodup_finRange 8).filter _), List.toFinset_filter, List.toFinset_finRange]

theorem countEntries_le_one (t : Vector StreamEntry 8) (f : StreamEntry → Bool) :
    countEntries t f ≤ 1 ↔ ∀ a b : StreamId, f t[a] = true → f t[b] = true → a = b := by
  rw [countEntries_eq_card, Finset.card_le_one_iff]
  simp

/-- A stream table meets the conditions of R49 on its entries: a hold limit each, one entry per voltage role at most, 6 feeders at most, and
different sources. -/
structure TableAdmitted (t : Vector StreamEntry 8) : Prop where
  holds : ∀ a : StreamId, (t[a]).holdLimit ≠ 0
  roles : ∀ a b : StreamId, (t[a]).enable = true → (t[b]).enable = true → (t[a]).role = (t[b]).role → (t[a]).role ≠ .feeder → a = b
  feeders : countEntries t (fun e => e.enable && e.role == .feeder) ≤ 6
  sources : ∀ a b : StreamId, (t[a]).enable = true → (t[b]).enable = true → (t[a]).source = (t[b]).source → a = b

theorem streamTableOk_iff (t : Vector StreamEntry 8) : streamTableOk t = true ↔ TableAdmitted t := by
  have every (p : StreamId → Bool) : streamIds.all p = true ↔ ∀ a, p a = true := by
    rw [streamIds_eq]
    simp
  unfold streamTableOk
  simp only [Bool.and_eq_true, every, decide_eq_true_eq, countEntries_le_one, bne_iff_ne, beq_iff_eq]
  constructor
  · rintro ⟨⟨⟨⟨holds, main⟩, standby⟩, feeders⟩, sources⟩
    refine ⟨holds, fun a b ha hb same voltage => ?_, feeders, fun a b ha hb same => sources a a b ⟨⟨ha, ha⟩, rfl⟩ ⟨⟨ha, hb⟩, same.symm⟩⟩
    cases role : (t[a]).role with
    | feeder => exact absurd role voltage
    | voltageMain => exact main a b ⟨ha, role⟩ ⟨hb, same ▸ role⟩
    | voltageStandby => exact standby a b ⟨ha, role⟩ ⟨hb, same ▸ role⟩
  · rintro ⟨holds, roles, feeders, sources⟩
    refine ⟨⟨⟨⟨holds, fun a b ha hb => ?_⟩, fun a b ha hb => ?_⟩, feeders⟩, fun c a b ha hb => ?_⟩
    · exact roles a b ha.1 hb.1 (ha.2.trans hb.2.symm) (by rw [ha.2]; decide)
    · exact roles a b ha.1 hb.1 (ha.2.trans hb.2.symm) (by rw [ha.2]; decide)
    · exact sources a b ha.1.2 hb.1.2 (ha.2.trans hb.2.symm)

/-! ### R49 in the words of the table -/

theorem roleCode_injective (a b : Role) (same : roleCode a = roleCode b) : a = b := by
  cases a <;> cases b <;> first | rfl | cases same

theorem role_ne_feeder_iff (r : Role) : r ≠ .feeder ↔ roleCode r = 1 ∨ roleCode r = 2 := by cases r <;> decide

section
variable {t : Vector StreamEntry 8} {W : Nat → Word} (reads : ∀ k, k < 32 → W k = streamTableWord k t)
include reads

theorem words_entry (a : StreamId) : ((W (4 * a.val)).getLsbD 0 = (t[a]).enable) ∧ (W (4 * a.val)).toNat / 2 % 4 = roleCode (t[a]).role
    ∧ (W (4 * a.val)).toNat / 256 % 256 = (t[a]).source.toNat ∧ (W (4 * a.val + 3)).toNat % 256 = (t[a]).holdLimit.toNat := by
  have bound := a.isLt
  rw [reads _ (by omega), reads _ (by omega), streamTableWord_entry t a (by decide : 3 < 4)]
  have first := streamTableWord_entry t a (by decide : 0 < 4)
  rw [Nat.add_zero] at first
  rw [first]
  exact streamEntry_fields _

theorem words_feeders : ((List.range 8).filter (fun a => (W (4 * a)).getLsbD 0 = true ∧ (W (4 * a)).toNat / 2 % 4 = 0)).length
    = countEntries t (fun e => e.enable && e.role == .feeder) := by
  have numbers : List.range 8 = streamIds.map Fin.val := by decide
  unfold countEntries
  rw [numbers, List.filter_map, List.length_map]
  refine congrArg List.length (List.filter_congr fun a _ => ?_)
  obtain ⟨enable, role, -, -⟩ := words_entry reads a
  have feeder : roleCode (t[a]).role = 0 ↔ (t[a]).role = .feeder := by cases (t[a]).role <;> decide
  simp only [Function.comp_apply, enable, role, feeder, Bool.decide_and, Bool.decide_eq_true]
  rfl

/-- The conditions that refuse a table, as its words say them, are those of R49. -/
theorem words_refused_iff : ((∃ a, a < 8 ∧ (W (4 * a + 3)).toNat % 256 = 0)
      ∨ (∃ a b role, a < b ∧ b < 8 ∧ (W (4 * a)).getLsbD 0 = true ∧ (W (4 * b)).getLsbD 0 = true ∧ (role = 1 ∨ role = 2)
        ∧ (W (4 * a)).toNat / 2 % 4 = role ∧ (W (4 * b)).toNat / 2 % 4 = role)
      ∨ 6 < ((List.range 8).filter (fun a => (W (4 * a)).getLsbD 0 = true ∧ (W (4 * a)).toNat / 2 % 4 = 0)).length
      ∨ (∃ a b, a < b ∧ b < 8 ∧ (W (4 * a)).getLsbD 0 = true ∧ (W (4 * b)).getLsbD 0 = true
        ∧ (W (4 * a)).toNat / 256 % 256 = (W (4 * b)).toNat / 256 % 256)) ↔ ¬TableAdmitted t := by
  have code := roleCode_injective
  have voltage := role_ne_feeder_iff
  rw [words_feeders reads]
  constructor
  · rintro refused ⟨holds, roles, feeders, sources⟩
    rcases refused with ⟨a, ha, zero⟩ | ⟨a, b, role, before, hb, ena, enb, kind, ra, rb⟩ | many | ⟨a, b, before, hb, ena, enb, same⟩
    · obtain ⟨-, -, -, hold⟩ := words_entry reads ⟨a, ha⟩
      exact holds ⟨a, ha⟩ (BitVec.eq_of_toNat_eq (hold.symm.trans zero))
    · obtain ⟨ea, ka, -, -⟩ := words_entry reads ⟨a, by omega⟩
      obtain ⟨eb, kb, -, -⟩ := words_entry reads ⟨b, hb⟩
      have equal := roles ⟨a, by omega⟩ ⟨b, hb⟩ (ea.symm.trans ena) (eb.symm.trans enb) (code _ _ (by rw [← ka, ← kb]; exact ra.trans rb.symm))
        ((voltage _).mpr (by rw [← ka]; exact ra ▸ kind))
      have same := congrArg Fin.val equal
      simp only at same
      omega
    · omega
    · obtain ⟨ea, -, sa, -⟩ := words_entry reads ⟨a, by omega⟩
      obtain ⟨eb, -, sb, -⟩ := words_entry reads ⟨b, hb⟩
      have equal := sources ⟨a, by omega⟩ ⟨b, hb⟩ (ea.symm.trans ena) (eb.symm.trans enb)
        (BitVec.eq_of_toNat_eq (by rw [← sa, ← sb]; exact same))
      have same := congrArg Fin.val equal
      simp only at same
      omega
  · intro refused
    by_contra none
    simp only [not_or, not_exists, not_and] at none
    obtain ⟨holds, roles, feeders, sources⟩ := none
    refine refused ⟨fun a zero => ?_, fun a b ena enb same kind => ?_, by omega, fun a b ena enb same => ?_⟩
    · obtain ⟨-, -, -, hold⟩ := words_entry reads a
      exact holds a.val a.isLt (by rw [hold, zero]; rfl)
    · obtain ⟨ea, ka, -, -⟩ := words_entry reads a
      obtain ⟨eb, kb, -, -⟩ := words_entry reads b
      by_contra other
      rcases Nat.lt_or_gt_of_ne (fun e => other (Fin.ext e) : a.val ≠ b.val) with before | before
      · exact roles a.val b.val _ before b.isLt (ea.trans ena) (eb.trans enb) ((voltage _).mp kind) ka (kb.trans (by rw [same]))
      · exact roles b.val a.val _ before a.isLt (eb.trans enb) (ea.trans ena) ((voltage _).mp kind) (kb.trans (by rw [same])) ka
    · obtain ⟨ea, -, sa, -⟩ := words_entry reads a
      obtain ⟨eb, -, sb, -⟩ := words_entry reads b
      have equal : (W (4 * a.val)).toNat / 256 % 256 = (W (4 * b.val)).toNat / 256 % 256 := by rw [sa, sb, same]
      by_contra other
      rcases Nat.lt_or_gt_of_ne (fun e => other (Fin.ext e) : a.val ≠ b.val) with before | before
      · exact sources a.val b.val before b.isLt (ea.trans ena) (eb.trans enb) equal
      · exact sources b.val a.val before a.isLt (eb.trans enb) (ea.trans ena) equal.symm

end

/-! ### The streams that a write restarts -/

/-- The status of a stream after an accepted write, its entry before and after compared (R50). -/
def entryStatus (old new : StreamEntry) (x : StreamStatus) : StreamStatus :=
  if !old.enable && new.enable then silentStatus
  else if old.enable && !new.enable then { x with state := .disabled }
  else if old.enable && (old.source != new.source || old.role != new.role) then silentStatus
  else x

/-- The rows after an accepted write: the stream's slots emptied, or as they were. -/
def entryRows (old new : StreamEntry) (i : StreamId) (rows : List Row) : List Row :=
  if old.enable && (!new.enable || (old.source != new.source || old.role != new.role)) then emptySlots i rows else rows

theorem restartStream_merge (i : StreamId) (x : StreamStatus) (s : State) :
    (restartStream i x s).merge = { s.merge with status := s.merge.status.set i x } :=
  (updateItems_frame _ _).merge.trans (raise_quiet _ _ _).merge

theorem entryEffect_merge (before : Vector StreamEntry 8) (s : State) (i : StreamId) : (entryEffect before s i).merge
    = { s.merge with rows := entryRows before[i] s.merge.table[i] i s.merge.rows,
                     status := s.merge.status.set i (entryStatus before[i] s.merge.table[i] s.merge.status[i]) } := by
  unfold entryEffect entryStatus entryRows
  dsimp only
  cases old : (before[i]).enable <;> cases new : (s.merge.table[i]).enable
  · simp
  · simp [putStatus_merge]
  · simp [putStatus_merge]
  · cases moved : ((before[i]).source != (s.merge.table[i]).source || (before[i]).role != (s.merge.table[i]).role)
    · simp
    · simp [restartStream_merge]

/-- What the effects on the entries leave of the merge unit: the table, no row where there was none, and each stream's status once changed. -/
theorem entryEffects_merge (before : Vector StreamEntry 8) {l : List StreamId} (once : l.Nodup) (s : State) :
    (l.foldl (entryEffect before) s).merge.table = s.merge.table
      ∧ (s.merge.rows = [] → (l.foldl (entryEffect before) s).merge.rows = [])
      ∧ ∀ a : StreamId, (l.foldl (entryEffect before) s).merge.status[a]
        = if a ∈ l then entryStatus before[a] s.merge.table[a] s.merge.status[a] else s.merge.status[a] := by
  induction l generalizing s with
  | nil => exact ⟨rfl, id, fun _ => rfl⟩
  | cons i l ih =>
    obtain ⟨fresh, once⟩ := List.nodup_cons.mp once
    obtain ⟨table, rows, status⟩ := ih once (entryEffect before s i)
    rw [entryEffect_merge] at table rows status
    refine ⟨table, fun none => rows ?_, fun a => (status a).trans ?_⟩
    · simp only [entryRows, none]
      split <;> rfl
    · by_cases same : a = i
      · subst same
        simp [fresh]
      · have apart : i.val ≠ a.val := fun e => same (Fin.ext e.symm)
        simp [same, apart]

theorem applyStreamTable_table (t : Vector StreamEntry 8) (s : State) : (applyStreamTable t s).merge.table = t := by
  unfold applyStreamTable completionTest
  rw [closeCascade_table, updateFeeders, (updateItems_frame _ _).merge]
  exact (entryEffects_merge _ (by decide) _).1

/-- With no row open nothing closes, and each stream has the status that R50 gives it. -/
theorem applyStreamTable_status {t : Vector StreamEntry 8} {s : State} (empty : s.merge.rows = []) (a : StreamId) :
    (applyStreamTable t s).merge.status[a] = entryStatus s.merge.table[a] t[a] s.merge.status[a] := by
  obtain ⟨-, rows, status⟩ := entryEffects_merge s.merge.table (by decide : streamIds.Nodup) (s.setMerge { s.merge with table := t })
  have member : a ∈ streamIds := by rw [streamIds_eq]; exact List.mem_finRange a
  have updated : (updateFeeders (streamIds.foldl (entryEffect s.merge.table) (s.setMerge { s.merge with table := t }))).merge
      = (streamIds.foldl (entryEffect s.merge.table) (s.setMerge { s.merge with table := t })).merge := (updateItems_frame _ _).merge
  have rests : applyStreamTable t s = updateFeeders (streamIds.foldl (entryEffect s.merge.table) (s.setMerge { s.merge with table := t })) := by
    unfold applyStreamTable completionTest
    dsimp only
    rw [updated, rows empty]
    rfl
  rw [rests, updated, status a, if_pos member]
  rfl

theorem entryStatus_eq (old new : StreamEntry) (x : StreamStatus) : entryStatus old new x =
    if new.enable = true then
      (if old.enable = false ∨ old.source ≠ new.source ∨ old.role ≠ new.role then
        { state := .silent, filled := 0, missing := 0, last := { a := 0, b := 0, c := 0 } } else x)
    else if old.enable = true then { x with state := .disabled } else x := by
  unfold entryStatus
  cases old.enable <;> cases new.enable <;> simp [silentStatus, Phases.zero]

/-- Settles O54, by the words of the table as it would stand: R49 on its entries, and R50 on each stream. -/
theorem streamTableWrite : Obligations.StreamTableWrite := by
  unfold Obligations.StreamTableWrite
  intro w s i W refused wellFormed target words conditions
  by_cases ok : (placed i w.data).all streamWordOk = true
  · have reads : ∀ k, k < 32 → W k = streamTableWord k (streamTableAfter i w.data s.merge.table) := fun k inside =>
      (words k).trans (streamTableWord_after _ i w.data ok inside).symm
    have admitted : ¬∃ j, j < w.data.length ∧ (i + j) % 4 = 0 ∧ (w.data.getD j 0).toNat / 2 % 4 = 3 := by
      rintro ⟨j, inside, first, code⟩
      exact streamWordOk_iff.mp (placed_all.mp ok j inside) first code
    rw [or_iff_right admitted, words_refused_iff reads, ← streamTableOk_iff] at conditions
    refine ⟨fun no => ?_, fun yes => ?_⟩
    · exact ⟨_, rfl, write_answered target (if_neg fun both => conditions.mp no (Bool.and_eq_true_iff.mp both).2)⟩
    · have good : streamTableOk (streamTableAfter i w.data s.merge.table) = true := by
        by_contra bad
        exact yes (conditions.mpr bad)
      have table := applyStreamTable_table (streamTableAfter i w.data s.merge.table) s
      have entries := (streamTableOk_iff _).mp good
      refine ⟨_, _, rfl, write_answered target (if_pos (Bool.and_eq_true_iff.mpr ⟨ok, good⟩)), fun k inside => ?_, ?_, ?_, fun empty a => ?_⟩
      · change streamTableWord k (applyStreamTable (streamTableAfter i w.data s.merge.table) s).merge.table = _
        rw [table]
        exact streamTableWord_after _ i w.data ok inside
      · rw [table]
        exact entries.holds
      · rw [table]
        exact fun a b other ena enb => ⟨fun same => other (entries.sources a b ena enb same), fun same => by
          by_contra voltage
          exact other (entries.roles a b ena enb same voltage)⟩
      · rw [applyStreamTable_status empty, table, entryStatus_eq]
  · have bad : ∃ j, j < w.data.length ∧ (i + j) % 4 = 0 ∧ (w.data.getD j 0).toNat / 2 % 4 = 3 := by
      by_contra none
      exact ok (placed_all.mpr fun j inside => streamWordOk_iff.mpr fun first code => none ⟨j, inside, first, code⟩)
    exact ⟨fun _ => ⟨_, rfl, write_answered target (if_neg fun both => ok (Bool.and_eq_true_iff.mp both).1)⟩,
      fun yes => absurd (conditions.mpr (.inl bad)) yes⟩

end Sys2Proof.Machine
end

section
/-! The warm reset (R43, R69, R87, R109, R129, R156, R170, R192, R202, R207): what each block keeps and loses, and the reply. -/

namespace Sys2Proof.Machine

/-! ### The channels and their BLOCK commands -/

theorem issueGate_opens {c : GateCommand} {s : State} (up : s.ps.link = .up) (empty : s.ps.timed = []) :
    issueGate c s = s.modPort .south (fun x => { x with timed := [.gate [c]] }) := by
  have placed : offerOutcome .south .timed s = .placed := by
    simp [offerOutcome, Port.transmitReady, up, Port.queue, empty, capacity]
  unfold issueGate offer offerQuiet
  simp only [placed, empty, appendToTail, Port.setQueue, Port.queue]
  simp [State.modPort, empty]

theorem issueGate_joins {c : GateCommand} {s : State} {cs : List GateCommand} (up : s.ps.link = .up) (tail : s.ps.timed = [.gate cs])
    (room : cs.length < 6) : issueGate c s = s.modPort .south (fun x => { x with timed := [.gate (cs ++ [c])] }) := by
  have placed : offerOutcome .south .timed s = .placed := by
    simp [offerOutcome, Port.transmitReady, up, Port.queue, tail, capacity]
  unfold issueGate
  simp [placed, tail, appendToTail, room]

theorem warmResetChannel_channel (s : State) (v w : ValveId) : (warmResetChannel s v).channel w
    = if w = v then (s.channel w).warmReset else s.channel w := by
  have set : (s.setChannel v (s.channel v).warmReset).channel w = if w = v then (s.channel w).warmReset else s.channel w := by
    split
    · next same => rw [same, State.channel_setChannel]
    · next other => rw [State.channel_setChannel_ne _ _ other]
  unfold warmResetChannel
  dsimp only
  split
  · rw [issueGate_plain_channel _ rfl, set]
  · exact set

/-- t is s but for the channels and PS's TIMED queue, which is q. -/
def TimedIs (q : List Frame) (s t : State) : Prop := t = { s with ps := { s.ps with timed := q }, channels := t.channels }

theorem TimedIs.link {q : List Frame} {s t : State} (h : TimedIs q s t) : t.ps.link = s.ps.link ∧ t.ps.timed = q := by
  unfold TimedIs at h
  rw [h]
  exact ⟨rfl, rfl⟩

theorem TimedIs.trans {q q' : List Frame} {s t u : State} (h : TimedIs q s t) (k : TimedIs q' t u) : TimedIs q' s u := by
  unfold TimedIs at *
  generalize t.channels = c at h
  subst h
  exact k

/-- With PS in UP the BLOCK commands of the channels join one GATE frame (R35, R156). -/
theorem warmResetChannels_join {l : List ValveId} {cs : List GateCommand} {s : State} (up : s.ps.link = .up) (tail : s.ps.timed = [.gate cs])
    (room : cs.length + l.length ≤ 6) : TimedIs [.gate (cs ++ l.map (fun v => plainCommand v .block))] s (l.foldl warmResetChannel s) := by
  induction l generalizing s cs with
  | nil =>
    unfold TimedIs
    simp [← tail]
  | cons v l ih =>
    rw [List.length_cons] at room
    have joined : warmResetChannel s v = issueGate (plainCommand v .block) (s.setChannel v (s.channel v).warmReset) :=
      if_pos (beq_iff_eq.mpr up)
    rw [issueGate_joins (by exact up) (by exact tail) (by omega)] at joined
    have first : TimedIs [.gate (cs ++ [plainCommand v .block])] s (warmResetChannel s v) := by
      rw [joined]
      exact rfl
    have rest := ih (first.link.1.trans up) first.link.2 (by rw [List.length_append, List.length_singleton]; omega)
    rw [List.append_assoc] at rest
    exact first.trans rest

/-- What the channels' warm reset leaves of the state outside them (R156). -/
theorem warmResetChannels_timed {s : State} (empty : s.ps.timed = []) :
    TimedIs (if s.ps.link = .up then [.gate (valveIds.map (fun v => plainCommand v .block))] else []) s (valveIds.foldl warmResetChannel s) := by
  by_cases up : s.ps.link = .up
  · have opened : warmResetChannel s 0 = issueGate (plainCommand 0 .block) (s.setChannel 0 (s.channel 0).warmReset) :=
      if_pos (beq_iff_eq.mpr up)
    rw [issueGate_opens (by exact up) (by exact empty)] at opened
    have first : TimedIs [.gate [plainCommand 0 .block]] s (warmResetChannel s 0) := by
      rw [opened]
      exact rfl
    have ids : valveIds = 0 :: [1, 2, 3, 4, 5] := rfl
    have rest := warmResetChannels_join (l := [1, 2, 3, 4, 5]) (first.link.1.trans up) first.link.2 (by decide)
    rw [List.singleton_append] at rest
    rw [if_pos up, ids, List.foldl_cons, List.map_cons]
    exact first.trans rest
  · rw [if_neg up]
    refine foldl_keeps (P := TimedIs [] s) _ (fun t v h => h.trans ?_) valveIds s (by unfold TimedIs; rw [← empty])
    have silent : warmResetChannel t v = t.setChannel v (t.channel v).warmReset := if_neg (by rw [State.setChannel_ps, h.link.1]; simpa using up)
    unfold TimedIs
    rw [silent, State.setChannel_channels, ← h.link.2]
    rfl

/-! ### The blocks after a warm reset -/

theorem warmResetStreams_eq (m : Merge) {l : List StreamId} (once : l.Nodup) : l.foldl warmResetStream m
    = { m with status := (l.foldl warmResetStream m).status }
    ∧ ∀ a : StreamId, (l.foldl warmResetStream m).status[a] = if a ∈ l then (m.status[a]).warmReset (m.table[a]).enable else m.status[a] := by
  induction l generalizing m with
  | nil => exact ⟨rfl, fun _ => rfl⟩
  | cons i l ih =>
    obtain ⟨fresh, once⟩ := List.nodup_cons.mp once
    obtain ⟨rest, status⟩ := ih (warmResetStream m i) once
    refine ⟨by rw [List.foldl_cons, rest]; rfl, fun a => (status a).trans ?_⟩
    unfold warmResetStream
    by_cases same : a = i
    · subst same
      simp [fresh]
    · have apart : i.val ≠ a.val := fun e => same (Fin.ext e.symm)
      simp [same, apart]

theorem warmResetNotices_other (l : List SourceId) (s : State) :
    l.foldl warmResetNotice s = { s with notices := (l.foldl warmResetNotice s).notices } :=
  foldl_only (only := fun s t => t = { s with notices := t.notices }) _ (fun _ => rfl)
    (fun r t n h => by unfold warmResetNotice; rw [h]; rfl) l s

theorem warmResetNotices_channel (l : List SourceId) (s : State) (v : ValveId) : (l.foldl warmResetNotice s).channel v = s.channel v :=
  foldl_keeps (P := fun t => t.channel v = s.channel v) warmResetNotice (fun _ _ h => h) l s rfl

/-- No notice source pends after a warm reset (R207). -/
theorem warmResetNotices_pending (s : State) (n : SourceId) : ((sourceIds.foldl warmResetNotice s).notices[n]).pending = false := by
  have member : n ∈ sourceIds := by revert n; decide
  refine foldl_reaches (Q := fun t => (t.notices[n]).pending = false) warmResetNotice member (fun t => ?_) (fun t m h => ?_) s
  · unfold warmResetNotice
    rw [setNotice_notices_self]
    rfl
  · unfold warmResetNotice
    by_cases same : n = m
    · subst same
      rw [setNotice_notices_self]
      rfl
    · rw [setNotice_notices_ne _ _ same]
      exact h

/-- a is s after stage 1 of a warm reset, block by block (R202). -/
structure WarmResetDone (s a : State) : Prop where
  blocks : a = { s with
    pn := s.pn.warmReset,
    ps := { s.ps.warmReset with timed := if s.ps.link = .up then [.gate (valveIds.map (fun v => plainCommand v .block))] else [] },
    merge := s.merge.warmReset s.pace.count, tracker := s.tracker.setFree, engine := s.engine.warmReset, tables := s.tables.warmReset,
    channels := a.channels, sup := s.sup.warmReset (s.merge.warmReset s.pace.count).feedersMet, notices := a.notices }
  channels : ∀ v : ValveId, a.channel v = (s.channel v).warmReset
  notices : ∀ n : SourceId, (a.notices[n]).pending = false

theorem warmResetAll_done (s : State) : WarmResetDone s (warmResetAll s) := by
  have channels := warmResetChannels_timed (s := warmResetBlocks s) rfl
  have pointwise := foldl_channel _ Channel.warmReset warmResetChannel_channel (by decide : valveIds.Nodup) (warmResetBlocks s)
  unfold warmResetAll
  unfold TimedIs at channels
  generalize valveIds.foldl warmResetChannel (warmResetBlocks s) = t at channels pointwise ⊢
  dsimp only
  refine ⟨?_, fun v => ?_, warmResetNotices_pending _⟩
  · rw [warmResetNotices_other]
    generalize List.foldl warmResetNotice _ sourceIds = n
    generalize t.channels = c at channels
    subst channels
    rfl
  · rw [warmResetNotices_channel, State.setSup_channel, pointwise, if_pos (valveIds_mem v)]
    rfl

/-! ### The end of the service -/

theorem countDiscarded_eq (q : List Request) (s : State) : countDiscarded q s = { s with counters := (countDiscarded q s).counters } :=
  foldl_only (only := fun s t => t = { s with counters := t.counters }) _ (fun _ => rfl)
    (fun r t _ h => by rw [h]; rfl) q s

theorem countDiscarded_counter (q : List Request) (s : State) (c : Counter) : (countDiscarded q s).counter c
    = if c = .discardedByReset then s.counter c + BitVec.ofNat 32 q.length else s.counter c := by
  induction q generalizing s with
  | nil => simp [countDiscarded]
  | cons r q ih =>
    refine (ih (bump .discardedByReset s)).trans ?_
    by_cases here : c = .discardedByReset
    · subst here
      rw [if_pos rfl, if_pos rfl, counter_bump_self, List.length_cons, BitVec.add_assoc]
      congr 1
      rw [Nat.add_comm, BitVec.ofNat_add]
      rfl
    · rw [if_neg here, if_neg here, counter_bump_of_ne _ (Ne.symm here)]

theorem raise_notices_ne {n m : SourceId} (d : Word) (s : State) (other : m ≠ n) : (raise n d s).notices[m] = s.notices[m] := by
  unfold raise
  dsimp only
  split
  · split
    · exact setNotice_notices_ne _ _ other
    · exact sendNotice_notices_ne _ _ _ other
  · rfl

theorem offer_notices_ne (p : PortId) (c : TxClass) (f : Frame) (s : State) {m : SourceId} (other : m ≠ srcQueueDrop) :
    (offer p c f s).notices[m] = s.notices[m] := by
  have quiet : (offerQuiet p c f s).notices[m] = s.notices[m] := by rw [offerQuiet_notices]
  unfold offer
  split
  · unfold raiseIf
    split
    · rw [raise_notices_ne _ _ other, quiet]
    · exact quiet
  · exact quiet

theorem Tables.warmReset_commit (t : Tables) (id : TableId) : t.warmReset.commit id = (t.commit id).warmReset := by cases id <;> rfl

theorem Commit.warmReset_spec (c : Commit) : c.warmReset.state = .idle ∧ (c.state ≠ .idle → c.warmReset.result = .cancelled)
    ∧ (c.state = .idle → c.warmReset = c) := by
  unfold Commit.warmReset
  split
  · next idle => exact ⟨idle, fun busy => absurd idle busy, fun _ => rfl⟩
  · next busy => exact ⟨rfl, fun _ => rfl, fun idle => absurd idle busy⟩

/-- The state a replied to, with the request queue emptied and its requests counted (R202). -/
def warmResetEnd (r : Request) (a : State) : State :=
  let w := sendReply r .ok [] (bump .requestsServed a)
  countDiscarded (behind r w.agent.queue) (w.setAgent { w.agent with queue := [] })

theorem serveWarmReset_eq (r : Request) (s : State) : serveWarmReset r s = warmResetEnd r (warmResetAll s) := rfl

/-- What the end of the service leaves of a: w is a with the reply and its notices. -/
theorem warmResetEnd_spec (r : Request) (a : State) : ∃ w : State, QuietFrame (bump .requestsServed a) w
    ∧ ReplyGiven r .ok [] (bump .requestsServed a) w ∧ (∀ n : SourceId, n ≠ srcQueueDrop → w.notices[n] = a.notices[n])
    ∧ warmResetEnd r a = { w with agent := { a.agent with queue := [] }, counters := (warmResetEnd r a).counters }
    ∧ ∀ c, (warmResetEnd r a).counter c = if c = .discardedByReset then w.counter c + BitVec.ofNat 32 (behind r a.agent.queue).length
      else w.counter c := by
  have quiet : QuietFrame (bump .requestsServed a) (sendReply r .ok [] (bump .requestsServed a)) := offer_access_quiet _ _ _
  have agent : (sendReply r .ok [] (bump .requestsServed a)).agent = a.agent := quiet.agent
  refine ⟨_, quiet, sendReply_given _ _ _ _, fun n other => offer_notices_ne _ _ _ _ other, ?_, fun c => ?_⟩
  · unfold warmResetEnd
    dsimp only
    rw [countDiscarded_eq, agent]
    rfl
  · unfold warmResetEnd
    dsimp only
    rw [countDiscarded_counter, agent]
    rfl

/-- A quiet operation changes of a port its ACCESS queue only. -/
theorem QuietFrame.port_eq {s t : State} (h : QuietFrame s t) (p : PortId) : t.port p = { s.port p with access := (t.port p).access } := by
  have rest := h.toSupFrame.port p
  have timed : (t.port p).timed = (s.port p).timed := by
    cases p with
    | north =>
      have same := congrArg Port.timed h.pn
      exact same
    | south => exact h.timed
  generalize t.port p = y at rest timed ⊢
  obtain ⟨⟩ := y
  simp only [Port.mk.injEq] at rest timed ⊢
  simp [rest, timed]

theorem State.port_replaced (s : State) (a : Agent) (cs : Vector Word 297) (p : PortId) :
    State.port { s with agent := a, counters := cs } p = s.port p := by cases p <;> rfl

/-- Settles O50, by the blocks after stage 1, the reply, and the discard of the queue. -/
theorem warmReset : Obligations.WarmReset := by
  unfold Obligations.WarmReset
  intro c s
  obtain ⟨r, hr⟩ : ∃ r, r = commandRequest 0x09#32 c := ⟨_, rfl⟩
  have port : r.port = c.port := by rw [hr]; rfl
  have answer : Frame.reply r.source r.tag .ok [] = Frame.reply c.source c.tag .ok [] := by rw [hr]; rfl
  refine ⟨serveWarmReset r s, by rw [hr]; rfl, ?_⟩
  rw [← hr, serveWarmReset_eq]
  obtain ⟨blocks, channels, notices⟩ := warmResetAll_done s
  generalize warmResetAll s = a at blocks channels notices ⊢
  obtain ⟨w, quiet, given, others, ended, counters⟩ := warmResetEnd_spec r a
  generalize warmResetEnd r a = t at ended counters ⊢
  have still (p : PortId) : (a.port p).transmitReady = (s.port p).transmitReady ∧ (a.port p).access = (s.port p).access := by
    rw [blocks]
    cases p <;> exact ⟨rfl, rfl⟩
  have reply (ready : (s.port c.port).transmitReady = true) (room : (s.port c.port).access.length < 8) :
      (w.port c.port).access = (s.port c.port).access ++ [.reply c.source c.tag .ok []] := by
    unfold ReplyGiven at given
    rw [port, bump_port, (still _).1, (still _).2, if_pos ready, if_pos room, answer] at given
    exact given
  generalize t.counters = k at ended
  generalize a.channels = cs at blocks
  generalize a.notices = ns at blocks
  subst blocks ended
  have merge : w.merge = s.merge.warmReset s.pace.count := quiet.merge
  have tables : w.tables = s.tables.warmReset := quiet.tables
  obtain ⟨streams, status⟩ := warmResetStreams_eq s.merge (by decide : streamIds.Nodup)
  have ports (p : PortId) : w.port p = { (s.port p).warmReset with timed := (w.port p).timed, access := (w.port p).access } := by
    have only := quiet.port_eq p
    cases p <;> exact only.trans (by rw [only]; rfl)
  have timed : w.ps.timed = if s.ps.link = .up then [.gate (valveIds.map (fun v => plainCommand v .block))] else [] := quiet.timed
  have empty : w.pn.timed = [] := congrArg Port.timed quiet.pn
  refine ⟨rfl, quiet.pending, quiet.nodeId, quiet.fwd, quiet.pace, ?_, fun v => (quiet.channel v).trans (channels v), fun p => ?_,
    fun _ => empty, fun down => timed.trans (if_neg down), fun up => timed.trans (if_pos up), ?_, ?_, ?_, ?_, ?_, ?_, fun i => ?_,
    quiet.tracker, quiet.engine, fun id => ?_, ?_, ?_, ?_, ?_, fun n other => ?_, ?_, ?_, fun ready room => ?_⟩
  · rw [show State.sup _ = w.sup from rfl, quiet.sup]
    change s.sup.warmReset _ = _
    unfold Supervisor.warmReset
    rw [show Merge.feedersMet _ = (s.merge.warmReset s.pace.count).feedersMet from congrArg Merge.feedersMet merge]
    cases s.sup.state <;> rfl
  · rw [State.port_replaced, ports p]
    exact ⟨rfl, rfl, rfl, rfl, rfl, rfl, rfl, rfl, rfl, rfl, rfl⟩
  · exact congrArg Merge.rows merge
  · exact congrArg Merge.history merge
  · exact congrArg Merge.lastClosed merge
  · exact congrArg Merge.selection merge
  · exact congrArg Merge.mainRun merge
  · have table := congrArg Merge.table streams
    have same := congrArg Merge.table merge
    exact same.trans table
  · have member : i ∈ streamIds := by rw [streamIds_eq]; exact List.mem_finRange i
    exact (congrArg (fun m : Merge => m.status[i]) merge).trans ((status i).trans (if_pos member))
  · change (w.tables.commit id).state = .idle ∧ (_ → (w.tables.commit id).result = .cancelled) ∧ (_ → w.tables.commit id = _)
    rw [tables, Tables.warmReset_commit]
    exact Commit.warmReset_spec _
  · have same := congrArg Tables.angleActive tables
    exact same
  · have same := congrArg Tables.refActive tables
    exact same
  · have same := congrArg Tables.staged tables
    exact same
  · have same := congrArg (fun x : Tables => if x.paramsValid then x.active else defaultParams) tables
    exact same
  · exact (congrArg NoticeEntry.pending (others n other)).trans (notices n)
  · rw [counters, if_neg (by decide), quiet.notes _ rfl, counter_bump_self]
    rfl
  · rw [counters, if_pos rfl, quiet.notes _ rfl, counter_bump_of_ne _ (by decide)]
    refine congrArg₂ (· + ·) rfl (congrArg (BitVec.ofNat 32) ?_)
    change (behind r s.agent.queue).length = _
    unfold behind
    split
    · exact List.length_tail
    · rfl
  · rw [State.port_replaced]
    exact reply ready room

end Sys2Proof.Machine
end

section
/-! The port under line events (R1 to R21): what a cut frame, an errored frame, a change of state and a received run leave of it, field by
field, and of the counters. -/

namespace Sys2Proof.Machine

/-! ### DEGRADED and errored frames -/

theorem setDegraded_port (p : PortId) (v : Bool) (s : State) :
    (setDegraded p v s).port p = { s.port p with degraded := v, access := ((setDegraded p v s).port p).access } := by
  unfold setDegraded
  split
  · next same => rw [← beq_iff_eq.mp same]
  · have quiet := (raise_quiet (srcPortDegraded p) (degradedDetail v (s.port p).windowErrors)
      (s.modPort p (fun x => { x with degraded := v }))).port_eq p
    rw [State.modPort_port] at quiet
    exact quiet

theorem setDegraded_counter (p : PortId) (v : Bool) (s : State) {c : Counter} (h : c.byNotices = false) :
    (setDegraded p v s).counter c = s.counter c := by
  unfold setDegraded
  split
  · rfl
  · rw [(raise_quiet _ _ _).notes c h, State.modPort_counter]

/-- An errored frame counted in the window of its port (R20). -/
theorem countErrored_port (p : PortId) (s : State) : (countErrored p s).port p = { s.port p with
    windowErrors := (s.port p).windowErrors + 1,
    cleanRun := ((countErrored p s).port p).cleanRun,
    degraded := (s.port p).degraded || decide ((s.port p).hiErrThreshold ≤ (s.port p).windowErrors + 1),
    access := ((countErrored p s).port p).access } := by
  unfold countErrored
  dsimp only
  rw [State.modPort_port]
  dsimp only
  by_cases exceeds : (s.port p).hiErrThreshold ≤ (s.port p).windowErrors + 1
  · rw [if_pos exceeds, setDegraded_port, State.modPort_port, State.modPort_port, decide_eq_true exceeds, Bool.or_true]
  · rw [if_neg exceeds, State.modPort_port, decide_eq_false exceeds, Bool.or_false]

theorem countErrored_counter (p : PortId) (s : State) {c : Counter} (h : c.byNotices = false) : (countErrored p s).counter c = s.counter c := by
  unfold countErrored
  dsimp only
  split
  · rw [setDegraded_counter _ _ _ h, State.modPort_counter, State.modPort_counter]
  · rw [State.modPort_counter]

/-! ### Cut frames -/

/-- The cause that counts a cut frame: TRUNCATED where it begins with A7, else DELIMITER (R6, R8). -/
def cutCause (r : RxFrame) : Fin 5 := if byteAt r.bytes 0 = 0xA7#8 ∧ 0 < r.count then 1 else 0

theorem cutArrival_none {p : PortId} {s : State} (none_ : (s.port p).rx = none) : cutArrival p s = s := by
  unfold cutArrival
  rw [none_]

theorem cutArrival_some {p : PortId} {s : State} {r : RxFrame} (some_ : (s.port p).rx = some r) :
    cutArrival p s = countErrored p (bump (.error p (cutCause r)) (s.modPort p (fun x => { x with rx := none }))) := by
  unfold cutArrival cutCause
  rw [some_]
  simp

/-- A cut takes the frame out of reception, and changes besides it what an errored frame changes (R5, R20). -/
theorem cutArrival_port (p : PortId) (s : State) : (cutArrival p s).port p = { s.port p with
    rx := none, windowErrors := ((cutArrival p s).port p).windowErrors, cleanRun := ((cutArrival p s).port p).cleanRun,
    degraded := ((cutArrival p s).port p).degraded, access := ((cutArrival p s).port p).access } := by
  cases h : (s.port p).rx with
  | none =>
    rw [cutArrival_none h, ← h]
  | some r =>
    rw [cutArrival_some h, countErrored_port, bump_port, State.modPort_port]

@[simp] theorem cutArrival_rx (p : PortId) (s : State) : ((cutArrival p s).port p).rx = none := by rw [cutArrival_port]
@[simp] theorem cutArrival_signal (p : PortId) (s : State) : ((cutArrival p s).port p).signal = (s.port p).signal := by rw [cutArrival_port]
@[simp] theorem cutArrival_invalidRun (p : PortId) (s : State) : ((cutArrival p s).port p).invalidRun = (s.port p).invalidRun := by
  rw [cutArrival_port]
@[simp] theorem cutArrival_validRun (p : PortId) (s : State) : ((cutArrival p s).port p).validRun = (s.port p).validRun := by
  rw [cutArrival_port]
@[simp] theorem cutArrival_attempts (p : PortId) (s : State) : ((cutArrival p s).port p).attempts = (s.port p).attempts := by
  rw [cutArrival_port]
@[simp] theorem cutArrival_hiErrThreshold (p : PortId) (s : State) :
    ((cutArrival p s).port p).hiErrThreshold = (s.port p).hiErrThreshold := by rw [cutArrival_port]
@[simp] theorem cutArrival_transmitReady (p : PortId) (s : State) :
    ((cutArrival p s).port p).transmitReady = (s.port p).transmitReady := by
  rw [cutArrival_port]
  rfl

/-- A cut counts the frame it cuts by its cause, and no other error (R6). -/
theorem cutArrival_counter (p : PortId) (s : State) {c : Counter} (h : c.byNotices = false) : (cutArrival p s).counter c
    = if ∃ r, (s.port p).rx = some r ∧ c = .error p (cutCause r) then s.counter c + 1 else s.counter c := by
  cases rx : (s.port p).rx with
  | none => rw [cutArrival_none rx, if_neg (by simp)]
  | some r =>
    rw [cutArrival_some rx, countErrored_counter _ _ h]
    by_cases this : c = .error p (cutCause r)
    · rw [if_pos ⟨r, rfl, this⟩, this, counter_bump_self, State.modPort_counter]
    · rw [if_neg (by rintro ⟨r', same, cause⟩; cases same; exact this cause), counter_bump_of_ne _ (Ne.symm this), State.modPort_counter]

theorem cutArrival_counter_other (p : PortId) (s : State) {c : Counter} (h : c.byNotices = false) (other : ∀ k, c ≠ .error p k) :
    (cutArrival p s).counter c = s.counter c := by
  rw [cutArrival_counter p s h, if_neg (by rintro ⟨r, -, cause⟩; exact other _ cause)]

/-- What a cut frame leaves counted, seen from a later state: its error counters are those the cut left, and where the port received frames
its window count and DEGRADED are too, the latter while the port stays in UP or FAR_FAULT. -/
theorem cutCounted_of {p : PortId} {x u : State} (working : (x.port p).rx ≠ none → (x.port p).link.receives = true)
    (errors : ∀ k, u.counter (.error p k) = (cutArrival p x).counter (.error p k))
    (window : (x.port p).link.receives = true → (u.port p).windowErrors = ((cutArrival p x).port p).windowErrors)
    (degraded : (x.port p).link.receives = true →
      (u.port p).degraded = ((u.port p).link.receives && ((cutArrival p x).port p).degraded)) : CutCounted p x u := by
  unfold CutCounted
  split
  · next none_ => exact fun k => by rw [errors, cutArrival_none none_]
  · next r some_ =>
    have receives := working (by rw [some_]; exact Option.some_ne_none r)
    have cut := cutArrival_some some_
    rintro cause rfl
    refine ⟨?_, fun k other => ?_, ?_, ?_⟩
    · rw [errors, cutArrival_counter _ _ rfl, if_pos ⟨r, some_, rfl⟩]
    · rw [errors, cutArrival_counter _ _ rfl, if_neg]
      rintro ⟨r', same, cause⟩
      obtain rfl : r = r' := Option.some.inj (some_.symm.trans same)
      exact other (by injection cause)
    · rw [window receives, cut, countErrored_port, bump_port, State.modPort_port]
    · rw [degraded receives, cut, countErrored_port, bump_port, State.modPort_port]

/-! ### Received runs -/

theorem receiveSymbols_port (p : PortId) (run : LineRun) (s : State) :
    (receiveSymbols p run s).port p = receiveRun run ((if run.start then cutArrival p s else s).port p) := by
  unfold receiveSymbols
  rw [State.modPort_port]

theorem receiveSymbols_counter (p : PortId) (run : LineRun) (s : State) (c : Counter) :
    (receiveSymbols p run s).counter c = (if run.start then cutArrival p s else s).counter c := by
  unfold receiveSymbols
  rw [State.modPort_counter]

/-- What receiving a run changes of a port (R1, R5, R20). -/
theorem receiveSymbols_lineKept (p : PortId) (run : LineRun) (s : State) : (s.port p).lineKept ((receiveSymbols p run s).port p) := by
  unfold Port.lineKept
  rw [receiveSymbols_port]
  split
  · rw [cutArrival_port]
    rfl
  · rfl

@[simp] theorem receiveSymbols_linkState (p : PortId) (run : LineRun) (s : State) :
    ((receiveSymbols p run s).port p).link = (s.port p).link := by rw [receiveSymbols_lineKept p run s]
@[simp] theorem receiveSymbols_signal (p : PortId) (run : LineRun) (s : State) :
    ((receiveSymbols p run s).port p).signal = (s.port p).signal := by rw [receiveSymbols_lineKept p run s]
@[simp] theorem receiveSymbols_validRun (p : PortId) (run : LineRun) (s : State) :
    ((receiveSymbols p run s).port p).validRun = (s.port p).validRun := by rw [receiveSymbols_lineKept p run s]
@[simp] theorem receiveSymbols_attempts (p : PortId) (run : LineRun) (s : State) :
    ((receiveSymbols p run s).port p).attempts = (s.port p).attempts := by rw [receiveSymbols_lineKept p run s]
theorem receiveSymbols_config (p : PortId) (run : LineRun) (s : State) : (s.port p).configKept ((receiveSymbols p run s).port p) := by
  unfold Port.configKept
  rw [receiveSymbols_lineKept p run s]
  exact ⟨rfl, rfl, rfl, rfl⟩

theorem receiveSymbols_invalidRun (p : PortId) (run : LineRun) (s : State) : ((receiveSymbols p run s).port p).invalidRun
    = if run.start || !run.data.isEmpty then 0 else (s.port p).invalidRun := by
  have kept : ((if run.start then cutArrival p s else s).port p).invalidRun = (s.port p).invalidRun := by
    split
    · exact cutArrival_invalidRun p s
    · rfl
  rw [receiveSymbols_port, receiveRun, kept]

/-- A frame stands in reception in UP and FAR_FAULT only, once a run is received (R5). -/
theorem receiveSymbols_working (p : PortId) (run : LineRun) (s : State) (rx : ((receiveSymbols p run s).port p).rx ≠ none) :
    ((receiveSymbols p run s).port p).link.receives = true := by
  rw [receiveSymbols_port] at rx ⊢
  unfold receiveRun at rx ⊢
  dsimp only at rx ⊢
  by_contra deaf
  rw [if_neg deaf] at rx
  exact rx rfl

/-- Receiving a run counts the frame that its SF cuts, and nothing else of its own (R6). -/
theorem receiveSymbols_counter_other (p : PortId) (run : LineRun) (s : State) {c : Counter} (h : c.byNotices = false)
    (other : ∀ k, c ≠ .error p k) : (receiveSymbols p run s).counter c = s.counter c := by
  rw [receiveSymbols_counter]
  split
  · exact cutArrival_counter_other p s h other
  · rfl

/-! ### Changes of state -/

theorem flushIfLost_counter (b : Bool) (p : PortId) (s : State) {c : Counter} (h : c.byGates = false) :
    (flushIfLost b p s).counter c = s.counter c := by
  unfold flushIfLost
  split
  · rw [(flush_gate p s).gates c h, State.modPort_counter]
  · rfl

/-- A change of state counts drops, gate commands, notices and the supervisor's moves, and nothing else. -/
theorem changeLink_counter (p : PortId) (new : LinkState) (s : State) {c : Counter} (h : c.bySupervisor = false) :
    (changeLink p new s).counter c = s.counter c := by
  have gates : c.byGates = false := by
    cases e : c.byGates with
    | false => rfl
    | true => rw [Counter.bySupervisor_of_byGates e] at h; cases h
  have notes : c.byNotices = false := by
    cases e : c.byNotices with
    | false => rfl
    | true => rw [Counter.byGates_of_byNotices e] at gates; cases gates
  have raised (b : Bool) (n : SourceId) (d : Word) : (raiseIf b n d (flushIfLost (s.port p).transmitReady p
      (s.modPort p (fun x => x.enter new)))).counter c = s.counter c := by
    rw [(raiseIf_quiet _ _ _ _).notes c notes, flushIfLost_counter _ _ _ gates, State.modPort_counter]
  have left (t : State) : (leaveWorking p t).counter c = t.counter c := by
    unfold leaveWorking
    rw [State.modPort_counter, setDegraded_counter _ _ _ notes]
  unfold changeLink
  dsimp only
  split
  · rw [(psChanged_frame _ _ _).counts c h]
    split
    · rw [left, raised]
    · rw [raised]
  · split
    · rw [left, raised]
    · rw [raised]

theorem changeLink_degraded (p : PortId) (new : LinkState) (s : State) : ((changeLink p new s).port p).degraded =
    if (s.port p).link.receives && !new.receives then false else (s.port p).degraded := by
  have left (t : State) : ((leaveWorking p t).port p).degraded = false := by
    unfold leaveWorking
    rw [State.modPort_port, setDegraded_port]
  have told (b : Bool) (n : SourceId) (d : Word) : ((raiseIf b n d (flushIfLost (s.port p).transmitReady p
      (s.modPort p (fun x => x.enter new)))).port p).degraded = (s.port p).degraded := by
    rw [(raiseIf_quiet _ _ _ _).toSupFrame.degraded, flushIfLost_degraded, State.modPort_port]
    rfl
  unfold changeLink
  dsimp only
  by_cases leaves : ((s.port p).link.receives && !new.receives) = true
  · rw [if_pos leaves]
    split
    · rw [(psChanged_frame _ _ _).degraded, left]
    · rw [left]
  · rw [if_neg leaves]
    split
    · rw [(psChanged_frame _ _ _).degraded, told]
    · rw [told]

theorem changeLink_config (p : PortId) (new : LinkState) (s : State) : (s.port p).configKept ((changeLink p new s).port p) :=
  ⟨changeLink_oneWay .., changeLink_hiErrThreshold .., changeLink_accessPriority .., changeLink_lastPaceSent ..⟩

theorem Port.configKept.refl (x : Port) : x.configKept x := ⟨rfl, rfl, rfl, rfl⟩

theorem Port.configKept.trans {x y z : Port} (h : x.configKept y) (k : y.configKept z) : x.configKept z :=
  ⟨k.1.trans h.1, k.2.1.trans h.2.1, k.2.2.1.trans h.2.2.1, k.2.2.2.trans h.2.2.2⟩

theorem cutArrival_config (p : PortId) (s : State) : (s.port p).configKept ((cutArrival p s).port p) := by
  unfold Port.configKept
  rw [cutArrival_port]
  exact ⟨rfl, rfl, rfl, rfl⟩

/-- A move to SEEKING from DOWN, with signal present (R11). -/
theorem applyR11_port (p : PortId) (s : State) : (applyR11 p s).port p
    = if (s.port p).link = .down ∧ (s.port p).signal = true then { (changeLink p .seeking s).port p with validRun := 0 } else s.port p := by
  unfold applyR11 seekFromDown
  by_cases seeks : (s.port p).link = .down ∧ (s.port p).signal = true
  · rw [if_pos seeks, if_pos (by simpa using seeks), bump_port, State.modPort_port]
  · rw [if_neg seeks, if_neg (by simpa using seeks)]

theorem applyR11_counter (p : PortId) (s : State) {c : Counter} (h : c.bySupervisor = false) : (applyR11 p s).counter c
    = if (s.port p).link = .down ∧ (s.port p).signal = true ∧ c = .trainingAttempts p then s.counter c + 1 else s.counter c := by
  unfold applyR11 seekFromDown
  by_cases seeks : (s.port p).link = .down ∧ (s.port p).signal = true
  · rw [if_pos (by simpa using seeks)]
    by_cases this : c = .trainingAttempts p
    · rw [if_pos ⟨seeks.1, seeks.2, this⟩, this, counter_bump_self, State.modPort_counter, changeLink_counter _ _ _ rfl]
    · rw [if_neg (fun all => this all.2.2), counter_bump_of_ne _ (Ne.symm this), State.modPort_counter, changeLink_counter _ _ _ h]
  · rw [if_neg (by simpa using seeks), if_neg (fun all => seeks ⟨all.1, all.2.1⟩)]

theorem applyR11_config (p : PortId) (s : State) : (s.port p).configKept ((applyR11 p s).port p) := by
  rw [applyR11_port]
  split
  · exact changeLink_config p .seeking s
  · exact .refl _

/-- The link state after a move to DOWN: SEEKING with signal present (R11). -/
theorem goDown_linkState (p : PortId) (s : State) : ((goDown p s).port p).link = if (s.port p).signal = true then .seeking else .down := by
  unfold goDown
  rw [applyR11_port, changeLink_linkState, changeLink_signal]
  by_cases signal : (s.port p).signal = true
  · rw [if_pos ⟨rfl, signal⟩, if_pos signal]
    exact changeLink_linkState ..
  · rw [if_neg (fun both => signal both.2), if_neg signal, changeLink_linkState]

theorem goDown_silent {p : PortId} {s : State} (silent : (s.port p).signal = false) : goDown p s = changeLink p .down s := by
  unfold goDown applyR11
  rw [changeLink_signal, silent, Bool.and_false]
  exact if_neg (by decide)

theorem goDown_config (p : PortId) (s : State) : (s.port p).configKept ((goDown p s).port p) :=
  (changeLink_config p .down s).trans (applyR11_config p _)

theorem goDown_attempts (p : PortId) (s : State) : ((goDown p s).port p).attempts = (s.port p).attempts := by
  unfold goDown
  rw [applyR11_port]
  split <;> simp

/-- The timers after a move to DOWN: the seek timer where it goes on to SEEKING (R10, R11). -/
theorem goDown_timers (p : PortId) (s : State) : ((goDown p s).port p).seekTimer = (if (s.port p).signal = true then some 50000 else none)
    ∧ ((goDown p s).port p).alignTimer = none ∧ ((goDown p s).port p).holdoffTimer = none := by
  unfold goDown
  rw [applyR11_port, changeLink_linkState, changeLink_signal]
  by_cases signal : (s.port p).signal = true
  · rw [if_pos ⟨rfl, signal⟩, if_pos signal]
    simp [seekClocks]
  · rw [if_neg (fun both => signal both.2), if_neg signal]
    simp

theorem goDown_counter (p : PortId) (s : State) {c : Counter} (h : c.bySupervisor = false) : (goDown p s).counter c
    = if (s.port p).signal = true ∧ c = .trainingAttempts p then s.counter c + 1 else s.counter c := by
  unfold goDown
  rw [applyR11_counter _ _ h, changeLink_linkState, changeLink_signal, changeLink_counter _ _ _ h]
  exact if_congr (and_iff_right rfl) rfl rfl

end Sys2Proof.Machine
end

section
/-! The line events at a port (R1 to R6, R11 to R16, R20): signal, alignment, marks, invalid symbols, cut frames and timers. -/

namespace Sys2Proof.Machine

/-! ### Signal -/

/-- Settles O6, by R11 in DOWN. -/
theorem signalPresentStartsSeeking : Obligations.SignalPresentStartsSeeking := by
  unfold Obligations.SignalPresentStartsSeeking
  intro p s
  have port := applyR11_port p (s.modPort p (fun x => { x with signal := true }))
  rw [State.modPort_port] at port
  refine ⟨_, rfl, findSignal_link p s, ?_, ?_, ?_, fun down => ?_, fun other => ?_⟩
  · have config := applyR11_config p (s.modPort p (fun x => { x with signal := true }))
    rw [State.modPort_port] at config
    exact config
  · unfold findSignal
    rw [port]
    split <;> simp
  · unfold findSignal
    rw [port]
    split <;> simp
  · have counted := applyR11_counter p (s.modPort p (fun x => { x with signal := true })) (c := .trainingAttempts p) rfl
    rw [State.modPort_port, State.modPort_counter, if_pos ⟨down, rfl, rfl⟩] at counted
    rw [if_pos ⟨down, rfl⟩] at port
    refine ⟨?_, ?_, ?_, counted⟩
    · exact (congrArg Port.link port).trans (changeLink_linkState ..)
    · exact (congrArg Port.seekTimer port).trans (changeLink_seekTimer ..)
    · exact congrArg Port.validRun port
  · exact if_neg (by simpa using other)

/-- A training attempt that fails at 8 enters HOLDOFF, and DOWN before (R12, R13). -/
theorem failAttempt_eq (p : PortId) (s : State) : failAttempt p s = if 8 ≤ (s.port p).attempts + 1
    then changeLink p .holdoff (s.modPort p (fun x => { x with attempts := x.attempts + 1 }))
    else goDown p (s.modPort p (fun x => { x with attempts := x.attempts + 1 })) := by
  unfold failAttempt
  dsimp only
  rw [State.modPort_port]

theorem failAttempt_config (p : PortId) (s : State) : (s.port p).configKept ((failAttempt p s).port p) := by
  have raised : (s.port p).configKept ((s.modPort p (fun x => { x with attempts := x.attempts + 1 })).port p) := by
    rw [State.modPort_port]
    exact ⟨rfl, rfl, rfl, rfl⟩
  rw [failAttempt_eq]
  split
  · exact raised.trans (changeLink_config ..)
  · exact raised.trans (goDown_config ..)

theorem failAttempt_failed (p : PortId) (s : State) : FailedAttempt p s (failAttempt p s) := by
  have frame := failAttempt_link p s
  have config := failAttempt_config p s
  rw [failAttempt_eq] at frame config ⊢
  by_cases eighth : 8 ≤ (s.port p).attempts + 1
  · rw [if_pos eighth] at frame config ⊢
    refine ⟨frame, config, ?_, ?_, ?_, ?_, ?_, ?_⟩
    · simp
    · rw [if_pos eighth, changeLink_linkState]
    · simp [holdoffClocks]
    · simp
    · simp
    · rw [changeLink_linkState, changeLink_counter _ _ _ rfl, State.modPort_counter]
      rfl
  · rw [if_neg eighth] at frame config ⊢
    have timers := goDown_timers p (s.modPort p (fun x => { x with attempts := x.attempts + 1 }))
    have link := goDown_linkState p (s.modPort p (fun x => { x with attempts := x.attempts + 1 }))
    have counted := goDown_counter p (s.modPort p (fun x => { x with attempts := x.attempts + 1 })) (c := .trainingAttempts p) rfl
    have attempts := goDown_attempts p (s.modPort p (fun x => { x with attempts := x.attempts + 1 }))
    simp only [State.modPort_port, State.modPort_counter] at timers link counted attempts
    refine ⟨frame, config, attempts, ?_, ?_, ?_, timers.2.1, ?_⟩
    · rw [if_neg eighth, link]
    · rw [timers.2.2, link]
      split <;> rfl
    · rw [timers.1, link]
      split <;> rfl
    · rw [counted, link]
      split <;> simp_all

/-- A failed attempt counts drops, gate commands, notices and the supervisor's moves, and the training attempt of a restart with signal. -/
theorem failAttempt_counter {p : PortId} {s : State} (silent : (s.port p).signal = false) {c : Counter} (h : c.bySupervisor = false) :
    (failAttempt p s).counter c = s.counter c := by
  rw [failAttempt_eq]
  split
  · rw [changeLink_counter _ _ _ h, State.modPort_counter]
  · rw [goDown_counter _ _ h, State.modPort_port, if_neg (by simp [silent]), State.modPort_counter]

/-- Settles O19, by the timer that runs. -/
theorem trainingTimersExpire : Obligations.TrainingTimersExpire := by
  unfold Obligations.TrainingTimersExpire
  intro p s
  refine ⟨fun runs => ⟨failAttempt p s, congrArg Host.Outcome.next (if_pos runs), failAttempt_failed p s⟩,
    fun runs => ⟨failAttempt p s, congrArg Host.Outcome.next (if_pos runs), failAttempt_failed p s⟩,
    fun runs => ⟨goDown p (s.modPort p (fun x => { x with attempts := 0 })), congrArg Host.Outcome.next (if_pos runs),
      (modPort_link p _ s).trans (goDown_link p _), ?_⟩, fun stopped => ?_, fun stopped => ?_, fun stopped => ?_⟩
  · have timers := goDown_timers p (s.modPort p (fun x => { x with attempts := 0 }))
    have link := goDown_linkState p (s.modPort p (fun x => { x with attempts := 0 }))
    have counted := goDown_counter p (s.modPort p (fun x => { x with attempts := 0 })) (c := .trainingAttempts p) rfl
    have attempts := goDown_attempts p (s.modPort p (fun x => { x with attempts := 0 }))
    have config := goDown_config p (s.modPort p (fun x => { x with attempts := 0 }))
    simp only [State.modPort_port, State.modPort_counter] at timers link counted attempts config
    exact ⟨config, attempts, timers.2.2, link, timers.1, by simpa using counted⟩
  · exact congrArg Host.Outcome.next (if_neg (by simp [stopped]))
  · exact congrArg Host.Outcome.next (if_neg (by simp [stopped]))
  · exact congrArg Host.Outcome.next (if_neg (by simp [stopped]))

/-! ### What a cut leaves counted -/

/-- The state u still shows what the cut at port p of x counted: the error counters, the window's count, and DEGRADED while the port is in UP
or FAR_FAULT. -/
structure CutShown (p : PortId) (x u : State) : Prop where
  errors : ∀ k, u.counter (.error p k) = (cutArrival p x).counter (.error p k)
  window : (x.port p).link.receives = true → (u.port p).windowErrors = ((cutArrival p x).port p).windowErrors
  degraded : (x.port p).link.receives = true → (u.port p).degraded = ((u.port p).link.receives && ((cutArrival p x).port p).degraded)

theorem CutShown.counted {p : PortId} {x u : State} (h : CutShown p x u)
    (working : (x.port p).rx ≠ none → (x.port p).link.receives = true) : CutCounted p x u :=
  cutCounted_of working h.errors h.window h.degraded

theorem CutShown.start (p : PortId) (x : State) : CutShown p x (cutArrival p x) :=
  ⟨fun _ => rfl, fun _ => rfl, fun receives => by rw [cutArrival_linkState, receives, Bool.true_and]⟩

/-- A change of the port that keeps its state, its window count and DEGRADED. -/
theorem CutShown.modPort {p : PortId} {x u : State} (h : CutShown p x u) (f : Port → Port)
    (window : ∀ y, (f y).windowErrors = y.windowErrors) (degraded : ∀ y, (f y).degraded = y.degraded) (link : ∀ y, (f y).link = y.link) :
    CutShown p x (u.modPort p f) :=
  ⟨fun k => by rw [State.modPort_counter, h.errors], fun receives => by rw [State.modPort_port, window, h.window receives],
    fun receives => by rw [State.modPort_port, degraded, link, h.degraded receives]⟩

theorem CutShown.bump {p : PortId} {x u : State} (h : CutShown p x u) {c : Counter} (other : ∀ k, c ≠ .error p k) :
    CutShown p x (bump c u) :=
  ⟨fun k => by rw [counter_bump_of_ne _ (other k), h.errors], fun receives => by rw [bump_port, h.window receives],
    fun receives => by rw [bump_port, h.degraded receives]⟩

/-- A change of state, into UP or FAR_FAULT from one of these two only. -/
theorem CutShown.changeLink {p : PortId} {x u : State} (h : CutShown p x u) {new : LinkState}
    (stays : (x.port p).link.receives = true → new.receives = true → (u.port p).link.receives = true) :
    CutShown p x (changeLink p new u) := by
  refine ⟨fun k => by rw [changeLink_counter _ _ _ rfl, h.errors], fun receives => by rw [changeLink_windowErrors, h.window receives],
    fun receives => ?_⟩
  rw [changeLink_degraded, changeLink_linkState, h.degraded receives]
  cases into : new.receives with
  | false => cases (u.port p).link.receives <;> rfl
  | true => rw [stays receives into]; rfl

theorem CutShown.goDown {p : PortId} {x u : State} (h : CutShown p x u) : CutShown p x (goDown p u) := by
  have down : CutShown p x (Machine.changeLink p .down u) := h.changeLink (fun _ into => by cases into)
  unfold Machine.goDown applyR11
  split
  · exact ((down.changeLink (new := .seeking) (fun _ into => by cases into)).modPort (fun x => { x with validRun := 0 }) (fun _ => rfl) (fun _ => rfl) (fun _ => rfl)).bump (c := .trainingAttempts p) (fun k => by simp)
  · exact down

theorem CutShown.failAttempt {p : PortId} {x u : State} (h : CutShown p x u) : CutShown p x (failAttempt p u) := by
  have raised := h.modPort (fun x => { x with attempts := x.attempts + 1 }) (fun _ => rfl) (fun _ => rfl) (fun _ => rfl)
  rw [failAttempt_eq]
  split
  · exact raised.changeLink (fun _ into => by cases into)
  · exact raised.goDown

/-- Nothing enters reception on a change of state. -/
theorem changeLink_rx_none {p : PortId} {new : LinkState} {s : State} (none_ : (s.port p).rx = none) :
    ((changeLink p new s).port p).rx = none := by
  rw [changeLink_rx, none_, ite_self]

theorem goDown_rx_none {p : PortId} {s : State} (none_ : (s.port p).rx = none) : ((goDown p s).port p).rx = none := by
  unfold goDown
  rw [applyR11_port]
  split
  · exact changeLink_rx_none (changeLink_rx_none none_)
  · exact changeLink_rx_none none_

theorem failAttempt_rx_none {p : PortId} {s : State} (none_ : (s.port p).rx = none) : ((failAttempt p s).port p).rx = none := by
  have raised : ((s.modPort p (fun x => { x with attempts := x.attempts + 1 })).port p).rx = none := by
    rw [State.modPort_port]
    exact none_
  rw [failAttempt_eq]
  split
  · exact changeLink_rx_none raised
  · exact goDown_rx_none raised

theorem failAttempt_signal (p : PortId) (s : State) : ((failAttempt p s).port p).signal = (s.port p).signal := by
  rw [failAttempt_eq]
  split
  · rw [changeLink_signal, State.modPort_port]
  · unfold goDown
    rw [applyR11_port]
    split <;> simp

/-! ### Loss of signal and of alignment -/

/-- The port with its frame in reception cut and its detector silent. -/
def silenced (p : PortId) (x : State) : State := (cutArrival p x).modPort p (fun x => { x with signal := false })

theorem silenced_port (p : PortId) (x : State) : (silenced p x).port p = { (cutArrival p x).port p with signal := false } :=
  State.modPort_port ..

theorem silenced_shown (p : PortId) (x : State) : CutShown p x (silenced p x) :=
  (CutShown.start p x).modPort _ (fun _ => rfl) (fun _ => rfl) (fun _ => rfl)

theorem loseSignal_eq (p : PortId) (x : State) : loseSignal p x = match (x.port p).link with
    | .seeking => failAttempt p (silenced p x)
    | .aligned => failAttempt p (silenced p x)
    | .up => goDown p (silenced p x)
    | .farFault => goDown p (silenced p x)
    | _ => silenced p x := by
  have link : ((silenced p x).port p).link = (x.port p).link := by
    rw [silenced_port]
    exact cutArrival_linkState p x
  rw [← link]
  rfl

/-- A training attempt that fails without signal, seen from the port before its frame in reception was cut. -/
theorem failAttempt_silenced (p : PortId) (x : State) : ((failAttempt p (silenced p x)).port p).attempts = (x.port p).attempts + 1
    ∧ ((failAttempt p (silenced p x)).port p).link = (if 8 ≤ (x.port p).attempts + 1 then .holdoff else .down)
    ∧ ((failAttempt p (silenced p x)).port p).holdoffTimer = (if 8 ≤ (x.port p).attempts + 1 then some 2500000 else none)
    ∧ (failAttempt p (silenced p x)).counter (.trainingAttempts p) = x.counter (.trainingAttempts p) := by
  obtain ⟨-, -, attempts, link, holdoff, -, -, counted⟩ := failAttempt_failed p (silenced p x)
  rw [holdoff, counted, link, attempts]
  simp only [silenced_port, cutArrival_attempts, Bool.false_eq_true, if_false]
  have training : (silenced p x).counter (.trainingAttempts p) = x.counter (.trainingAttempts p) := by
    unfold silenced
    rw [State.modPort_counter, cutArrival_counter_other _ _ rfl (fun _ => by simp)]
  rw [training]
  split <;> simp

theorem goDown_silenced (p : PortId) (x : State) : ((goDown p (silenced p x)).port p).link = .down
    ∧ ((goDown p (silenced p x)).port p).attempts = (x.port p).attempts
    ∧ (goDown p (silenced p x)).counter (.trainingAttempts p) = x.counter (.trainingAttempts p) := by
  rw [goDown_linkState, goDown_attempts, goDown_counter _ _ rfl, silenced_port]
  refine ⟨rfl, cutArrival_attempts p x, ?_⟩
  rw [if_neg (by simp)]
  unfold silenced
  rw [State.modPort_counter, cutArrival_counter_other _ _ rfl (fun _ => by simp)]

/-- What loss of signal keeps in every state of the port. -/
theorem loseSignal_kept (p : PortId) (x : State) : (x.port p).configKept ((loseSignal p x).port p) ∧ ((loseSignal p x).port p).signal = false
    ∧ ((loseSignal p x).port p).rx = none ∧ CutShown p x (loseSignal p x) := by
  have config : (x.port p).configKept ((silenced p x).port p) := by
    rw [silenced_port]
    exact cutArrival_config p x
  have rx : ((silenced p x).port p).rx = none := by
    rw [silenced_port]
    exact cutArrival_rx p x
  have signal : ((silenced p x).port p).signal = false := by rw [silenced_port]
  have failed : (x.port p).configKept ((failAttempt p (silenced p x)).port p) ∧ ((failAttempt p (silenced p x)).port p).signal = false
      ∧ ((failAttempt p (silenced p x)).port p).rx = none ∧ CutShown p x (failAttempt p (silenced p x)) :=
    ⟨config.trans (failAttempt_config p _), (failAttempt_signal p _).trans signal, failAttempt_rx_none rx, (silenced_shown p x).failAttempt⟩
  have down : (x.port p).configKept ((goDown p (silenced p x)).port p) ∧ ((goDown p (silenced p x)).port p).signal = false
      ∧ ((goDown p (silenced p x)).port p).rx = none ∧ CutShown p x (goDown p (silenced p x)) := by
    refine ⟨config.trans (goDown_config p _), ?_, goDown_rx_none rx, (silenced_shown p x).goDown⟩
    rw [goDown_silent signal, changeLink_signal, signal]
  rw [loseSignal_eq]
  cases (x.port p).link with
  | seeking => exact failed
  | aligned => exact failed
  | up => exact down
  | farFault => exact down
  | down => exact ⟨config, signal, rx, silenced_shown p x⟩
  | holdoff => exact ⟨config, signal, rx, silenced_shown p x⟩

/-- Settles O7, by the state of the port. -/
theorem lossOfSignalFailsOrDrops : Obligations.LossOfSignalFailsOrDrops := by
  unfold Obligations.LossOfSignalFailsOrDrops
  intro p run s
  obtain ⟨config, signal, rx, shown⟩ := loseSignal_kept p (receiveSymbols p run s)
  have training := receiveSymbols_counter_other p run s (c := .trainingAttempts p) rfl (fun _ => by simp)
  have link := receiveSymbols_linkState p run s
  have attempts := receiveSymbols_attempts p run s
  have lost := loseSignal_eq p (receiveSymbols p run s)
  have failed := failAttempt_silenced p (receiveSymbols p run s)
  have down := goDown_silenced p (receiveSymbols p run s)
  have quiet : ((silenced p (receiveSymbols p run s)).port p).link = (s.port p).link
      ∧ ((silenced p (receiveSymbols p run s)).port p).attempts = (s.port p).attempts
      ∧ (silenced p (receiveSymbols p run s)).counter (.trainingAttempts p) = s.counter (.trainingAttempts p) := by
    refine ⟨?_, ?_, ?_⟩
    · rw [silenced_port, ← link]
      exact cutArrival_linkState p _
    · rw [silenced_port, ← attempts]
      exact cutArrival_attempts p _
    · unfold silenced
      rw [State.modPort_counter, cutArrival_counter_other _ _ rfl (fun _ => by simp), training]
  rw [link] at lost
  rw [attempts, training] at failed down
  refine ⟨_, rfl, (receiveSymbols_link p run s).trans (loseSignal_link p _), (receiveSymbols_config p run s).trans config, signal, rx,
    shown.counted (receiveSymbols_working p run s), ?_⟩
  show (loseSignal p (receiveSymbols p run s)).counter _ = _ ∧ _
  rw [lost]
  cases state : (s.port p).link with
  | seeking => exact ⟨failed.2.2.2, failed.1, failed.2.1, failed.2.2.1⟩
  | aligned => exact ⟨failed.2.2.2, failed.1, failed.2.1, failed.2.2.1⟩
  | up => exact ⟨down.2.2, down.1, down.2.1⟩
  | farFault => exact ⟨down.2.2, down.1, down.2.1⟩
  | down => exact ⟨quiet.2.2, quiet.1.trans state, quiet.2.1⟩
  | holdoff => exact ⟨quiet.2.2, quiet.1.trans state, quiet.2.1⟩

end Sys2Proof.Machine
end

section
/-! Alignment, marks and invalid symbols at a port (R1 to R5, R12 to R16). -/

namespace Sys2Proof.Machine

/-! ### What a cut counts in its window -/

theorem cutArrival_window (p : PortId) (s : State) : ((cutArrival p s).port p).windowErrors
      = (if (s.port p).rx = none then (s.port p).windowErrors else (s.port p).windowErrors + 1)
    ∧ ((cutArrival p s).port p).degraded = (if (s.port p).rx = none then (s.port p).degraded
      else (s.port p).degraded || decide ((s.port p).hiErrThreshold ≤ (s.port p).windowErrors + 1)) := by
  cases rx : (s.port p).rx with
  | none =>
    rw [cutArrival_none rx]
    exact ⟨rfl, rfl⟩
  | some r =>
    rw [cutArrival_some rx, countErrored_port, bump_port, State.modPort_port]
    exact ⟨rfl, rfl⟩

/-- A cut counts the same after a change of the invalid-symbol run. -/
theorem CutShown.start_run (p : PortId) (x : State) (n : Nat) :
    CutShown p x (cutArrival p (x.modPort p (fun y => { y with invalidRun := n }))) := by
  refine ⟨fun k => ?_, fun _ => ?_, fun receives => ?_⟩
  · rw [cutArrival_counter _ _ rfl, cutArrival_counter _ _ rfl, State.modPort_port, State.modPort_counter]
  · rw [(cutArrival_window p _).1, (cutArrival_window p x).1, State.modPort_port]
  · rw [cutArrival_linkState, (cutArrival_window p _).2, (cutArrival_window p x).2, State.modPort_port]
    show _ = ((x.port p).link.receives && _)
    rw [receives, Bool.true_and]

/-! ### Loss of alignment -/

theorem CutShown.seekAgain {p : PortId} {x u : State} (h : CutShown p x u) : CutShown p x (seekAgain p u) :=
  (h.changeLink (new := .seeking) (fun _ into => by cases into)).modPort _ (fun _ => rfl) (fun _ => rfl) (fun _ => rfl)

theorem seekAgain_port (p : PortId) (s : State) : (seekAgain p s).port p = { (changeLink p .seeking s).port p with validRun := 0 } :=
  State.modPort_port ..

theorem seekAgain_config (p : PortId) (s : State) : (s.port p).configKept ((seekAgain p s).port p) := by
  rw [seekAgain_port]
  exact changeLink_config p .seeking s

theorem seekAgain_counter (p : PortId) (s : State) {c : Counter} (h : c.bySupervisor = false) : (seekAgain p s).counter c = s.counter c := by
  unfold seekAgain
  rw [State.modPort_counter, changeLink_counter _ _ _ h]

/-- Settles O8, by whether the port is aligned. -/
theorem lossOfAlignmentReturnsToSeeking : Obligations.LossOfAlignmentReturnsToSeeking := by
  unfold Obligations.LossOfAlignmentReturnsToSeeking
  intro p run s
  obtain ⟨x, hx⟩ : ∃ x, x = receiveSymbols p run s := ⟨_, rfl⟩
  have frame := receiveSymbols_link p run s
  have received := receiveSymbols_config p run s
  have working := receiveSymbols_working p run s
  have link := receiveSymbols_linkState p run s
  have attempts := receiveSymbols_attempts p run s
  have training := receiveSymbols_counter_other p run s (c := .trainingAttempts p) rfl (fun _ => by simp)
  rw [← hx] at frame received working link attempts training ⊢
  by_cases aligned : (s.port p).link.isAligned = true
  · obtain ⟨y, hy⟩ : ∃ y, y = cutArrival p (x.modPort p (fun y => { y with invalidRun := 16 })) := ⟨_, rfl⟩
    have shown : CutShown p x y := hy ▸ CutShown.start_run p x 16
    have port : y.port p = { x.port p with invalidRun := 16, rx := none, windowErrors := (y.port p).windowErrors, cleanRun := (y.port p).cleanRun, degraded := (y.port p).degraded, access := (y.port p).access } := by
      rw [hy, cutArrival_port, State.modPort_port]
    have run16 : LinkFrame p x y := hy ▸ (modPort_link p _ x).trans (cutArrival_link p _)
    have counter : y.counter (.trainingAttempts p) = x.counter (.trainingAttempts p) := by
      rw [hy, cutArrival_counter_other _ _ rfl (fun _ => by simp), State.modPort_counter]
    have lost : alignmentLost p x = seekAgain p y := by
      have inner : ((x.modPort p (fun y => { y with invalidRun := 16 })).port p).link.isAligned = true := by
        rw [State.modPort_port]
        exact link ▸ aligned
      unfold alignmentLost loseAlignment
      rw [link, if_pos aligned, if_pos inner, hy]
    have kept : (x.port p).configKept (y.port p) := by
      rw [port]
      exact ⟨rfl, rfl, rfl, rfl⟩
    refine ⟨seekAgain p y, ?_, frame.trans (run16.trans (seekAgain_link p y)), received.trans (kept.trans (seekAgain_config p y)), ?_,
      shown.seekAgain.counted working, ?_, fun _ => ?_, fun other => ?_⟩
    · rw [← lost, hx]
      rfl
    · rw [seekAgain_port, ← attempts]
      exact (changeLink_attempts ..).trans (by rw [port])
    · rw [seekAgain_counter _ _ rfl, counter, training]
    · rw [seekAgain_port]
      refine ⟨changeLink_linkState .., changeLink_seekTimer .., changeLink_alignTimer .., rfl, ?_⟩
      exact changeLink_rx_none (by rw [port])
    · rcases other with h | h | h <;> rw [h] at aligned <;> cases aligned
  · refine ⟨x, ?_, frame, received, attempts, ?_, training, fun other => ?_, fun _ => link⟩
    · rw [hx]
      exact congrArg Host.Outcome.next (if_neg (by rwa [receiveSymbols_linkState]))
    · have none_ : (x.port p).rx = none := by
        by_contra some_
        have receives := working some_
        rw [link] at receives
        cases h : (s.port p).link <;> rw [h] at aligned receives <;> simp [LinkState.isAligned, LinkState.receives] at aligned receives
      unfold CutCounted
      rw [none_]
      exact fun _ => rfl
    · rcases other with h | h | h <;> rw [h] at aligned <;> exact absurd rfl aligned

/-! ### Valid marks -/

/-- The state after a valid mark outside a frame (R12 to R15): the fourth mark of SEEKING, and the marks that a state answers to. -/
def linkAfter (l : LinkState) (valid : Nat) (m : Mark) : LinkState :=
  match l, m with
  | .seeking, _ => if 4 ≤ valid + 1 then .aligned else .seeking
  | .aligned, .train true => .up
  | .up, .noReceive => .farFault
  | .up, .train false => .aligned
  | .farFault, .idle => .up
  | .farFault, .train false => .aligned
  | l, _ => l

theorem seekMark_port (p : PortId) (s : State) : (seekMark p s).port p = if 4 ≤ (s.port p).validRun + 1
    then (changeLink p .aligned (s.modPort p (fun x => { x with validRun := x.validRun + 1 }))).port p
    else { s.port p with validRun := (s.port p).validRun + 1 } := by
  unfold seekMark
  dsimp only
  rw [State.modPort_port]
  dsimp only
  split
  · rfl
  · rw [State.modPort_port]

theorem seekMark_counter (p : PortId) (s : State) {c : Counter} (h : c.bySupervisor = false) : (seekMark p s).counter c = s.counter c := by
  unfold seekMark
  dsimp only
  split
  · rw [changeLink_counter _ _ _ h, State.modPort_counter]
  · rw [State.modPort_counter]

theorem enterUp_port (p : PortId) (s : State) : (enterUp p s).port p = { (changeLink p .up (s.modPort p (fun x =>
    { x with attempts := 0, windowTimer := some windowClocks, windowErrors := 0, cleanRun := 0 }))).port p with trainOwed := true } :=
  State.modPort_port ..

theorem enterUp_counter (p : PortId) (s : State) {c : Counter} (h : c.bySupervisor = false) : (enterUp p s).counter c = s.counter c := by
  unfold enterUp
  rw [State.modPort_counter, changeLink_counter _ _ _ h, State.modPort_counter]

theorem markByState_counter (p : PortId) (m : Mark) (s : State) {c : Counter} (h : c.bySupervisor = false) :
    (markByState p m s).counter c = s.counter c := by
  unfold markByState
  split
  · exact seekMark_counter p s h
  · exact enterUp_counter p s h
  · exact changeLink_counter p _ s h
  · exact changeLink_counter p _ s h
  · exact changeLink_counter p _ s h
  · exact changeLink_counter p _ s h
  · rfl

theorem markByState_config (p : PortId) (m : Mark) (s : State) : (s.port p).configKept ((markByState p m s).port p) := by
  unfold markByState
  split
  · rw [seekMark_port]
    split
    · have raised : (s.port p).configKept ((s.modPort p (fun x => { x with validRun := x.validRun + 1 })).port p) := by
        rw [State.modPort_port]
        exact ⟨rfl, rfl, rfl, rfl⟩
      exact raised.trans (changeLink_config ..)
    · exact ⟨rfl, rfl, rfl, rfl⟩
  · have fresh : (s.port p).configKept ((s.modPort p (fun x =>
        { x with attempts := 0, windowTimer := some windowClocks, windowErrors := 0, cleanRun := 0 })).port p) := by
      rw [State.modPort_port]
      exact ⟨rfl, rfl, rfl, rfl⟩
    rw [enterUp_port]
    exact fresh.trans (changeLink_config ..)
  · exact changeLink_config ..
  · exact changeLink_config ..
  · exact changeLink_config ..
  · exact changeLink_config ..
  · exact .refl _

/-- Whatever the mark, a port with nothing in reception stays so. -/
theorem markByState_rx_none {p : PortId} {m : Mark} {s : State} (none_ : (s.port p).rx = none) :
    ((markByState p m s).port p).rx = none := by
  unfold markByState
  split
  · rw [seekMark_port]
    split
    · exact changeLink_rx_none (by rw [State.modPort_port]; exact none_)
    · exact none_
  · rw [enterUp_port]
    exact changeLink_rx_none (by rw [State.modPort_port]; exact none_)
  · exact changeLink_rx_none none_
  · exact changeLink_rx_none none_
  · exact changeLink_rx_none none_
  · exact changeLink_rx_none none_
  · exact none_

theorem markByState_linkState (p : PortId) (m : Mark) (s : State) :
    ((markByState p m s).port p).link = linkAfter (s.port p).link (s.port p).validRun m := by
  unfold markByState
  split
  · next seeking =>
    rw [seekMark_port, seeking]
    unfold linkAfter
    split
    · exact changeLink_linkState ..
    · exact seeking
  · next aligned =>
    rw [enterUp_port, aligned]
    exact changeLink_linkState ..
  · next up => rw [up]; exact changeLink_linkState ..
  · next up => rw [up]; exact changeLink_linkState ..
  · next far => rw [far]; exact changeLink_linkState ..
  · next far => rw [far]; exact changeLink_linkState ..
  · unfold linkAfter
    split <;> simp_all

/-- Into ALIGNED from another state: the align timer runs and the attempt count stays (R12, R14, R15). -/
theorem markByState_aligned {p : PortId} {m : Mark} {s : State} (other : (s.port p).link ≠ .aligned)
    (aligned : ((markByState p m s).port p).link = .aligned) :
    ((markByState p m s).port p).alignTimer = some 250000 ∧ ((markByState p m s).port p).attempts = (s.port p).attempts := by
  have moved (u : State) : ((changeLink p .aligned u).port p).alignTimer = some 250000 := changeLink_alignTimer ..
  unfold markByState at aligned ⊢
  split at aligned
  · next seeking =>
    rw [seekMark_port] at aligned ⊢
    split at aligned
    · next fourth =>
      rw [if_pos fourth]
      exact ⟨moved _, (changeLink_attempts ..).trans (by rw [State.modPort_port])⟩
    · exact absurd aligned other
  · next already => exact absurd already other
  · rw [changeLink_linkState] at aligned; cases aligned
  · exact ⟨moved _, changeLink_attempts ..⟩
  · rw [changeLink_linkState] at aligned; cases aligned
  · exact ⟨moved _, changeLink_attempts ..⟩
  · exact absurd aligned other

/-- Into UP from ALIGNED: the attempt count is 0, a fresh window starts, and a TRAIN mark is owed (R13, R14, R20). -/
theorem markByState_up {p : PortId} {m : Mark} {s : State} (aligned : (s.port p).link = .aligned)
    (up : ((markByState p m s).port p).link = .up) : ((markByState p m s).port p).attempts = 0
      ∧ ((markByState p m s).port p).alignTimer = none ∧ ((markByState p m s).port p).windowTimer = some 25000
      ∧ ((markByState p m s).port p).windowErrors = 0 ∧ ((markByState p m s).port p).cleanRun = 0
      ∧ ((markByState p m s).port p).trainOwed = true := by
  unfold markByState at up ⊢
  split at up
  · next seeking => rw [aligned] at seeking; cases seeking
  · rw [enterUp_port]
    refine ⟨?_, changeLink_alignTimer .., ?_, ?_, ?_, rfl⟩
    · exact (changeLink_attempts ..).trans (by rw [State.modPort_port])
    · have working : (!LinkState.up.receives) = false := rfl
      exact (changeLink_windowTimer ..).trans (by rw [working, Bool.and_false, State.modPort_port]; rfl)
    · exact (changeLink_windowErrors ..).trans (by rw [State.modPort_port])
    · exact (changeLink_cleanRun ..).trans (by rw [State.modPort_port])
  · next from_ => rw [aligned] at from_; cases from_
  · next from_ => rw [aligned] at from_; cases from_
  · next from_ => rw [aligned] at from_; cases from_
  · next from_ => rw [aligned] at from_; cases from_
  · rw [aligned] at up; cases up

/-- The state in which the state rules meet a mark: the invalid-symbol run is 0, a PACE mark is counted at an aligned receiver, and any other
mark has cut the frame in reception (R4). -/
def markMet (p : PortId) (m : Mark) (x : State) : State :=
  match m with
  | .pace _ => bumpIf (x.port p).link.isAligned (.paceSeen p) (x.modPort p (fun y => { y with invalidRun := 0 }))
  | _ => cutArrival p (x.modPort p (fun y => { y with invalidRun := 0 }))

theorem receiveMark_eq (p : PortId) (m : Mark) (x : State) : receiveMark p m x = markByState p m (markMet p m x) := by
  unfold receiveMark markMet
  cases m <;> dsimp only
  rw [State.modPort_port]

theorem markMet_cut {p : PortId} {m : Mark} (other : ∀ tag, m ≠ .pace tag) (x : State) :
    markMet p m x = cutArrival p (x.modPort p (fun y => { y with invalidRun := 0 })) := by
  cases m with
  | pace tag => exact absurd rfl (other tag)
  | idle => rfl
  | train ready => rfl
  | noReceive => rfl

theorem markMet_pace_port (p : PortId) (tag : Byte) (x : State) : (markMet p (.pace tag) x).port p = { x.port p with invalidRun := 0 } := by
  unfold markMet
  dsimp only
  rw [bumpIf_port, State.modPort_port]

/-- What meeting a mark keeps of the port. -/
theorem markMet_kept (p : PortId) (m : Mark) (x : State) : ((markMet p m x).port p).link = (x.port p).link
    ∧ ((markMet p m x).port p).validRun = (x.port p).validRun ∧ ((markMet p m x).port p).attempts = (x.port p).attempts
    ∧ (x.port p).configKept ((markMet p m x).port p) := by
  by_cases pace : ∃ tag, m = .pace tag
  · obtain ⟨tag, rfl⟩ := pace
    rw [markMet_pace_port]
    exact ⟨rfl, rfl, rfl, rfl, rfl, rfl, rfl⟩
  · rw [markMet_cut (fun tag same => pace ⟨tag, same⟩), cutArrival_port, State.modPort_port]
    exact ⟨rfl, rfl, rfl, rfl, rfl, rfl, rfl⟩

theorem markMet_paceSeen (p : PortId) (m : Mark) (x : State) : (markMet p m x).counter (.paceSeen p) = match m with
    | .pace _ => if (x.port p).link.isAligned = true then x.counter (.paceSeen p) + 1 else x.counter (.paceSeen p)
    | _ => x.counter (.paceSeen p) := by
  by_cases pace : ∃ tag, m = .pace tag
  · obtain ⟨tag, rfl⟩ := pace
    unfold markMet bumpIf
    dsimp only
    split
    · rw [counter_bump_self, State.modPort_counter]
    · rw [State.modPort_counter]
  · rw [markMet_cut (fun tag same => pace ⟨tag, same⟩), cutArrival_counter_other _ _ rfl (fun _ => by simp), State.modPort_counter]
    cases m with
    | pace tag => exact absurd ⟨tag, rfl⟩ pace
    | idle => rfl
    | train ready => rfl
    | noReceive => rfl

theorem isAligned_iff (l : LinkState) : l.isAligned = true ↔ l = .aligned ∨ l = .up ∨ l = .farFault := by
  cases l <;> decide

theorem receives_iff (l : LinkState) : l.receives = true ↔ l = .up ∨ l = .farFault := by cases l <;> decide

/-- Settles O9, by the state rules on the state that the mark meets. -/
theorem validMarkMoves : Obligations.ValidMarkMoves := by
  unfold Obligations.ValidMarkMoves
  intro p run m s
  obtain ⟨link, valid, attempts, config⟩ := markMet_kept p m (receiveSymbols p run s)
  have counted := markMet_paceSeen p m (receiveSymbols p run s)
  have frame := (receiveSymbols_link p run s).trans (receiveMark_link p m _)
  have aligned := markByState_aligned (p := p) (m := m) (s := markMet p m (receiveSymbols p run s))
  have up := markByState_up (p := p) (m := m) (s := markMet p m (receiveSymbols p run s))
  have after := markByState_linkState p m (markMet p m (receiveSymbols p run s))
  have kept := (receiveSymbols_config p run s).trans (config.trans (markByState_config p m _))
  rw [receiveSymbols_counter_other p run s rfl (fun _ => by simp), receiveSymbols_linkState] at counted
  rw [receiveSymbols_linkState] at link
  rw [receiveSymbols_validRun] at valid
  rw [receiveSymbols_attempts] at attempts
  rw [link] at aligned up
  rw [link, valid] at after
  rw [attempts] at aligned
  rw [receiveMark_eq] at frame
  refine ⟨_, congrArg Host.Outcome.next (receiveMark_eq p m _), frame, kept, ?_, aligned, up, ?_⟩
  · rw [after]
    unfold linkAfter
    rfl
  · rw [markByState_counter _ _ _ rfl, counted]
    cases m with
    | pace tag => exact if_congr (isAligned_iff _) rfl rfl
    | idle => rfl
    | train ready => rfl
    | noReceive => rfl

end Sys2Proof.Machine
end

section
/-! Frames in reception (R4 to R6), the run of invalid symbols (R1) and the monitoring window (R20). -/

namespace Sys2Proof.Machine

/-! ### What a mark cuts -/

theorem CutShown.markByState {p : PortId} {x u : State} (h : CutShown p x u) (same : (u.port p).link = (x.port p).link) (m : Mark) :
    CutShown p x (markByState p m u) := by
  unfold Machine.markByState
  split
  · next seeking =>
    have counted := h.modPort (fun y => { y with validRun := y.validRun + 1 }) (fun _ => rfl) (fun _ => rfl) (fun _ => rfl)
    unfold seekMark
    dsimp only
    split
    · exact counted.changeLink (fun _ into => by cases into)
    · exact counted
  · next aligned =>
    have deaf : (x.port p).link.receives = true → False := by
      rw [← same, aligned]
      exact Bool.noConfusion
    exact ⟨fun k => by rw [enterUp_counter _ _ rfl, h.errors], fun receives => (deaf receives).elim, fun receives => (deaf receives).elim⟩
  · next up => exact h.changeLink (fun _ _ => by rw [up]; rfl)
  · exact h.changeLink (fun _ into => by cases into)
  · next far => exact h.changeLink (fun _ _ => by rw [far]; rfl)
  · exact h.changeLink (fun _ into => by cases into)
  · exact h

/-- A PACE mark leaves the frame in reception: the only state it moves a port from is SEEKING (R4, R12). -/
theorem markByState_pace_rx (p : PortId) (tag : Byte) (s : State) : ((markByState p (.pace tag) s).port p).rx = (s.port p).rx := by
  unfold markByState
  split
  · next seeking =>
    rw [seekMark_port]
    split
    · rw [changeLink_rx, State.modPort_port]
      exact if_neg (by rw [seeking]; decide)
    · rfl
  · next mark => cases mark
  · next mark => cases mark
  · next mark => cases mark
  · next mark => cases mark
  · next mark => cases mark
  · rfl

/-! ### Received symbols -/

/-- A run that cuts no frame changes the port alone (R1, R5). -/
theorem receiveSymbols_uncut {p : PortId} {run : LineRun} {s : State} (uncut : (s.port p).rx = none ∨ run.start = false) :
    receiveSymbols p run s = s.setPort p (receiveRun run (s.port p)) := by
  have same : (if run.start then cutArrival p s else s) = s := by
    split
    · next starts =>
      rcases uncut with none_ | quiet
      · exact cutArrival_none none_
      · rw [starts] at quiet; cases quiet
    · rfl
  unfold receiveSymbols
  rw [same]
  rfl

/-- The frame in reception after a run (R5). -/
theorem receiveRun_reception (run : LineRun) (x : Port) : (receiveRun run x).rx = if x.link = .up ∨ x.link = .farFault then
    (if run.start = true then some { bytes := run.data.take 506, count := run.data.length }
     else x.rx.map (fun r => { bytes := (r.bytes ++ run.data).take 506, count := r.count + run.data.length })) else none := by
  unfold receiveRun
  dsimp only
  by_cases receives : x.link = .up ∨ x.link = .farFault
  · rw [if_pos receives, if_pos ((receives_iff _).mpr receives)]
    split
    · rw [Option.map_some, List.nil_append, Nat.zero_add]
    · rfl
  · rw [if_neg receives, if_neg (fun h => receives ((receives_iff _).mp h))]
    rfl

theorem receiveRun_eq (run : LineRun) (x : Port) : receiveRun run x = { x with
    invalidRun := if run.start = true ∨ run.data ≠ [] then 0 else x.invalidRun, rx := (receiveRun run x).rx } := by
  have cleared : (if run.start || !run.data.isEmpty then 0 else x.invalidRun) = if run.start = true ∨ run.data ≠ [] then 0 else x.invalidRun :=
    if_congr (by simp) rfl rfl
  unfold receiveRun
  rw [← cleared]

/-- Settles O10, by what receives the symbols and what meets the mark. -/
theorem marksInsideFrames : Obligations.MarksInsideFrames := by
  unfold Obligations.MarksInsideFrames
  refine ⟨fun p run s => ⟨fun uncut => ?_, fun r cause some_ starts which => ?_⟩, fun p run tag s => ?_, fun p run m s other => ?_,
    fun p run s1 s2 s3 s ill => ?_⟩
  · rw [receiveSymbols_uncut uncut, receiveRun_eq, receiveRun_reception]
  · have rx : ((receiveSymbols p run s).port p).rx = _ := congrArg Port.rx (receiveSymbols_port p run s)
    have counter := receiveSymbols_counter p run s
    have port := receiveSymbols_port p run s
    rw [if_pos starts] at counter port rx
    have causes : cause = cutCause r := which
    refine ⟨receiveSymbols_link p run s, receiveSymbols_lineKept p run s, ?_, ?_, fun k differs => ?_, ?_⟩
    · rw [rx, receiveRun_reception, if_pos starts, cutArrival_linkState]
    · rw [counter, cutArrival_counter _ _ rfl, if_pos ⟨r, some_, by rw [causes]⟩]
    · rw [counter, cutArrival_counter _ _ rfl, if_neg]
      rintro ⟨r', same, counted⟩
      obtain rfl : r = r' := Option.some.inj (some_.symm.trans same)
      exact differs (by rw [causes]; injection counted)
    · rw [port]
      exact (cutArrival_window p s).1.trans (if_neg (by rw [some_]; exact Option.some_ne_none r))
  · refine ⟨_, congrArg Host.Outcome.next (receiveMark_eq p (.pace tag) _), ?_, fun k => ?_⟩
    · rw [markByState_pace_rx, markMet_pace_port]
    · rw [markByState_counter _ _ _ rfl]
      unfold markMet bumpIf
      dsimp only
      split
      · rw [counter_bump_of_ne _ (by simp), State.modPort_counter]
      · rw [State.modPort_counter]
  · have met := markMet_cut (p := p) other (receiveSymbols p run s)
    have link := (markMet_kept p m (receiveSymbols p run s)).1
    have shown : CutShown p (receiveSymbols p run s) (markMet p m (receiveSymbols p run s)) := by
      rw [met]
      exact CutShown.start_run p _ 0
    have rx : ((markMet p m (receiveSymbols p run s)).port p).rx = none := by
      rw [met]
      exact cutArrival_rx p _
    exact ⟨_, congrArg Host.Outcome.next (receiveMark_eq p m _), markByState_rx_none rx,
      (shown.markByState link m).counted (receiveSymbols_working p run s)⟩
  · have four : receiveFour p s1 s2 s3 (receiveSymbols p run s) = receiveIllFormed p s1 s2 s3 (receiveSymbols p run s) := by
      unfold receiveFour
      rw [ill]
    have port : (receiveIllFormed p s1 s2 s3 (receiveSymbols p run s)).port p = { (cutArrival p (receiveSymbols p run s)).port p with
        invalidRun := markInvalidRun s1 s2 s3, validRun := if ((cutArrival p (receiveSymbols p run s)).port p).link = .seeking then 0
          else ((cutArrival p (receiveSymbols p run s)).port p).validRun } := State.modPort_port ..
    have shown : CutShown p (receiveSymbols p run s) (receiveIllFormed p s1 s2 s3 (receiveSymbols p run s)) :=
      (CutShown.start p _).modPort _ (fun _ => rfl) (fun _ => rfl) (fun _ => rfl)
    refine ⟨_, congrArg Host.Outcome.next four, (receiveSymbols_link p run s).trans (receiveIllFormed_link p s1 s2 s3 _), ?_,
      shown.counted (receiveSymbols_working p run s), ?_, ?_, fun seeking => ?_⟩
    · rw [port]
      exact cutArrival_rx p _
    · rw [port]
      exact (cutArrival_linkState p _).trans (receiveSymbols_linkState p run s)
    · rw [port]
      exact (cutArrival_attempts p _).trans (receiveSymbols_attempts p run s)
    · rw [port]
      exact if_pos (by rw [cutArrival_linkState, receiveSymbols_linkState, seeking])

/-! ### Invalid symbols -/

/-- The port after an invalid symbol, before it may lose alignment (R1, R5, R12). -/
def invalidMet (p : PortId) (x : State) : State :=
  (cutArrival p x).modPort p (fun y =>
    { y with invalidRun := min 16 (y.invalidRun + 1), validRun := if y.link = .seeking then 0 else y.validRun })

theorem invalidMet_port (p : PortId) (x : State) : (invalidMet p x).port p = { (cutArrival p x).port p with
    invalidRun := min 16 ((x.port p).invalidRun + 1), validRun := if (x.port p).link = .seeking then 0 else (x.port p).validRun } := by
  unfold invalidMet
  rw [State.modPort_port]
  dsimp only
  rw [cutArrival_invalidRun, cutArrival_linkState, cutArrival_validRun]

theorem invalidMet_shown (p : PortId) (x : State) : CutShown p x (invalidMet p x) :=
  (CutShown.start p x).modPort _ (fun _ => rfl) (fun _ => rfl) (fun _ => rfl)

theorem receiveInvalid_eq (p : PortId) (x : State) : receiveInvalid p x
    = if min 16 ((x.port p).invalidRun + 1) = 16 ∧ (x.port p).link.isAligned = true then seekAgain p (invalidMet p x)
      else invalidMet p x := by
  have port := invalidMet_port p x
  have link : ((invalidMet p x).port p).link = (x.port p).link := by
    rw [port]
    exact cutArrival_linkState p x
  have rx : ((invalidMet p x).port p).rx = none := by
    rw [port]
    exact cutArrival_rx p x
  have run : ((invalidMet p x).port p).invalidRun = min 16 ((x.port p).invalidRun + 1) := by rw [port]
  have unfolded : receiveInvalid p x = if ((invalidMet p x).port p).invalidRun = 16 then loseAlignment p (invalidMet p x)
      else invalidMet p x := rfl
  rw [unfolded, run]
  unfold loseAlignment
  rw [link, cutArrival_none rx]
  by_cases full : min 16 ((x.port p).invalidRun + 1) = 16
  · rw [if_pos full]
    exact if_congr (and_iff_right full).symm rfl rfl
  · rw [if_neg full, if_neg (fun both => full both.1)]

/-- Settles O11, by whether the run reaches 16 at an aligned port. -/
theorem invalidSymbolRun : Obligations.InvalidSymbolRun := by
  unfold Obligations.InvalidSymbolRun
  intro p run s
  obtain ⟨x, hx⟩ : ∃ x, x = receiveSymbols p run s := ⟨_, rfl⟩
  have frame := (receiveSymbols_link p run s).trans (receiveInvalid_link p _)
  have received := receiveSymbols_config p run s
  have working := receiveSymbols_working p run s
  have link := receiveSymbols_linkState p run s
  have attempts := receiveSymbols_attempts p run s
  have invalid := receiveSymbols_invalidRun p run s
  rw [← hx] at frame received working link attempts invalid
  have port := invalidMet_port p x
  have eq := receiveInvalid_eq p x
  have shown := invalidMet_shown p x
  have met : ((invalidMet p x).port p).link = (s.port p).link ∧ ((invalidMet p x).port p).attempts = (s.port p).attempts
      ∧ ((invalidMet p x).port p).rx = none ∧ (s.port p).configKept ((invalidMet p x).port p)
      ∧ ((invalidMet p x).port p).invalidRun = min 16 ((x.port p).invalidRun + 1)
      ∧ ((s.port p).link = .seeking → ((invalidMet p x).port p).validRun = 0) := by
    rw [port]
    exact ⟨(cutArrival_linkState p x).trans link, (cutArrival_attempts p x).trans attempts, cutArrival_rx p x,
      received.trans (cutArrival_config p x), rfl, fun seeking => if_pos (link.trans seeking)⟩
  obtain ⟨mlink, mattempts, mrx, mconfig, mrun, mvalid⟩ := met
  refine ⟨receiveInvalid p x, by rw [hx]; rfl, frame, ?_⟩
  rw [eq, ← hx, ← invalid, link]
  by_cases lost : min 16 ((x.port p).invalidRun + 1) = 16 ∧ (s.port p).link.isAligned = true
  · rw [if_pos lost]
    have srun : ((seekAgain p (invalidMet p x)).port p).invalidRun = min 16 ((x.port p).invalidRun + 1) := by
      rw [seekAgain_port]
      exact (changeLink_invalidRun ..).trans mrun
    have slink : ((seekAgain p (invalidMet p x)).port p).link = .seeking := by
      rw [seekAgain_port]
      exact changeLink_linkState ..
    refine ⟨mconfig.trans (seekAgain_config p _), ?_, shown.seekAgain.counted working, ?_, srun, fun _ _ => ⟨slink, ?_⟩, fun short => ?_,
      fun seeking => ?_⟩
    · rw [seekAgain_port]
      exact changeLink_rx_none mrx
    · rw [seekAgain_port]
      exact (changeLink_attempts ..).trans mattempts
    · rw [seekAgain_port]
      exact changeLink_seekTimer ..
    · rw [srun, lost.1, lost.2] at short
      simp at short
    · rw [seeking] at lost
      cases lost.2
  · rw [if_neg lost]
    exact ⟨mconfig, mrx, shown.counted working, mattempts, mrun,
      fun aligned full => absurd ⟨mrun.symm.trans full, (isAligned_iff _).mpr aligned⟩ lost, fun _ => mlink,
      fun seeking => ⟨mlink.trans seeking, mvalid seeking⟩⟩

/-! ### Ended frames -/

/-- A frame that arrives complete is checked and handed on at a port in UP, out of reception (R5, R15). -/
theorem frameArrival_complete {p : PortId} {run : LineRun} {s : State} {r : RxFrame} (rx : ((receiveSymbols p run s).port p).rx = some r) :
    frameArrival p run .complete s = completeFrame p r (frameTaken p run s) := by
  obtain ⟨x, hx⟩ : ∃ x, x = receiveSymbols p run s := ⟨_, rfl⟩
  have link : (x.port p).link = (s.port p).link := hx ▸ receiveSymbols_linkState p run s
  have both : (x.modPort p (fun x => { x with invalidRun := 0 })).modPort p (fun x => { x with rx := none })
      = x.modPort p (fun x => { x with rx := none, invalidRun := 0 }) := by
    unfold State.modPort
    cases p <;> rfl
  have back : returnFromFarFault p (x.modPort p (fun x => { x with rx := none, invalidRun := 0 })) = frameTaken p run s := by
    unfold returnFromFarFault frameTaken
    rw [State.modPort_port, ← hx]
    exact if_congr (by simp [link]) rfl rfl
  have arrives : frameArrival p run .complete s = receiveEnd p x := by rw [hx]; rfl
  have here : ((x.modPort p (fun x => { x with invalidRun := 0 })).port p).rx = some r := by
    rw [State.modPort_port]
    exact hx ▸ rx
  rw [arrives]
  unfold receiveEnd
  dsimp only
  rw [here]
  dsimp only
  rw [both, back]

/-- What taking a complete frame leaves of its port. -/
theorem frameTaken_port (p : PortId) (run : LineRun) (s : State) (receives : (s.port p).link.receives = true) :
    ((frameTaken p run s).port p).link = .up ∧ ((frameTaken p run s).port p).rx = none ∧ ((frameTaken p run s).port p).invalidRun = 0
      ∧ ((frameTaken p run s).port p).windowErrors = ((receiveSymbols p run s).port p).windowErrors
      ∧ ((frameTaken p run s).port p).degraded = ((receiveSymbols p run s).port p).degraded
      ∧ ((frameTaken p run s).port p).hiErrThreshold = ((receiveSymbols p run s).port p).hiErrThreshold := by
  have working : (!LinkState.up.receives) = false := rfl
  unfold frameTaken
  dsimp only
  split
  · rw [changeLink_linkState, changeLink_rx, changeLink_invalidRun, changeLink_windowErrors, changeLink_degraded, changeLink_hiErrThreshold,
      working, Bool.and_false, State.modPort_port]
    exact ⟨rfl, rfl, rfl, rfl, rfl, rfl⟩
  · next other =>
    rw [State.modPort_port]
    have up : ((receiveSymbols p run s).port p).link = .up := by
      rw [receiveSymbols_linkState]
      exact ((receives_iff _).mp receives).resolve_right other
    exact ⟨up, rfl, rfl, rfl, rfl, rfl⟩

theorem frameTaken_counter (p : PortId) (run : LineRun) (s : State) {c : Counter} (h : c.bySupervisor = false) :
    (frameTaken p run s).counter c = (receiveSymbols p run s).counter c := by
  unfold frameTaken
  dsimp only
  split
  · rw [changeLink_counter _ _ _ h, State.modPort_counter]
  · rw [State.modPort_counter]

theorem frameTaken_link (p : PortId) (run : LineRun) (s : State) : LinkFrame p s (frameTaken p run s) := by
  have taken := (receiveSymbols_link p run s).trans (modPort_link p (fun x => { x with rx := none, invalidRun := 0 }) _)
  unfold frameTaken
  dsimp only
  split
  · exact taken.trans (changeLink_link p _ _)
  · exact taken

/-- Settles O12, by whether the frame is cut or complete. -/
theorem endedFramesThatFailAreCounted : Obligations.EndedFramesThatFailAreCounted := by
  unfold Obligations.EndedFramesThatFailAreCounted
  refine ⟨fun p run newFrame s x hx => ?_, fun p run s x r cause hx rx fails => ?_⟩
  · have uncut := receiveSymbols_uncut (p := p) (run := { start := newFrame, data := [] }) (s := cutArrival p x) (.inl (cutArrival_rx p x))
    obtain ⟨t, ht⟩ : ∃ t, t = receiveSymbols p { start := newFrame, data := [] } (cutArrival p x) := ⟨_, rfl⟩
    have port : t.port p = receiveRun { start := newFrame, data := [] } ((cutArrival p x).port p) := by
      rw [ht, uncut, State.setPort_port]
    have link : ((cutArrival p x).port p).link = (s.port p).link := by rw [cutArrival_linkState, hx, receiveSymbols_linkState]
    have counter (c : Counter) : t.counter c = (cutArrival p x).counter c := by rw [ht, uncut, State.setPort_counter]
    have frame : LinkFrame p s t := by
      rw [ht, hx]
      exact (receiveSymbols_link p run s).trans ((cutArrival_link p _).trans (receiveSymbols_link p _ _))
    have kept : (s.port p).lineKept (t.port p) := by
      have first := receiveSymbols_lineKept p run s
      unfold Port.lineKept at first ⊢
      rw [port]
      unfold receiveRun
      dsimp only
      rw [cutArrival_port, hx, first]
    have window := cutArrival_window p x
    refine ⟨t, by rw [ht, hx]; rfl, frame, kept, ?_, fun none_ => ⟨fun k => ?_, ?_⟩, fun r cause some_ which => ⟨?_, fun k other => ?_, ?_, ?_⟩⟩
    · rw [port, receiveRun_reception, link, cutArrival_rx]
      by_cases receives : (s.port p).link = .up ∨ (s.port p).link = .farFault
      · rw [if_pos receives]
        exact if_congr (and_iff_left ((receives_iff _).mpr receives)).symm rfl rfl
      · rw [if_neg receives, if_neg (fun both => receives ((receives_iff _).mp both.2))]
    · rw [counter, cutArrival_none none_]
    · rw [port]
      exact congrArg (fun u : State => (u.port p).windowErrors) (cutArrival_none none_)
    · rw [counter, cutArrival_counter _ _ rfl, if_pos ⟨r, some_, by rw [which]; rfl⟩]
    · rw [counter, cutArrival_counter _ _ rfl, if_neg]
      rintro ⟨r', same, counted⟩
      obtain rfl : r = r' := Option.some.inj (some_.symm.trans same)
      exact other (by rw [which]; injection counted)
    · rw [port]
      exact window.1.trans (if_neg (by rw [some_]; exact Option.some_ne_none r))
    · rw [port]
      exact window.2.trans (if_neg (by rw [some_]; exact Option.some_ne_none r))
  · rw [hx] at rx
    have receives : (s.port p).link.receives = true := by
      have working := receiveSymbols_working p run s (by rw [rx]; exact Option.some_ne_none r)
      rwa [receiveSymbols_linkState] at working
    obtain ⟨link, none_, invalid, window, degraded, threshold⟩ := frameTaken_port p run s receives
    have arrives : frameArrival p run .complete s = countErrored p (bump (.error p cause) (frameTaken p run s)) := by
      rw [frameArrival_complete rx]
      unfold completeFrame
      rw [fails]
    have port := countErrored_port p (bump (.error p cause) (frameTaken p run s))
    rw [bump_port] at port
    refine ⟨_, congrArg Host.Outcome.next arrives,
      (frameTaken_link p run s).trans ((bump_link p _ _ (.inr (by simp [Counter.ofLine]))).trans (countErrored_link p _)), ?_, ?_, ?_, ?_,
      fun k other => ?_, ?_, ?_⟩
    · rw [port]; exact none_
    · rw [port]; exact link
    · rw [port]; exact invalid
    · rw [countErrored_counter _ _ rfl, counter_bump_self, frameTaken_counter _ _ _ rfl, hx]
    · rw [countErrored_counter _ _ rfl, counter_bump_of_ne _ (by simpa using Ne.symm other), frameTaken_counter _ _ _ rfl, hx]
    · rw [port, hx, ← window]
    · rw [port, hx, ← window, ← degraded, ← threshold]

/-! ### The monitoring window -/

/-- A change of the line's part of a port, made before and after a step that notices and replies may do. -/
theorem QuietFrame.modPort_window {s t : State} (h : QuietFrame s t) (p : PortId) (n : Nat) (w : Option Nat) :
    QuietFrame (s.modPort p (fun x => { x with windowErrors := n, windowTimer := w }))
      (t.modPort p (fun x => { x with windowErrors := n, windowTimer := w })) := by
  have pn := congrArg (fun x : Port => { x with windowErrors := n, windowTimer := w }) h.pn
  have ps := congrArg (fun x : Port => { x with windowErrors := n, windowTimer := w }) h.ps
  cases p with
  | north =>
    exact ⟨⟨⟨h.pending, h.nodeId, h.fwd, h.merge, h.engine, h.agent, pn, h.ps, h.counts⟩, h.sup, h.tables, h.tracker, h.pace, h.gates⟩,
      h.channels, h.timed, h.notes⟩
  | south =>
    exact ⟨⟨⟨h.pending, h.nodeId, h.fwd, h.merge, h.engine, h.agent, h.pn, ps, h.counts⟩, h.sup, h.tables, h.tracker, h.pace, h.gates⟩,
      h.channels, h.timed, h.notes⟩

/-- Settles O20, by whether DEGRADED is cleared. -/
theorem monitoringWindowEnds : Obligations.MonitoringWindowEnds := by
  unfold Obligations.MonitoringWindowEnds
  intro p s clean hclean
  refine ⟨fun runs => ?_, fun stopped => congrArg Host.Outcome.next (if_neg (by simp [stopped]))⟩
  obtain ⟨u, hu⟩ : ∃ u, u = s.modPort p (fun x => { x with cleanRun := clean }) := ⟨_, rfl⟩
  have port : u.port p = { s.port p with cleanRun := clean } := by rw [hu, State.modPort_port]
  have expires : windowExpiry p s = (if ((u.port p).degraded && decide (8 ≤ (u.port p).cleanRun)) = true then setDegraded p false u else u).modPort p
      (fun x => { x with windowErrors := 0, windowTimer := some windowClocks }) := by
    rw [hu, hclean]
    exact if_pos runs
  rw [port] at expires
  refine ⟨windowExpiry p s, rfl, ?_⟩
  rw [expires]
  by_cases clears : ((s.port p).degraded && decide (8 ≤ clean)) = true
  · obtain ⟨was, full⟩ := (Bool.and_eq_true _ _).mp clears
    have told : QuietFrame (u.modPort p (fun x => { x with degraded := false })) (setDegraded p false u) := by
      unfold setDegraded
      rw [port, if_neg (by rw [was]; decide)]
      exact raise_quiet ..
    rw [if_pos clears]
    have start : s.setPort p { s.port p with cleanRun := clean, degraded := (s.port p).degraded && !decide (8 ≤ clean), windowErrors := 0, windowTimer := some 25000 }
        = (u.modPort p (fun x => { x with degraded := false })).modPort p (fun x => { x with windowErrors := 0, windowTimer := some windowClocks }) := by
      rw [hu, full, Bool.not_true, Bool.and_false]
      cases p <;> rfl
    rw [start]
    exact told.modPort_window p 0 _
  · have kept : ((s.port p).degraded && !decide (8 ≤ clean)) = (s.port p).degraded := by
      cases was : (s.port p).degraded with
      | false => rfl
      | true => rw [was, Bool.true_and] at clears; simpa using clears
    have start : s.setPort p { s.port p with cleanRun := clean, degraded := (s.port p).degraded && !decide (8 ≤ clean), windowErrors := 0, windowTimer := some 25000 }
        = u.modPort p (fun x => { x with windowErrors := 0, windowTimer := some windowClocks }) := by
      rw [hu, kept]
      cases p <;> rfl
    rw [if_neg clears, start]
    exact .refl _

end Sys2Proof.Machine
end

section
/-! A port that stops being transmit-ready (R19, R34): what the flush counts and reports, and what the supervisor's response leaves of it. -/

namespace Sys2Proof.Machine

/-! ### Predicates that the supervisor's moves keep -/

/-- The predicate P is kept by notices, by the counts of the supervisor, by its moves out of RUNNING and HOLDING, and by the updates of its own
record that leave the last pass number, of the table store, of the pace generator, and of the tracker as an activation makes them (R75, R84). -/
structure MoveStable (P : State → Prop) : Prop where
  raise : ∀ n d s, P s → P (raise n d s)
  bump : ∀ c s, c = .blockEntries ∨ c = .trips → P s → P (bump c s)
  move : ∀ new c v s, new.fires = false → P s → P (moveTo new c v s)
  sup : ∀ s u, u.lastPass = s.sup.lastPass → P s → P (s.setSup u)
  tables : ∀ s t, P s → P (s.setTables t)
  tracker : ∀ s t, (t = s.tracker.setFree ∨ ∃ b, t = { s.tracker with nextBoundary := b }) → P s → P (s.setTracker t)
  pace : ∀ s x, P s → P (s.setPace x)

namespace MoveStable
variable {P : State → Prop} (k : MoveStable P)
include k

theorem raiseIf (b : Bool) (n : SourceId) (d : Word) (s : State) (h : P s) : P (raiseIf b n d s) :=
  ite_keeps b (fun _ => k.raise n d s h) (fun _ => h)

theorem setItems (f : Permissives → Permissives) (s : State) (h : P s) : P (setItems f s) := k.sup s _ rfl h

theorem evalOff (s : State) (h : P s) : P (evalOff s) := ite_keeps _ (fun _ => k.move _ _ _ s rfl h) (fun _ => h)

theorem recordResult (id : TableId) (n : CommitState) (r : CommitResult) (f : Nat) (s : State) (h : P s) :
    P (recordResult id n r f s) := k.raise _ _ _ (k.tables s _ h)

theorem applyFnChange (s : State) (h : P s) : P (applyFnChange s) := by
  have retimed : P ((s.setPace (s.pace.retime (pFn s.par))).setTracker s.tracker.setFree) := k.tracker _ _ (.inl rfl) (k.pace s _ h)
  exact ite_keeps _ (fun _ => retimed) (fun _ => k.evalOff _ (k.setItems _ _ (k.raise _ _ _ retimed)))

theorem activationEffects (before : ParamRecord) (s : State) (h : P s) : P (activationEffects before s) := by
  have fn : P (if pFn before == pFn s.par then s else Machine.applyFnChange s) := ite_keeps _ (fun _ => h) (fun _ => k.applyFnChange s h)
  exact ite_keeps _ (fun _ => fn) (fun _ => k.tracker _ _ (.inr ⟨_, rfl⟩) fn)

theorem activateParams (s : State) (h : P s) : P (activateParams s) :=
  k.evalOff _ (k.setItems _ _ (k.activationEffects _ _ (k.recordResult _ _ _ _ _ (k.tables s _ h))))

theorem activateIfPending (id : TableId) (s : State) (h : P s) : P (activateIfPending id s) := by
  refine ite_keeps _ (fun _ => ?_) (fun _ => h)
  cases id with
  | angle => exact k.evalOff _ (k.setItems _ _ (k.recordResult _ _ _ _ _ (k.tables s _ h)))
  | reference => exact k.recordResult _ _ _ _ _ (k.tables s _ h)
  | parameters => exact ite_keeps _ (fun _ => k.activateParams s h) (fun _ => k.recordResult _ _ _ _ s h)

theorem idleTest (s : State) (h : P s) : P (idleTest s) :=
  ite_keeps _ (fun _ => k.activateIfPending _ _ (k.activateIfPending _ _ (k.activateIfPending _ s h))) (fun _ => h)

theorem enterOff (c : Cause) (s : State) (h : P s) : P (enterOff c s) := k.evalOff _ (k.idleTest _ (k.move _ _ _ s rfl h))

theorem updateItems (f : Permissives → Permissives) (s : State) (h : P s) : P (updateItems f s) := by
  have set := k.setItems f s h
  unfold Machine.updateItems evaluate
  split
  · exact k.evalOff _ set
  · exact ite_keeps _ (fun _ => set) (fun _ => k.enterOff _ _ set)
  · exact set

theorem blockEntry (c : Cause) (v : ValveId) (s : State) (h : P s) : P (blockEntry c v s) := by
  have counted := k.bump .blockEntries _ (.inl rfl) (k.sup s { s.sup with
    history := appendHistory s.sup.history (blockHistoryEntry c v s), holding := 0, ramp := false } rfl h)
  unfold Machine.blockEntry
  dsimp only
  split
  · exact k.raise _ _ _ (k.move _ _ _ _ rfl (k.bump _ _ (.inr rfl) (k.sup _ _ rfl counted)))
  · exact k.move _ _ _ _ rfl (k.sup _ _ rfl counted)

theorem protectiveEvent (c : Cause) (v : ValveId) (s : State) (h : P s) : P (protectiveEvent c v s) := by
  unfold Machine.protectiveEvent
  split
  · exact k.blockEntry c v s h
  · exact k.blockEntry c v s h
  · exact k.sup s _ rfl h
  · exact h

theorem psChanged (old new : LinkState) (s : State) (h : P s) : P (psChanged old new s) :=
  ite_keeps _ (fun _ => k.protectiveEvent _ _ _ (k.updateItems _ s h)) (fun _ => k.updateItems _ s h)

/-- A change of a port's state keeps P from its flush on. -/
theorem changeLink {p : PortId} {new : LinkState} {s : State}
    (degraded : ∀ s, P s → P (s.modPort p (fun x => { x with degraded := false })))
    (left : ∀ s, P s → P (s.modPort p (fun x => { x with windowTimer := none, rx := none, paceRequest := none })))
    (start : P (flushIfLost (s.port p).transmitReady p (s.modPort p (fun x => x.enter new)))) : P (changeLink p new s) := by
  have told := k.raiseIf ((s.port p).link != new) (srcPortState p) (linkDetail (s.port p).link new) _ start
  have leaves (s : State) (h : P s) : P (leaveWorking p s) := left _ (ite_keeps _ (fun _ => h) (fun _ => k.raise _ _ _ (degraded s h)))
  have stopped := ite_keeps ((s.port p).link.receives && !new.receives) (fun _ => leaves _ told) (fun _ => told)
  exact iteInduction (fun _ => k.psChanged _ _ _ stopped) (fun _ => stopped)

end MoveStable

/-- A predicate that gate commands and a purge keep, and that looks at no other block, is kept by the supervisor's moves. -/
theorem MoveStable.of_gateStable {P : State → Prop} (k : GateStable P) (purged : ∀ s, P s → P (purgeQueue s))
    (sup : ∀ s u, P s → P (s.setSup u)) (tables : ∀ s t, P s → P (s.setTables t)) (tracker : ∀ s t, P s → P (s.setTracker t))
    (pace : ∀ s x, P s → P (s.setPace x)) : MoveStable P where
  raise := k.raise
  bump c s _ h := k.bump c s h
  move new c v s stops h := by
    have entered := k.raise srcOperatingState (moveDetail s.sup.state new c v) (enterState new s) (sup s _ h)
    unfold moveTo moveConsequences
    dsimp only
    split
    · cases stops
    · cases stops
    · exact ite_keeps _ (fun _ => k.reportPurged _ _ (k.blockAll _ (purged _ entered))) (fun _ => k.blockAll _ entered)
  sup s u _ h := sup s u h
  tables := tables
  tracker s t _ h := tracker s t h
  pace := pace

/-! ### A port without frames -/

/-- The port holds no frame and takes none. -/
def Port.idleDown (x : Port) : Prop := x.transmitReady = false ∧ x.isFlushed

theorem Port.flushed_isFlushed (x : Port) : x.flushed.isFlushed := ⟨rfl, rfl, rfl, rfl, rfl, rfl, rfl, rfl⟩

theorem purgeQueue_nil {s : State} (empty : s.ps.timed = []) : purgeQueue s = s := by
  have same : s.ps.timed.filterMap purgeFrame = s.ps.timed := by
    rw [empty]
    rfl
  show { s with ps := { s.ps with timed := s.ps.timed.filterMap purgeFrame } } = s
  rw [same]

theorem moveStable_idleDown (p : PortId) : MoveStable (fun s => (s.port p).idleDown) := by
  have kept (f : State → State) (s : State) (same : (f s).port p = s.port p) (h : (s.port p).idleDown) : ((f s).port p).idleDown := same ▸ h
  refine .of_gateStable ⟨fun s cs h => h, fun s n e h => h, fun s q c f _ placed h => ?_, fun s c q _ joined h => ?_, fun s v c _ _ h => h⟩
    (fun s h => ?_) (fun _ _ h => h) (fun _ _ h => h) (fun _ _ h => h) (fun _ _ h => h)
  · by_cases same : q = p
    · subst same
      have ready := (offerOutcome_placed_iff.mp placed).1
      rw [h.1] at ready
      cases ready
    · rwa [State.modPort_port_ne _ _ (Ne.symm same)]
  · cases p with
    | north => exact h
    | south =>
      have empty : s.ps.timed = [] := h.2.1
      rw [empty] at joined
      cases joined
  · cases p with
    | north => exact h
    | south => rwa [purgeQueue_nil h.2.1]

/-- A change of state that ends transmit readiness leaves the port without frames (R19, R34). -/
theorem changeLink_idleDown {p : PortId} {new : LinkState} {s : State} (ready : (s.port p).transmitReady = true)
    (lost : ((s.port p).enter new).transmitReady = false) : ((changeLink p new s).port p).idleDown := by
  have line (s : State) (f : Port → Port) (same : ∀ x, (f x).transmitReady = x.transmitReady ∧ ((f x).isFlushed ↔ x.isFlushed))
      (h : (s.port p).idleDown) : ((s.modPort p f).port p).idleDown := by
    rw [State.modPort_port]
    exact ⟨(same _).1.trans h.1, (same _).2.mpr h.2⟩
  refine (moveStable_idleDown p).changeLink (fun s h => line s _ (fun _ => ⟨rfl, Iff.rfl⟩) h)
    (fun s h => line s _ (fun _ => ⟨rfl, Iff.rfl⟩) h) ?_
  rw [flushIfLost_self, State.modPort_port, ready, lost]
  exact ⟨lost, Port.flushed_isFlushed _⟩

/-! ### Counters that notices, or all of the supervisor's response, leave -/

/-- The counters that an event raised may count: a lost NOTICE and the notice unit's own (R31, R206). -/
def Counter.byRaise : Counter → Bool
  | .overflow _ .access => true
  | .notReady _ .access => true
  | .noticesQueued => true
  | .noticesNotQueued => true
  | _ => false

theorem raise_counter (n : SourceId) (d : Word) (s : State) {c : Counter} (h : c.byRaise = false) : (raise n d s).counter c = s.counter c := by
  have other {k : Counter} (told : k.byRaise = true) : k ≠ c := fun same => by rw [same, h] at told; cases told
  have offered (f : Frame) : (offerQuiet (s.notices[n]).route .access f s).counter c = s.counter c := by
    unfold offerQuiet
    split
    · exact State.modPort_counter ..
    · exact counter_bump_of_ne _ (other rfl)
    · exact counter_bump_of_ne _ (other rfl)
  unfold raise
  dsimp only
  split
  · split
    · rfl
    · unfold sendNotice
      dsimp only
      split
      · rw [counter_bump_of_ne _ (other rfl), State.setNotice_counter, offered]
      · rw [counter_bump_of_ne _ (other rfl), State.setNotice_counter, offered]
  · rfl

/-- The counter c reads k, and events raised leave it: no event counts there, or every source is disabled. -/
structure Spares (c : Counter) (k : Word) (s : State) : Prop where
  told : c.byRaise = true → ∀ n : SourceId, (s.notices[n]).enable = false
  reads : s.counter c = k

namespace Spares
variable {c : Counter} {k : Word} {s : State}

theorem raise (h : Spares c k s) (n : SourceId) (d : Word) : Spares c k (raise n d s) := by
  cases told : c.byRaise with
  | true => rwa [raise_disabled (h.told told n)]
  | false => exact ⟨fun on => Bool.noConfusion (told.symm.trans on), (raise_counter n d s told).trans h.reads⟩

theorem raiseIf (h : Spares c k s) (b : Bool) (n : SourceId) (d : Word) : Spares c k (raiseIf b n d s) :=
  ite_keeps (P := Spares c k) b (fun _ => h.raise n d) (fun _ => h)

theorem bump (h : Spares c k s) {d : Counter} (other : d ≠ c) : Spares c k (bump d s) :=
  ⟨h.told, (counter_bump_of_ne _ other).trans h.reads⟩

theorem modPort (h : Spares c k s) (p : PortId) (f : Port → Port) : Spares c k (s.modPort p f) := by
  refine ⟨fun on n => ?_, (State.modPort_counter ..).trans h.reads⟩
  rw [State.modPort_notices]
  exact h.told on n

theorem countReport (h : Spares c k s) (own : ∀ v n, c ≠ .channel v n) (v : ValveId) (r : FireReport) : Spares c k (countReport v r s) := by
  cases r with
  | sent => exact h.bump (Ne.symm (own v 0))
  | sentLate => exact (h.bump (Ne.symm (own v 0))).bump (Ne.symm (own v 1))
  | skipped => exact h.bump (Ne.symm (own v 2))
  | notSent => exact h.bump (Ne.symm (own v 3))

theorem reportFire (h : Spares c k s) (own : ∀ v n, c ≠ .channel v n) (g : GateCommand) (r : FireReport) : Spares c k (reportFire g r s) := by
  unfold Machine.reportFire
  dsimp only
  refine Spares.countReport (s := _) ?_ own g.valve r
  split
  · exact ⟨h.told, h.reads⟩
  · exact h

theorem reportNotSent (h : Spares c k s) (own : ∀ v n, c ≠ .channel v n) (g : GateCommand) : Spares c k (reportNotSent g s) := by
  unfold Machine.reportNotSent
  split
  · exact h.reportFire own g _
  · exact h.bump (Ne.symm (own _ _))

end Spares

/-- A counter that neither gate commands and their reports nor the supervisor's counts reach. -/
structure Counter.Aside (c : Counter) : Prop where
  full : c ≠ .overflow .south .timed
  lost : c ≠ .notReady .south .timed
  own : ∀ v n, c ≠ .channel v n
  entries : c ≠ .blockEntries
  trips : c ≠ .trips

theorem Spares.issueGate {c : Counter} {k : Word} {s : State} (h : Spares c k s) (aside : c.Aside) (g : GateCommand) :
    Spares c k (issueGate g s) := by
  have quiet (f : Frame) : Spares c k (offerQuiet .south .timed f s) := by
    unfold offerQuiet
    split
    · exact h.modPort _ _
    · exact h.bump (Ne.symm aside.lost)
    · exact h.bump (Ne.symm aside.full)
  have offered (f : Frame) : Spares c k (offer .south .timed f s) := by
    unfold offer
    split
    · exact (quiet f).raiseIf _ _ _
    · exact quiet f
  unfold Machine.issueGate
  split
  · exact (offered _).reportNotSent aside.own g
  · split
    · exact h.modPort _ _
    · split
      · exact offered _
      · exact ((offered _).reportNotSent aside.own g).raiseIf _ _ _

theorem Spares.blockAll {c : Counter} {k : Word} {s : State} (h : Spares c k s) (aside : c.Aside) : Spares c k (blockAll s) := by
  refine foldl_keeps (P := Spares c k) _ (fun t v h => ?_) _ s h
  refine ite_keeps (P := Spares c k) _ (fun _ => h) (fun _ => ?_)
  exact ⟨(h.issueGate aside _).told, (h.issueGate aside _).reads⟩

theorem moveStable_spares {c : Counter} (k : Word) (aside : c.Aside) : MoveStable (Spares c k) where
  raise n d _ h := h.raise n d
  bump d s which h := h.bump (by rcases which with rfl | rfl; exacts [Ne.symm aside.entries, Ne.symm aside.trips])
  move new cause v s stops h := by
    have entered : Spares c k (enterState new s) := ⟨h.told, h.reads⟩
    have told := entered.raise srcOperatingState (moveDetail s.sup.state new cause v)
    unfold moveTo moveConsequences
    dsimp only
    split
    · cases stops
    · cases stops
    · refine ite_keeps (P := Spares c k) _ (fun _ => ?_) (fun _ => told.blockAll aside)
      have purged : Spares c k (purgeQueue (Machine.raise srcOperatingState (moveDetail s.sup.state new cause v) (enterState new s))) :=
        told.modPort _ _
      exact foldl_keeps (P := Spares c k) _ (fun t g h => h.reportFire aside.own g _) _ _ (purged.blockAll aside)
  sup _ _ _ h := ⟨h.told, h.reads⟩
  tables _ _ h := ⟨h.told, h.reads⟩
  tracker _ _ _ h := ⟨h.told, h.reads⟩
  pace _ _ h := ⟨h.told, h.reads⟩

/-- With every channel BLOCKED and no frame waiting at PS, the counter c reads k. -/
structure RestingAt (c : Counter) (k : Word) (s : State) : Prop where
  empty : s.ps.timed = []
  blocked : ∀ v : ValveId, (s.channel v).state = .blocked
  spared : Spares c k s

theorem blockAll_of_blocked {s : State} (blocked : ∀ v : ValveId, (s.channel v).state = .blocked) : blockAll s = s :=
  foldl_keeps (P := fun t => t = s) _ (fun t v same => by rw [same]; exact if_pos (by rw [blocked v]; rfl)) _ s rfl

theorem moveStable_restingAt {c : Counter} (k : Word) (entries : c ≠ .blockEntries) (trips : c ≠ .trips) :
    MoveStable (RestingAt c k) := by
  have raised (n : SourceId) (d : Word) (s : State) (h : RestingAt c k s) : RestingAt c k (raise n d s) := by
    have quiet := raise_quiet n d s
    exact ⟨quiet.timed.trans h.empty, fun v => by rw [quiet.channel]; exact h.blocked v, h.spared.raise n d⟩
  have same {s t : State} (h : RestingAt c k s) (timed : t.ps.timed = s.ps.timed) (channels : t.channels = s.channels)
      (notices : t.notices = s.notices) (counter : t.counter c = s.counter c) : RestingAt c k t :=
    ⟨timed.trans h.empty, fun v => (congrArg (fun cs : Vector Channel 6 => cs[v].state) channels).trans (h.blocked v),
      fun on n => notices ▸ h.spared.told on n, counter.trans h.spared.reads⟩
  refine ⟨raised, fun d s which h => ⟨h.empty, h.blocked, h.spared.bump ?_⟩, fun new cause v s stops h => ?_, fun _ _ _ h => same h rfl rfl rfl rfl,
    fun _ _ h => same h rfl rfl rfl rfl, fun _ _ _ h => same h rfl rfl rfl rfl, fun _ _ h => same h rfl rfl rfl rfl⟩
  · rcases which with rfl | rfl
    exacts [Ne.symm entries, Ne.symm trips]
  · have told := raised srcOperatingState (moveDetail s.sup.state new cause v) (enterState new s) (same h rfl rfl rfl rfl)
    unfold moveTo moveConsequences
    dsimp only
    split
    · cases stops
    · cases stops
    · refine ite_keeps (P := RestingAt c k) _ (fun _ => ?_) (fun _ => ?_)
      · have none_ : purgedFires (raise srcOperatingState (moveDetail s.sup.state new cause v) (enterState new s)) = [] := by
          unfold purgedFires
          rw [told.empty]
          rfl
        unfold purgeAndBlock
        rw [none_, purgeQueue_nil told.empty, blockAll_of_blocked told.blocked]
        exact told
      · rw [blockAll_of_blocked told.blocked]
        exact told

/-- A command reported not sent stays so: no move of the supervisor issues a command again (R138, R186). -/
theorem moveStable_notSent (v : ValveId) : MoveStable (fun s => (s.channel v).outcome = .notSent ∧ (s.channel v).state ≠ .issued) where
  raise n d s h := by rwa [(raise_quiet n d s).channel]
  bump _ _ _ h := h
  move new c w s stops h := by
    rw [moveTo_channel stops]
    exact ⟨h.1, by simp⟩
  sup _ _ _ h := h
  tables _ _ h := h
  tracker _ _ _ h := h
  pace _ _ h := h

end Sys2Proof.Machine
end

section
/-! LOSS_OF_SIGNAL, LOSS_OF_ALIGNMENT and marks at a port that was transmit-ready, RETRAIN (R17, R19, R34). -/

namespace Sys2Proof.Machine

/-! ### What a flush counts -/

theorem countDrops_counter (p : PortId) (c : TxClass) (q : List Frame) (s : State) (d : Counter) : (countDrops p c q s).counter d
    = if d = .notReady p c then s.counter d + BitVec.ofNat 32 q.length else s.counter d := by
  unfold countDrops
  induction q generalizing s with
  | nil => simp
  | cons f q ih =>
    rw [List.foldl_cons, ih]
    by_cases same : d = .notReady p c
    · subst same
      rw [if_pos rfl, if_pos rfl, counter_bump_self, List.length_cons, BitVec.add_assoc, Nat.add_comm q.length, BitVec.ofNat_add]
      rfl
    · rw [if_neg same, if_neg same, counter_bump_of_ne _ (Ne.symm same)]

theorem reportNotSent_counter (g : GateCommand) (s : State) (d : Counter) : (reportNotSent g s).counter d
    = if d = .channel g.valve 3 then s.counter d + 1 else s.counter d := by
  have counted (u : State) (same : ∀ c, u.counter c = s.counter c) : (bump (.channel g.valve 3) u).counter d
      = if d = .channel g.valve 3 then s.counter d + 1 else s.counter d := by
    by_cases this : d = .channel g.valve 3
    · rw [if_pos this, this, counter_bump_self, same]
    · rw [if_neg this, counter_bump_of_ne _ (Ne.symm this), same]
  unfold reportNotSent
  split
  · unfold reportFire
    dsimp only
    refine counted _ (fun c => ?_)
    split <;> rfl
  · exact counted s (fun _ => rfl)

/-- The commands of a list reported not sent count once each at their valve (R138, R151). -/
theorem foldl_reportNotSent_counter (gs : List GateCommand) (s : State) (v : ValveId) :
    (gs.foldl (fun s g => reportNotSent g s) s).counter (.channel v 3)
      = s.counter (.channel v 3) + BitVec.ofNat 32 (gs.filter (fun g => g.valve = v)).length := by
  induction gs generalizing s with
  | nil => simp
  | cons g gs ih =>
    rw [List.foldl_cons, ih, reportNotSent_counter]
    by_cases same : g.valve = v
    · rw [if_pos (by rw [same]), List.filter_cons_of_pos (by simpa using same), List.length_cons, BitVec.add_assoc,
        Nat.add_comm (List.length _), BitVec.ofNat_add]
      rfl
    · rw [if_neg (by simpa using Ne.symm same), List.filter_cons_of_neg (by simpa using same)]

theorem foldl_reportNotSent_other (gs : List GateCommand) (s : State) {d : Counter} (other : ∀ v, d ≠ .channel v 3) :
    (gs.foldl (fun s g => reportNotSent g s) s).counter d = s.counter d :=
  foldl_keeps (P := fun t => t.counter d = s.counter d) _
    (fun t g h => by rw [reportNotSent_counter, if_neg (other _)]; exact h) gs s rfl

/-- A FIRE command reported not sent to a channel in ISSUED whose current command it is: the channel then has that outcome (R138). -/
theorem reportNotSent_current {g : GateCommand} {s : State} (fire : g.code = .fire) (issued : (s.channel g.valve).state = .issued)
    (latest : (s.channel g.valve).latest = g.latest) :
    (reportNotSent g s).channel g.valve = { s.channel g.valve with outcome := .notSent, state := .idle } := by
  unfold reportNotSent reportFire
  rw [fire]
  dsimp only
  rw [if_pos (by simp [Channel.isCurrent, issued, latest])]
  show (bumpChannel g.valve 3 _).channel g.valve = _
  exact State.channel_setChannel ..

theorem reportNotSent_channel_cases (g : GateCommand) (s : State) (v : ValveId) : (reportNotSent g s).channel v = s.channel v
    ∨ ((reportNotSent g s).channel v = { s.channel v with outcome := .notSent, state := .idle } ∧ (s.channel v).state = .issued) := by
  unfold reportNotSent
  split
  · unfold reportFire
    dsimp only
    split
    · next current =>
      by_cases same : v = g.valve
      · subst same
        have issued : (s.channel g.valve).state = .issued := by
          simp only [Channel.isCurrent, Bool.and_eq_true, beq_iff_eq] at current
          exact current.1
        exact .inr ⟨State.channel_setChannel .., issued⟩
      · exact .inl (State.channel_setChannel_ne _ _ same)
    · exact .inl rfl
  · exact .inl rfl

/-- Among the commands of a list, a FIRE command that is a channel's current one takes its channel out of ISSUED with outcome NOT_SENT. -/
theorem foldl_reportNotSent_outcome {gs : List GateCommand} {g : GateCommand} (mem : g ∈ gs) (fire : g.code = .fire) {s : State}
    (issued : (s.channel g.valve).state = .issued) (latest : (s.channel g.valve).latest = g.latest) :
    ((gs.foldl (fun s g => reportNotSent g s) s).channel g.valve).outcome = .notSent
      ∧ ((gs.foldl (fun s g => reportNotSent g s) s).channel g.valve).state ≠ .issued := by
  have stays (gs : List GateCommand) (s : State) (h : (s.channel g.valve).outcome = .notSent ∧ (s.channel g.valve).state ≠ .issued) :
      ((gs.foldl (fun s g => reportNotSent g s) s).channel g.valve).outcome = .notSent
        ∧ ((gs.foldl (fun s g => reportNotSent g s) s).channel g.valve).state ≠ .issued := by
    refine foldl_keeps (P := fun t => (t.channel g.valve).outcome = .notSent ∧ (t.channel g.valve).state ≠ .issued) _
      (fun t f h => ?_) gs s h
    rcases reportNotSent_channel_cases f t g.valve with same | ⟨-, was⟩
    · rwa [same]
    · exact absurd was h.2
  induction gs generalizing s with
  | nil => cases mem
  | cons f gs ih =>
    rw [List.foldl_cons]
    rcases List.mem_cons.mp mem with rfl | later
    · exact stays gs _ (by rw [reportNotSent_current fire issued latest]; exact ⟨rfl, by simp⟩)
    · rcases reportNotSent_channel_cases f s g.valve with same | ⟨reported, -⟩
      · exact ih later (by rw [same]; exact issued) (by rw [same]; exact latest)
      · exact stays gs _ (by rw [reported]; exact ⟨rfl, by simp⟩)

theorem foldl_reportFrame (fs : List Frame) (s : State) : fs.foldl (fun s f => reportFrameNotSent f s) s
    = (fs.flatMap Frame.commands).foldl (fun s g => reportNotSent g s) s := by
  rw [List.foldl_flatMap]
  congr 1
  funext s f
  cases f <;> rfl

/-- The state of a flush before its gate commands are reported: the port flushed, the drops counted (R19). -/
def flushCounted (p : PortId) (s : State) : State :=
  let x := s.port p
  let abandoned := match x.tx with
    | some t => bump (.notReady p t.cls) (s.modPort p Port.flushed)
    | none => s.modPort p Port.flushed
  countDrops p .pass x.pass (countDrops p .measure x.measure (countDrops p .access x.access (countDrops p .timed x.timed abandoned)))

theorem flush_eq (p : PortId) (s : State) : flush p s
    = ((s.port p).frames.flatMap Frame.commands).foldl (fun s g => reportNotSent g s) (flushCounted p s) := foldl_reportFrame _ _

theorem flushCounted_quiet (p : PortId) (s : State) : QuietFrame (s.modPort p Port.flushed) (flushCounted p s) := by
  have drops (u : State) : QuietFrame u (countDrops p .pass (s.port p).pass (countDrops p .measure (s.port p).measure
      (countDrops p .access (s.port p).access (countDrops p .timed (s.port p).timed u)))) :=
    (((countDrops_quiet p _ _ u).trans (countDrops_quiet p _ _ _)).trans (countDrops_quiet p _ _ _)).trans (countDrops_quiet p _ _ _)
  unfold flushCounted
  dsimp only
  refine QuietFrame.trans ?_ (drops _)
  split
  · exact bump_quiet _ _ rfl
  · exact .refl _

theorem flushCounted_channel (p : PortId) (s : State) (v : ValveId) : (flushCounted p s).channel v = s.channel v :=
  ((flushCounted_quiet p s).channel v).trans (State.modPort_channel ..)

theorem flushCounted_notices (p : PortId) (s : State) : (flushCounted p s).notices = s.notices := by
  have drops (c : TxClass) (q : List Frame) (u : State) : (countDrops p c q u).notices = u.notices :=
    foldl_keeps (P := fun t => t.notices = u.notices) (fun t _ => bump (.notReady p c) t) (fun _ _ h => h) q u rfl
  unfold flushCounted
  dsimp only
  rw [drops, drops, drops, drops]
  split
  · exact State.modPort_notices ..
  · exact State.modPort_notices ..

theorem flushCounted_other (p : PortId) (s : State) {d : Counter} (other : ∀ c, d ≠ .notReady p c) :
    (flushCounted p s).counter d = s.counter d := by
  unfold flushCounted
  dsimp only
  rw [countDrops_counter, if_neg (other _), countDrops_counter, if_neg (other _), countDrops_counter, if_neg (other _), countDrops_counter,
    if_neg (other _)]
  split
  · rw [counter_bump_of_ne _ (Ne.symm (other _)), State.modPort_counter]
  · exact State.modPort_counter ..

/-- Each class counts its frames, the abandoned one included (R19). -/
theorem flushCounted_drops (p : PortId) (s : State) (c : TxClass) : (flushCounted p s).counter (.notReady p c)
    = s.counter (.notReady p c) + BitVec.ofNat 32 ((s.port p).held c) := by
  have queued : (flushCounted p s).counter (.notReady p c) = (match (s.port p).tx with
      | some t => bump (.notReady p t.cls) (s.modPort p Port.flushed)
      | none => s.modPort p Port.flushed).counter (.notReady p c) + BitVec.ofNat 32 ((s.port p).queue c).length := by
    unfold flushCounted
    dsimp only
    rw [countDrops_counter, countDrops_counter, countDrops_counter, countDrops_counter]
    cases c <;> simp [Port.queue]
  rw [queued]
  unfold Port.held
  cases (s.port p).tx with
  | none => simp
  | some t =>
    by_cases same : t.cls = c
    · subst same
      dsimp only
      rw [counter_bump_self, State.modPort_counter, Option.map_some, if_pos rfl, BitVec.add_assoc, Nat.add_comm, BitVec.ofNat_add]
      rfl
    · dsimp only
      rw [counter_bump_of_ne _ (by simpa using same), State.modPort_counter, Option.map_some, if_neg (by simpa using same), Nat.add_zero]

/-- What a flush counts and tells the channels (R19, R138). -/
theorem flush_counts (p : PortId) (s : State) : (∀ c, (flush p s).counter (.notReady p c) = s.counter (.notReady p c) + BitVec.ofNat 32 ((s.port p).held c))
    ∧ (∀ v : ValveId, (flush p s).counter (.channel v 3) = s.counter (.channel v 3)
        + BitVec.ofNat 32 (((s.port p).frames.flatMap Frame.commands).filter (fun g => g.valve = v)).length)
    ∧ (∀ g ∈ (s.port p).frames.flatMap Frame.commands, g.code = .fire → (s.channel g.valve).state = .issued →
        (s.channel g.valve).latest = g.latest →
        ((flush p s).channel g.valve).outcome = .notSent ∧ ((flush p s).channel g.valve).state ≠ .issued)
    ∧ (∀ v : ValveId, (s.channel v).state = .blocked → (flush p s).channel v = s.channel v)
    ∧ (flush p s).notices = s.notices := by
  rw [flush_eq]
  refine ⟨fun c => ?_, fun v => ?_, fun g mem fire issued latest => ?_, fun v blocked => ?_, ?_⟩
  · rw [foldl_reportNotSent_other _ _ (fun v => by simp), flushCounted_drops]
  · rw [foldl_reportNotSent_counter, flushCounted_other _ _ (fun c => by simp)]
  · exact foldl_reportNotSent_outcome mem fire (by rw [flushCounted_channel]; exact issued) (by rw [flushCounted_channel]; exact latest)
  · refine foldl_keeps (P := fun t => t.channel v = s.channel v) _ (fun t g h => ?_) _ _ (flushCounted_channel p s v)
    rcases reportNotSent_channel_cases g t v with same | ⟨-, issued⟩
    · rw [same, h]
    · rw [h, blocked] at issued; cases issued
  · refine foldl_keeps (P := fun t => t.notices = s.notices) _ (fun t g h => ?_) _ _ ?_
    · rw [← h]
      unfold reportNotSent
      split
      · unfold reportFire countReport
        dsimp only
        split <;> rfl
      · rfl
    · exact flushCounted_notices p s

/-! ### A lost readiness -/

/-- From s to t the port p has stopped being transmit-ready: it is without frames, and its frames are counted and its gate commands told
(R19, R34). -/
structure ReadinessLost (p : PortId) (s t : State) : Prop where
  idle : (t.port p).idleDown
  measure : t.counter (.notReady p .measure) = s.counter (.notReady p .measure) + BitVec.ofNat 32 ((s.port p).held .measure)
  pass : t.counter (.notReady p .pass) = s.counter (.notReady p .pass) + BitVec.ofNat 32 ((s.port p).held .pass)
  gates : (p = .north ∨ ∀ v : ValveId, (s.channel v).state = .blocked) →
    t.counter (.notReady p .timed) = s.counter (.notReady p .timed) + BitVec.ofNat 32 ((s.port p).held .timed)
      ∧ ∀ v : ValveId, t.counter (.channel v 3) = s.counter (.channel v 3)
        + BitVec.ofNat 32 (((s.port p).frames.flatMap Frame.commands).filter (fun g => g.valve = v)).length
  access : (∀ n : SourceId, (s.notices[n]).enable = false) →
    t.counter (.notReady p .access) = s.counter (.notReady p .access) + BitVec.ofNat 32 ((s.port p).held .access)
  told : ∀ g : GateCommand, g ∈ (s.port p).frames.flatMap Frame.commands → g.code = .fire → (s.channel g.valve).state = .issued →
    (s.channel g.valve).latest = g.latest → (t.channel g.valve).outcome = .notSent ∧ (t.channel g.valve).state ≠ .issued

/-- At PN a change of state raises events and tells the supervisor nothing (R172). -/
theorem changeLink_north_counter (new : LinkState) (s : State) {c : Counter} (h : c.byRaise = false) : (changeLink .north new s).counter c
    = (flushIfLost (s.port .north).transmitReady .north (s.modPort .north (fun x => x.enter new))).counter c := by
  have raised (b : Bool) (n : SourceId) (d : Word) (u : State) : (raiseIf b n d u).counter c = u.counter c :=
    ite_keeps (P := fun t => t.counter c = u.counter c) b (fun _ => raise_counter n d u h) (fun _ => rfl)
  have left (u : State) : (leaveWorking .north u).counter c = u.counter c := by
    unfold leaveWorking setDegraded
    rw [State.modPort_counter]
    split
    · rfl
    · rw [raise_counter _ _ _ h, State.modPort_counter]
  unfold changeLink
  dsimp only
  rw [if_neg (by simp)]
  split
  · rw [left, raised]
  · rw [raised]

/-- A change of state that ends transmit readiness (R19). -/
theorem changeLink_readinessLost {p : PortId} {new : LinkState} {s : State} (ready : (s.port p).transmitReady = true)
    (lost : ((s.port p).enter new).transmitReady = false) : ReadinessLost p s (changeLink p new s) := by
  have port : ((s.modPort p (fun x => x.enter new)).port p) = (s.port p).enter new := State.modPort_port ..
  have flushed : flushIfLost (s.port p).transmitReady p (s.modPort p (fun x => x.enter new)) = flush p (s.modPort p (fun x => x.enter new)) := by
    unfold flushIfLost
    rw [port, lost, ready]
    rfl
  obtain ⟨drops, reports, outcome, blocked, notices⟩ := flush_counts p (s.modPort p (fun x => x.enter new))
  rw [← flushed, port] at drops reports outcome
  rw [← flushed] at blocked notices
  simp only [State.modPort_counter, State.modPort_channel, State.modPort_notices] at drops reports outcome blocked notices
  have spared {c : Counter} (told : c.byRaise = true → ∀ n : SourceId, (s.notices[n]).enable = false) (aside : c.Aside) :
      (changeLink p new s).counter c = (flushIfLost (s.port p).transmitReady p (s.modPort p (fun x => x.enter new))).counter c :=
    ((moveStable_spares _ aside).changeLink (fun s h => h.modPort p _) (fun s h => h.modPort p _)
      ⟨fun on n => by rw [notices]; exact told on n, rfl⟩).reads
  refine ⟨changeLink_idleDown ready lost, ?_, ?_, fun where_ => ?_, fun silent => ?_, fun g mem fire issued latest => ?_⟩
  · rw [spared (fun on => by cases on) ⟨by simp, by simp, by simp, by simp, by simp⟩, drops]
    rfl
  · rw [spared (fun on => by cases on) ⟨by simp, by simp, by simp, by simp, by simp⟩, drops]
    rfl
  · have kept {c : Counter} (told : c.byRaise = false) (entries : c ≠ .blockEntries) (trips : c ≠ .trips) : (changeLink p new s).counter c
        = (flushIfLost (s.port p).transmitReady p (s.modPort p (fun x => x.enter new))).counter c := by
      cases p with
      | north => exact changeLink_north_counter new s told
      | south =>
        have still : ∀ v : ValveId, (s.channel v).state = .blocked := where_.resolve_left (by simp)
        refine ((moveStable_restingAt _ entries trips).changeLink (fun s h => ?_) (fun s h => ?_) ⟨?_, fun v => ?_,
          ⟨fun on => Bool.noConfusion (told.symm.trans on), rfl⟩⟩).spared.reads
        · exact ⟨h.empty, h.blocked, h.spared.modPort .south _⟩
        · exact ⟨h.empty, h.blocked, h.spared.modPort .south _⟩
        · have self := flushIfLost_self (s.port .south).transmitReady .south (s.modPort .south (fun x => x.enter new))
          rw [port, ready, lost] at self
          rw [ready]
          exact congrArg Port.timed self
        · rw [blocked v (still v)]
          exact still v
    refine ⟨?_, fun v => ?_⟩
    · rw [kept rfl (by simp) (by simp), drops]
      rfl
    · rw [kept rfl (by simp) (by simp), reports]
      rfl
  · rw [spared (fun _ => silent) ⟨by simp, by simp, by simp, by simp, by simp⟩, drops]
    rfl
  · exact (moveStable_notSent g.valve).changeLink (fun s h => by rwa [State.modPort_channel]) (fun s h => by rwa [State.modPort_channel])
      (outcome g mem fire issued latest)

/-- y is s but for what the line and events raised by it may have changed: of the port p, its frames are those it held. -/
structure FramesKept (p : PortId) (s y : State) : Prop where
  ready : (y.port p).transmitReady = (s.port p).transmitReady
  timed : (y.port p).timed = (s.port p).timed
  measure : (y.port p).measure = (s.port p).measure
  pass : (y.port p).pass = (s.port p).pass
  tx : (y.port p).tx = (s.port p).tx
  access : (y.port p).access.flatMap Frame.commands = (s.port p).access.flatMap Frame.commands
  channels : y.channels = s.channels
  counters : ∀ c : Counter, c.byRaise = false → (∀ q k, c ≠ .error q k) → y.counter c = s.counter c
  silent : (∀ n : SourceId, (s.notices[n]).enable = false) → (y.port p).access = (s.port p).access
    ∧ (∀ n : SourceId, (y.notices[n]).enable = false) ∧ y.counter (.notReady p .access) = s.counter (.notReady p .access)

namespace FramesKept
variable {p : PortId} {s t u : State}

theorem refl (p : PortId) (s : State) : FramesKept p s s :=
  ⟨rfl, rfl, rfl, rfl, rfl, rfl, rfl, fun _ _ _ => rfl, fun silent => ⟨rfl, silent, rfl⟩⟩

theorem trans (h : FramesKept p s t) (k : FramesKept p t u) : FramesKept p s u where
  ready := k.ready.trans h.ready
  timed := k.timed.trans h.timed
  measure := k.measure.trans h.measure
  pass := k.pass.trans h.pass
  tx := k.tx.trans h.tx
  access := k.access.trans h.access
  channels := k.channels.trans h.channels
  counters c told error := (k.counters c told error).trans (h.counters c told error)
  silent quiet := by
    obtain ⟨access, still, counter⟩ := h.silent quiet
    obtain ⟨access', still', counter'⟩ := k.silent still
    exact ⟨access'.trans access, still', counter'.trans counter⟩

/-- A change of the line's part of the port. -/
theorem modPort (p : PortId) (s : State) (f : Port → Port) (same : ∀ x, (f x).transmitReady = x.transmitReady ∧ (f x).timed = x.timed
    ∧ (f x).access = x.access ∧ (f x).measure = x.measure ∧ (f x).pass = x.pass ∧ (f x).tx = x.tx) : FramesKept p s (s.modPort p f) := by
  obtain ⟨ready, timed, access, measure, pass, tx⟩ := same (s.port p)
  have port : (s.modPort p f).port p = f (s.port p) := State.modPort_port ..
  rw [← port] at ready timed access measure pass tx
  exact ⟨ready, timed, measure, pass, tx, by rw [access], State.modPort_channels .., fun c _ _ => State.modPort_counter ..,
    fun quiet => ⟨access, fun n => by rw [State.modPort_notices]; exact quiet n, State.modPort_counter ..⟩⟩

theorem bump (p : PortId) (s : State) (q : PortId) (k : Fin 5) : FramesKept p s (bump (.error q k) s) :=
  ⟨by rw [bump_port], by rw [bump_port], by rw [bump_port], by rw [bump_port], by rw [bump_port], by rw [bump_port], rfl,
    fun c _ error => counter_bump_of_ne _ (Ne.symm (error q k)),
    fun quiet => ⟨by rw [bump_port], quiet, counter_bump_of_ne _ (by simp)⟩⟩

/-- An event raised adds at most a NOTICE frame, which holds no gate command. -/
theorem raise_access (n : SourceId) (d : Word) (s : State) (p : PortId) :
    ((raise n d s).port p).access.flatMap Frame.commands = (s.port p).access.flatMap Frame.commands := by
  have offered (e : PortId) : ((offerQuiet e .access (noticeFrame n 0 d s) s).port p).access.flatMap Frame.commands
      = (s.port p).access.flatMap Frame.commands := by
    unfold offerQuiet
    split
    · by_cases same : p = e
      · subst same
        rw [State.modPort_port]
        show ((s.port p).access ++ [noticeFrame n 0 d s]).flatMap Frame.commands = _
        rw [List.flatMap_append]
        exact List.append_nil _
      · rw [State.modPort_port_ne _ _ same]
    · rw [bump_port]
    · rw [bump_port]
  unfold raise
  dsimp only
  split
  · split
    · rfl
    · unfold sendNotice
      dsimp only
      split
      · rw [bump_port, State.setNotice_port, offered]
      · rw [bump_port, State.setNotice_port, offered]
  · rfl

theorem raise (p : PortId) (n : SourceId) (d : Word) (s : State) : FramesKept p s (raise n d s) := by
  have port := (raise_quiet n d s).port_eq p
  refine ⟨?_, ?_, ?_, ?_, ?_, raise_access n d s p, (raise_quiet n d s).channels, fun c told _ => raise_counter n d s told, fun quiet => ?_⟩
  · rw [port]; rfl
  · rw [port]
  · rw [port]
  · rw [port]
  · rw [port]
  · rw [raise_disabled (quiet n)]
    exact ⟨rfl, quiet, rfl⟩

theorem setDegraded (p : PortId) (v : Bool) (s : State) : FramesKept p s (setDegraded p v s) := by
  have set := modPort p s (fun x => { x with degraded := v }) (fun _ => ⟨rfl, rfl, rfl, rfl, rfl, rfl⟩)
  unfold Machine.setDegraded
  split
  · exact .refl p s
  · exact set.trans (raise p _ _ _)

theorem countErrored (p : PortId) (s : State) : FramesKept p s (countErrored p s) := by
  have counted := modPort p s (fun x => { x with windowErrors := x.windowErrors + 1 }) (fun _ => ⟨rfl, rfl, rfl, rfl, rfl, rfl⟩)
  unfold Machine.countErrored
  dsimp only
  split
  · refine (counted.trans (modPort p _ (fun x => { x with cleanRun := 0 }) (fun _ => ⟨rfl, rfl, rfl, rfl, rfl, rfl⟩))).trans ?_
    exact setDegraded p true _
  · exact counted

theorem cutArrival (p : PortId) (s : State) : FramesKept p s (cutArrival p s) := by
  unfold Machine.cutArrival
  split
  · exact .refl p s
  · exact ((modPort p s (fun x => { x with rx := none }) (fun _ => ⟨rfl, rfl, rfl, rfl, rfl, rfl⟩)).trans (bump p _ _ _)).trans
      (countErrored p _)

theorem receiveSymbols (p : PortId) (run : LineRun) (s : State) : FramesKept p s (receiveSymbols p run s) := by
  unfold Machine.receiveSymbols
  dsimp only
  refine FramesKept.trans ?_ (modPort p _ (receiveRun run) (fun _ => ⟨rfl, rfl, rfl, rfl, rfl, rfl⟩))
  split
  · exact cutArrival p s
  · exact .refl p s

end FramesKept

theorem ReadinessLost.of_kept {p : PortId} {s y t : State} (h : ReadinessLost p y t) (kept : FramesKept p s y) : ReadinessLost p s t := by
  have held (c : TxClass) (other : c ≠ .access) : (y.port p).held c = (s.port p).held c := by
    unfold Port.held
    rw [kept.tx]
    cases c with
    | timed => exact congrArg (fun q : List Frame => q.length + _) kept.timed
    | access => exact absurd rfl other
    | measure => exact congrArg (fun q : List Frame => q.length + _) kept.measure
    | pass => exact congrArg (fun q : List Frame => q.length + _) kept.pass
  have commands : (y.port p).frames.flatMap Frame.commands = (s.port p).frames.flatMap Frame.commands := by
    unfold Port.frames
    simp only [List.flatMap_append, kept.tx, kept.timed, kept.measure, kept.pass, kept.access]
  have channel (v : ValveId) : y.channel v = s.channel v := congrArg (fun cs : Vector Channel 6 => cs[v]) kept.channels
  obtain ⟨idle, measure, pass, gates, access, told⟩ := h
  refine ⟨idle, ?_, ?_, fun where_ => ?_, fun silent => ?_, fun g mem fire issued latest => ?_⟩
  · rw [measure, held _ (by simp), kept.counters _ rfl (by simp)]
  · rw [pass, held _ (by simp), kept.counters _ rfl (by simp)]
  · obtain ⟨timed, reports⟩ := gates (where_.imp id (fun still v => by rw [channel]; exact still v))
    refine ⟨?_, fun v => ?_⟩
    · rw [timed, held _ (by simp), kept.counters _ rfl (by simp)]
    · rw [reports, commands, kept.counters _ rfl (by simp)]
  · obtain ⟨same, still, counter⟩ := kept.silent silent
    have queued : (y.port p).held .access = (s.port p).held .access := by
      unfold Port.held
      rw [kept.tx]
      exact congrArg (fun q : List Frame => q.length + _) same
    rw [access still, counter, queued]
  · exact told g (by rw [commands]; exact mem) fire (by rw [channel]; exact issued) (by rw [channel]; exact latest)

theorem ReadinessLost.seekAgain {p : PortId} {s y : State} (h : ReadinessLost p s (changeLink p .seeking y)) :
    ReadinessLost p s (seekAgain p y) := by
  obtain ⟨idle, measure, pass, gates, access, told⟩ := h
  refine ⟨by rw [seekAgain_port]; exact idle, ?_, ?_, fun where_ => ?_, fun silent => ?_, fun g mem fire issued latest => ?_⟩
  · exact (State.modPort_counter ..).trans measure
  · exact (State.modPort_counter ..).trans pass
  · obtain ⟨timed, reports⟩ := gates where_
    exact ⟨(State.modPort_counter ..).trans timed, fun v => (State.modPort_counter ..).trans (reports v)⟩
  · exact (State.modPort_counter ..).trans (access silent)
  · unfold Machine.seekAgain
    rw [State.modPort_channel]
    exact told g mem fire issued latest

/-- Settles O18: each event cuts the frame in reception and then changes the state of the port. -/
theorem losingReadinessFlushes : Obligations.LosingReadinessFlushes := by
  unfold Obligations.LosingReadinessFlushes
  rintro p s x c rfl ready which
  have working : (s.port p).link = .up ∨ (s.port p).link = .farFault := by
    simp only [Port.transmitReady, Bool.or_eq_true, beq_iff_eq, Bool.and_eq_true] at ready
    exact ready.imp id And.left
  have received (run : LineRun) := FramesKept.receiveSymbols p run s
  suffices lost : ∃ t, exec c s = .next t ∧ ReadinessLost p s t by
    obtain ⟨t, runs, idle, measure, pass, gates, access, told⟩ := lost
    exact ⟨t, runs, idle.2, measure, pass, gates, access, told⟩
  have cutRun (run : LineRun) (n : Nat) : FramesKept p s (cutArrival p ((receiveSymbols p run s).modPort p (fun y => { y with invalidRun := n }))) :=
    ((received run).trans (.modPort p _ (fun y => { y with invalidRun := n }) (fun _ => ⟨rfl, rfl, rfl, rfl, rfl, rfl⟩))).trans (.cutArrival p _)
  rcases which with ⟨run, rfl⟩ | ⟨run, rfl⟩ | ⟨run, rfl⟩ | ⟨up, oneWay, run, rfl⟩
  · have kept : FramesKept p s (silenced p (receiveSymbols p run s)) :=
      ((received run).trans (.cutArrival p _)).trans (.modPort p _ (fun y => { y with signal := false }) (fun _ => ⟨rfl, rfl, rfl, rfl, rfl, rfl⟩))
    have silent : ((silenced p (receiveSymbols p run s)).port p).signal = false := by rw [silenced_port]
    have down : loseSignal p (receiveSymbols p run s) = changeLink p .down (silenced p (receiveSymbols p run s)) := by
      rw [loseSignal_eq, receiveSymbols_linkState, ← goDown_silent silent]
      rcases working with h | h <;> rw [h]
    exact ⟨_, congrArg Host.Outcome.next down, (changeLink_readinessLost (kept.ready.trans ready) rfl).of_kept kept⟩
  · have aligned : (s.port p).link.isAligned = true := (isAligned_iff _).mpr (.inr working)
    have lost : alignmentLost p (receiveSymbols p run s)
        = seekAgain p (cutArrival p ((receiveSymbols p run s).modPort p (fun y => { y with invalidRun := 16 }))) := by
      unfold alignmentLost loseAlignment
      rw [receiveSymbols_linkState, if_pos aligned, State.modPort_port, receiveSymbols_linkState]
      exact if_pos aligned
    exact ⟨_, congrArg Host.Outcome.next lost,
      ((changeLink_readinessLost ((cutRun run 16).ready.trans ready) rfl).of_kept (cutRun run 16)).seekAgain⟩
  · have met := markMet_cut (p := p) (m := .train false) (by simp) (receiveSymbols p run s)
    have kept := cutRun run 0
    rw [← met] at kept
    have link : ((markMet p (.train false) (receiveSymbols p run s)).port p).link = (s.port p).link :=
      (markMet_kept p _ _).1.trans (receiveSymbols_linkState p run s)
    have moved : receiveMark p (.train false) (receiveSymbols p run s)
        = changeLink p .aligned (markMet p (.train false) (receiveSymbols p run s)) := by
      rw [receiveMark_eq]
      unfold markByState
      rw [link]
      rcases working with h | h <;> rw [h]
    exact ⟨_, congrArg Host.Outcome.next moved, (changeLink_readinessLost (kept.ready.trans ready) rfl).of_kept kept⟩
  · have met := markMet_cut (p := p) (m := .noReceive) (by simp) (receiveSymbols p run s)
    have kept := cutRun run 0
    rw [← met] at kept
    obtain ⟨link, -, -, config, -⟩ := markMet_kept p .noReceive (receiveSymbols p run s)
    have moved : receiveMark p .noReceive (receiveSymbols p run s)
        = changeLink p .farFault (markMet p .noReceive (receiveSymbols p run s)) := by
      rw [receiveMark_eq]
      unfold markByState
      rw [link, receiveSymbols_linkState, up]
    have off : ((markMet p .noReceive (receiveSymbols p run s)).port p).oneWay = false :=
      config.trans ((receiveSymbols_config p run s).1.trans oneWay)
    refine ⟨_, congrArg Host.Outcome.next moved, (changeLink_readinessLost (kept.ready.trans ready) ?_).of_kept kept⟩
    unfold Port.enter Port.transmitReady
    dsimp only
    rw [off]
    rfl

end Sys2Proof.Machine
end

section
/-! Block entries and protective conditions (R176 to R179), the loss of PS, and RETRAIN (R17). -/

namespace Sys2Proof.Machine

/-! ### Block entries -/

/-- A move out of RUNNING and HOLDING leaves no FIRE command at PS (R186). -/
theorem moveTo_purged {new : OpState} (stops : new.fires = false) (c : Cause) (v : ValveId) {s : State} (fires : s.sup.state.fires = true) :
    ∀ f, f ∈ (moveTo new c v s).ps.timed → f.fires = [] := by
  have state := moveTo_state new c v s
  have moved : moveTo new c v s = purgeAndBlock (raise srcOperatingState (moveDetail s.sup.state new c v) (enterState new s)) := by
    unfold moveTo moveConsequences
    dsimp only
    split
    · cases stops
    · cases stops
    · exact if_pos fires
  rw [moved] at state ⊢
  exact (purgeAndBlock_quenched _).purged (by rw [state]; exact stops)

/-- The state of a block entry before its move: the entry in the history, counted, holding count and ramp order cleared (R177, R178). -/
def blockNoted (c : Cause) (v : ValveId) (s : State) : State :=
  bump .blockEntries (s.setSup { s.sup with history := appendHistory s.sup.history (blockHistoryEntry c v s), holding := 0, ramp := false })

theorem blockEntry_eq (c : Cause) (v : ValveId) (s : State) : blockEntry c v s
    = if pTripCount s.par ≤ unexpired (appendHistory s.sup.history (blockHistoryEntry c v s)) then trip c v (blockNoted c v s)
      else moveTo .blocked c v ((blockNoted c v s).setSup { (blockNoted c v s).sup with recovery := 0 }) := by
  have unfolded : blockEntry c v s = match blockTarget (appendHistory s.sup.history (blockHistoryEntry c v s)) (pTripCount s.par) with
      | .tripped => trip c v (blockNoted c v s)
      | _ => moveTo .blocked c v ((blockNoted c v s).setSup { (blockNoted c v s).sup with recovery := 0 }) := rfl
  rw [unfolded]
  unfold blockTarget
  by_cases enough : pTripCount s.par ≤ unexpired (appendHistory s.sup.history (blockHistoryEntry c v s))
  · rw [if_pos enough, if_pos enough]
  · rw [if_neg enough, if_neg enough]

/-- A block entry from RUNNING or HOLDING (R177 to R179). -/
theorem blockEntry_entered (c : Cause) (v : ValveId) {s : State} (fires : s.sup.state.fires = true) : BlockEntered c v s (blockEntry c v s) := by
  have frame := blockEntry_frame c v s
  have entries : (blockNoted c v s).counter .blockEntries = s.counter .blockEntries + 1 := counter_bump_self ..
  have trips : (blockNoted c v s).counter .trips = s.counter .trips := counter_bump_of_ne _ (by simp)
  have history : (blockNoted c v s).sup.history = appendHistory s.sup.history (blockHistoryEntry c v s) := rfl
  rw [blockEntry_eq] at frame ⊢
  by_cases enough : pTripCount s.par ≤ unexpired (appendHistory s.sup.history (blockHistoryEntry c v s))
  · rw [if_pos enough] at frame ⊢
    obtain ⟨y, hy⟩ : ∃ y, y = bump .trips (latchTrip c v (blockNoted c v s)) := ⟨_, rfl⟩
    have gate : GateFrame (enterState .tripped y) (trip c v (blockNoted c v s)) := by
      rw [hy]
      exact (moveTo_gate _ _ _ _).trans (raise_quiet _ _ _).toGateFrame
    have told := raise_quiet srcTrip (tripDetail c v (blockNoted c v s).sup.lastPass) (moveTo .tripped c v y)
    have ends : trip c v (blockNoted c v s) = raise srcTrip (tripDetail c v (blockNoted c v s).sup.lastPass) (moveTo .tripped c v y) := by
      rw [hy]
      rfl
    have sup : (trip c v (blockNoted c v s)).sup = (enterState .tripped y).sup := gate.sup
    have reached : (trip c v (blockNoted c v s)).sup.state = .tripped := by rw [sup]; rfl
    have past : (trip c v (blockNoted c v s)).sup.history = appendHistory s.sup.history (blockHistoryEntry c v s) := by
      rw [sup, hy]
      rfl
    refine ⟨frame, ⟨?_, ?_, ?_, ?_⟩, past, ?_, ?_, ?_, ?_, fun _ => ⟨?_, ?_⟩, fun blocked => ?_, fun w => ?_, fun f mem => ?_⟩
    · rw [gate.tables, hy]; rfl
    · rw [gate.tracker, hy]; rfl
    · rw [gate.pace, hy]; rfl
    · rw [sup, hy]; rfl
    · rw [reached, past]
      exact (if_pos enough).symm
    · rw [reached, sup, hy]; rfl
    · rw [sup, hy]; exact ⟨rfl, rfl⟩
    · rw [gate.gates _ rfl, hy]
      exact (counter_bump_of_ne _ (by simp)).trans entries
    · rw [gate.gates _ rfl, hy]
      exact (counter_bump_self ..).trans (congrArg (· + 1) trips)
    · rw [sup, hy]; rfl
    · rw [reached] at blocked; cases blocked
    · rw [ends, told.channel, moveTo_channel rfl]
    · rw [ends, told.timed] at mem
      exact moveTo_purged rfl c v (by rw [hy]; exact fires) f mem
  · rw [if_neg enough] at frame ⊢
    obtain ⟨y, hy⟩ : ∃ y, y = (blockNoted c v s).setSup { (blockNoted c v s).sup with recovery := 0 } := ⟨_, rfl⟩
    rw [← hy] at frame ⊢
    have gate := moveTo_gate .blocked c v y
    have sup : (moveTo .blocked c v y).sup = (enterState .blocked y).sup := gate.sup
    have reached : (moveTo .blocked c v y).sup.state = .blocked := moveTo_state ..
    have past : (moveTo .blocked c v y).sup.history = appendHistory s.sup.history (blockHistoryEntry c v s) := by
      rw [sup, hy]
      rfl
    refine ⟨frame, ⟨?_, ?_, ?_, ?_⟩, past, ?_, ?_, ?_, ?_, fun tripped => ?_, fun _ => ⟨?_, ?_, ?_⟩, fun w => ?_, fun f mem => ?_⟩
    · rw [gate.tables, hy]; rfl
    · rw [gate.tracker, hy]; rfl
    · rw [gate.pace, hy]; rfl
    · rw [sup, hy]; rfl
    · rw [reached, past]
      exact (if_neg enough).symm
    · rw [reached, sup, hy]; rfl
    · rw [sup, hy]; exact ⟨rfl, rfl⟩
    · rw [gate.gates _ rfl, hy]
      exact entries
    · rw [reached] at tripped; cases tripped
    · rw [gate.gates _ rfl, hy]
      exact trips
    · rw [sup, hy]; rfl
    · rw [sup, hy]; rfl
    · rw [moveTo_channel rfl]
    · exact moveTo_purged rfl c v (by rw [hy]; exact fires) f mem

/-- A protective condition between pass records (R176). -/
theorem protectiveEvent_taken (c : Cause) (v : ValveId) (s : State) : ProtectiveTaken c v s (protectiveEvent c v s) := by
  unfold ProtectiveTaken protectiveEvent
  cases state : s.sup.state with
  | running => exact blockEntry_entered c v (by rw [state]; rfl)
  | holding => exact blockEntry_entered c v (by rw [state]; rfl)
  | blocked => rfl
  | off => rfl
  | ready => rfl
  | tripped => rfl

theorem fires_iff (x : OpState) : x.fires = true ↔ x = .running ∨ x = .holding := by cases x <;> decide

/-! ### The loss of PS -/

/-- The blocks that a lost readiness, an event and the end of windowing leave, and the supervisor's counters. -/
def BlocksKept (s t : State) : Prop := t.sup = s.sup ∧ t.tables = s.tables ∧ t.counter .blockEntries = s.counter .blockEntries
  ∧ t.counter .trips = s.counter .trips

theorem BlocksKept.trans {s t u : State} (h : BlocksKept s t) (k : BlocksKept t u) : BlocksKept s u :=
  ⟨k.1.trans h.1, k.2.1.trans h.2.1, k.2.2.1.trans h.2.2.1, k.2.2.2.trans h.2.2.2⟩

theorem BlocksKept.of_gate {s t : State} (h : GateFrame s t) : BlocksKept s t := ⟨h.sup, h.tables, h.gates _ rfl, h.gates _ rfl⟩

theorem BlocksKept.modPort (s : State) (p : PortId) (f : Port → Port) : BlocksKept s (s.modPort p f) :=
  ⟨State.modPort_sup .., State.modPort_tables .., State.modPort_counter .., State.modPort_counter ..⟩

/-- The line's own part of an event leaves the supervisor and the table store. -/
theorem cutArrival_blocks (p : PortId) (s : State) : BlocksKept s (cutArrival p s) := by
  have degraded (v : Bool) (t : State) : (setDegraded p v t).sup = t.sup ∧ (setDegraded p v t).tables = t.tables := by
    unfold setDegraded
    split
    · exact ⟨rfl, rfl⟩
    · rw [(raise_quiet _ _ _).sup, (raise_quiet _ _ _).tables]
      exact ⟨State.modPort_sup .., State.modPort_tables ..⟩
  have errored (t : State) : (countErrored p t).sup = t.sup ∧ (countErrored p t).tables = t.tables := by
    unfold countErrored
    dsimp only
    split
    · obtain ⟨sup, tables⟩ := degraded true ((t.modPort p (fun x => { x with windowErrors := x.windowErrors + 1 })).modPort p
        (fun x => { x with cleanRun := 0 }))
      rw [sup, tables]
      simp
    · simp
  refine ⟨?_, ?_, cutArrival_counter_other p s rfl (fun _ => by simp), cutArrival_counter_other p s rfl (fun _ => by simp)⟩
  · unfold cutArrival
    split
    · rfl
    · rw [(errored _).1]
      exact State.modPort_sup ..
  · unfold cutArrival
    split
    · rfl
    · rw [(errored _).2]
      exact State.modPort_tables ..

theorem receiveSymbols_blocks (p : PortId) (run : LineRun) (s : State) : BlocksKept s (receiveSymbols p run s) :=
  (ite_keeps (P := BlocksKept s) run.start (fun _ => cutArrival_blocks p s) (fun _ => ⟨rfl, rfl, rfl, rfl⟩)).trans (.modPort _ p _)

/-- A change of PS's state, as the supervisor is told of it: the rest is the port's own. -/
theorem changeLink_south {new : LinkState} {s : State} (differs : (s.port .south).link ≠ new) :
    ∃ y, changeLink .south new s = psChanged (s.port .south).link new y ∧ BlocksKept s y := by
  have flushed : BlocksKept s (flushIfLost (s.port .south).transmitReady .south (s.modPort .south (fun x => x.enter new))) := by
    refine (BlocksKept.modPort s .south (fun x => x.enter new)).trans ?_
    exact ite_keeps (P := BlocksKept _) _ (fun _ => (BlocksKept.modPort _ .south _).trans (.of_gate (flush_gate .south _)))
      (fun _ => ⟨rfl, rfl, rfl, rfl⟩)
  have told := flushed.trans (.of_gate (raiseIf_quiet ((s.port .south).link != new) (srcPortState .south)
    (linkDetail (s.port .south).link new) _).toGateFrame)
  have left (t : State) : BlocksKept t (leaveWorking .south t) := by
    refine BlocksKept.trans ?_ (.modPort _ .south _)
    refine ite_keeps (P := BlocksKept t) _ (fun _ => ⟨rfl, rfl, rfl, rfl⟩) (fun _ => ?_)
    exact (BlocksKept.modPort t .south _).trans (.of_gate (raise_quiet _ _ _).toGateFrame)
  exact ⟨_, if_pos (by simpa using differs),
    ite_keeps (P := BlocksKept s) ((s.port .south).link.receives && !new.receives) (fun _ => told.trans (left _)) (fun _ => told)⟩

/-- Settles O42, by the block entry that the lost PS is in RUNNING and HOLDING. -/
theorem lossOfPsBlocks : Obligations.LossOfPsBlocks := by
  unfold Obligations.LossOfPsBlocks
  rintro run s h up live rfl
  obtain ⟨y, hy⟩ : ∃ y, y = silenced .south (receiveSymbols .south run s) := ⟨_, rfl⟩
  have kept : BlocksKept s y := by
    rw [hy]
    exact ((receiveSymbols_blocks .south run s).trans (cutArrival_blocks .south _)).trans (.modPort _ .south _)
  have link : (y.port .south).link = .up := by
    rw [hy, silenced_port]
    exact (cutArrival_linkState _ _).trans ((receiveSymbols_linkState _ _ _).trans up)
  have silent : (y.port .south).signal = false := by rw [hy, silenced_port]
  have down : loseSignal .south (receiveSymbols .south run s) = changeLink .south .down y := by
    rw [loseSignal_eq, receiveSymbols_linkState, ← hy, ← goDown_silent silent]
    have here : (s.port .south).link = .up := up
    rw [here]
  have idle : ((changeLink .south .down y).port .south).idleDown :=
    changeLink_idleDown (by unfold Port.transmitReady; rw [link]; rfl) rfl
  obtain ⟨z, told, sup, tables, entries, trips⟩ := changeLink_south (new := .down) (s := y) (by rw [link]; decide)
  rw [link] at told
  obtain ⟨sup', tables', entries', trips'⟩ := kept
  have state : z.sup.state = s.sup.state := by rw [sup, sup']
  have fires : z.sup.state.fires = true := by rw [state]; exact (fires_iff _).mpr live
  obtain ⟨w, hw⟩ : ∃ w, w = setItems (fun i => { i with link := false }) z := ⟨_, rfl⟩
  have updated : updateItems (fun i => { i with link := LinkState.down == .up }) z = w := by
    rw [hw]
    unfold updateItems evaluate
    have here : (setItems (fun i => { i with link := LinkState.down == .up }) z).sup.state = s.sup.state := state
    rw [here]
    rcases live with h | h <;> rw [h] <;> rfl
  have blocks : changeLink .south .down y = blockEntry .psNotUp 0 w := by
    rw [told]
    have unfolded : psChanged .up .down z = protectiveEvent .psNotUp 0 (updateItems (fun i => { i with link := LinkState.down == .up }) z) := rfl
    have here : w.sup.state = s.sup.state := by rw [hw]; exact state
    rw [unfolded, updated]
    unfold protectiveEvent
    rw [here]
    rcases live with h | h <;> rw [h]
  have entered := blockEntry_entered .psNotUp 0 (s := w) (by rw [hw]; exact fires)
  rw [← blocks] at entered
  obtain ⟨-, -, history, reached, items, cleared, counted, tripped, blocked, channels, -⟩ := entered
  have wsup : w.sup.history = s.sup.history ∧ w.sup.lastPass = s.sup.lastPass ∧ w.sup.trip = s.sup.trip ∧ w.par = s.par
      ∧ w.sup.items.link = false := by
    rw [hw]
    refine ⟨?_, ?_, ?_, ?_, rfl⟩
    · have same := congrArg Supervisor.history (sup.trans sup')
      exact same
    · have same := congrArg Supervisor.lastPass (sup.trans sup')
      exact same
    · have same := congrArg Supervisor.trip (sup.trans sup')
      exact same
    · show z.par = s.par
      unfold State.par
      rw [tables.trans tables']
  obtain ⟨whistory, wpass, wtrip, wpar, witem⟩ := wsup
  have wentries : w.counter .blockEntries = s.counter .blockEntries := by rw [hw]; exact entries.trans entries'
  have wtrips : w.counter .trips = s.counter .trips := by rw [hw]; exact trips.trans trips'
  rw [whistory, wpass] at history
  rw [history, wpar] at reached
  refine ⟨_, congrArg Host.Outcome.next down, history, reached, ?_, cleared.1, cleared.2, ?_, fun on => ?_, fun on => ?_, channels, idle.2⟩
  · rw [items]
    exact witem
  · rw [counted, wentries]
  · obtain ⟨tripsUp, record⟩ := tripped on
    rw [record, tripsUp, wtrips, wpass]
    exact ⟨rfl, rfl⟩
  · obtain ⟨-, record, recovery⟩ := blocked on
    exact ⟨record.trans wtrip, recovery⟩

/-! ### RETRAIN -/

theorem goDown_idleDown {p : PortId} {s : State} (ready : (s.port p).transmitReady = true) : ((goDown p s).port p).idleDown := by
  have down : ((changeLink p .down s).port p).idleDown := changeLink_idleDown ready rfl
  unfold goDown
  rw [applyR11_port]
  split
  · have line (t : State) (f : Port → Port) (same : ∀ x, (f x).transmitReady = x.transmitReady ∧ ((f x).isFlushed ↔ x.isFlushed))
        (h : (t.port p).idleDown) : ((t.modPort p f).port p).idleDown := by
      rw [State.modPort_port]
      exact ⟨(same _).1.trans h.1, (same _).2.mpr h.2⟩
    have sought : ((changeLink p .seeking (changeLink p .down s)).port p).idleDown := by
      refine (moveStable_idleDown p).changeLink (fun t h => line t _ (fun _ => ⟨rfl, Iff.rfl⟩) h)
        (fun t h => line t _ (fun _ => ⟨rfl, Iff.rfl⟩) h) ?_
      rw [flushIfLost_self, State.modPort_port, down.1]
      exact ⟨rfl, down.2⟩
    exact sought
  · exact down

/-- Settles O48, by the port that the argument names. -/
theorem retrainCommand : Obligations.RetrainCommand := by
  unfold Obligations.RetrainCommand
  intro c s
  refine ⟨fun p names => ?_, fun other => ⟨_, rfl, served_of_effect _ ?_⟩⟩
  · obtain ⟨y, hy⟩ : ∃ y, y = s.modPort p (fun x =>
        { x with attempts := 0, rx := none, seekTimer := none, alignTimer := none, holdoffTimer := none }) := ⟨_, rfl⟩
    have port : y.port p = { s.port p with attempts := 0, rx := none, seekTimer := none, alignTimer := none, holdoffTimer := none } := by
      rw [hy, State.modPort_port]
    have counter (c : Counter) : y.counter c = s.counter c := by rw [hy, State.modPort_counter]
    have retrained : retrainEffect c.argument s = (.ok, goDown p y) := by
      rw [hy]
      cases p with
      | north =>
        have zero : c.argument = 0#32 := BitVec.eq_of_toNat_eq names
        exact if_pos zero
      | south =>
        have one : c.argument = 1#32 := BitVec.eq_of_toNat_eq names
        unfold retrainEffect
        rw [one]
        rfl
    have config := goDown_config p y
    have timers := goDown_timers p y
    have link := goDown_linkState p y
    have attempts := goDown_attempts p y
    have counted := goDown_counter p y (c := .trainingAttempts p) rfl
    rw [port] at config timers link attempts counted
    rw [counter] at counted
    refine ⟨_, goDown p y, rfl, served_of_effect _ retrained, ?_, config, attempts, goDown_rx_none (by rw [port]), timers.2.1, timers.2.2, link,
      timers.1, by simpa using counted, fun ready => (goDown_idleDown ?_).2⟩
    · rw [hy]
      exact (modPort_link p _ s).trans (goDown_link p _)
    · rw [port]
      exact ready
  · have zero : c.argument ≠ 0#32 := fun same => by rw [same] at other; exact absurd other (by decide)
    have one : c.argument ≠ 1#32 := fun same => by rw [same] at other; exact absurd other (by decide)
    unfold retrainEffect
    rw [if_neg zero, if_neg one]

end Sys2Proof.Machine
end

section
/-! The supervisor's response to a pass record (R175, R180 to R182). -/

namespace Sys2Proof.Machine

/-- A move into HOLDING blocks no channel (R186). -/
theorem moveTo_holding_quiet (c : Cause) (v : ValveId) (s : State) : QuietFrame (enterState .holding s) (moveTo .holding c v s) :=
  raise_quiet ..

theorem enterHolding_done (z : State) : SupFrame z (enterHolding z) ∧ (enterHolding z).sup = { z.sup with
      state := .holding, items := { z.sup.items with notTripped := true }, holding := 0, ramp := decide (pHoldingLimit z.par = 0) }
    ∧ (enterHolding z).counter .holdingEntries = z.counter .holdingEntries + 1 ∧ (enterHolding z).channels = z.channels := by
  have quiet := moveTo_holding_quiet .currentInvalid 0 (bump .holdingEntries z)
  refine ⟨((bump_frame .holdingEntries z rfl).trans (moveTo_frame ..)).trans (setSup_frame _ _), ?_, ?_, quiet.channels⟩
  · unfold enterHolding
    dsimp only
    rw [State.setSup_sup, quiet.sup]
    rfl
  · exact (quiet.notes _ rfl).trans (counter_bump_self ..)

theorem leaveHolding_done {z : State} (held : z.sup.state = .holding) : SupFrame z (leaveHolding z) ∧ (leaveHolding z).sup = { z.sup with
      state := .running, items := { z.sup.items with notTripped := true }, holding := 0, ramp := false }
    ∧ (leaveHolding z).channels = z.channels := by
  obtain ⟨y, hy⟩ : ∃ y, y = z.setSup { z.sup with holding := 0, ramp := false } := ⟨_, rfl⟩
  have state : y.sup.state = .holding := by rw [hy]; exact held
  have quiet : QuietFrame (enterState .running y) (moveTo .running .currentValid 0 y) := by
    have stays : moveTo .running .currentValid 0 y = raise srcOperatingState (moveDetail y.sup.state .running .currentValid 0) (enterState .running y) := by
      unfold moveTo moveConsequences
      dsimp only
      rw [state]
      rfl
    rw [stays]
    exact raise_quiet ..
  have leaves : leaveHolding z = moveTo .running .currentValid 0 y := by rw [hy]; rfl
  rw [leaves]
  refine ⟨?_, ?_, ?_⟩
  · rw [hy]
    exact (setSup_frame _ z).trans (moveTo_frame ..)
  · rw [quiet.sup, hy]
    rfl
  · rw [quiet.channels, hy]
    rfl

/-- A record without a protective condition recovers BLOCKED once the recovery count reaches the delay (R180, R181). -/
theorem recover_done {z s : State} (h : s = bump .recoveries z) (blocked : z.sup.state = .blocked) : SupFrame z (recover z)
    ∧ (recover z).sup.history = z.sup.history ∧ (recover z).sup.lastPass = z.sup.lastPass
    ∧ (recover z).counter .recoveries = z.counter .recoveries + 1
    ∧ (pAutoRecover z.par = true → (recover z).sup.state = .running
      ∧ ∀ v : ValveId, (z.channel v).state = .blocked → ((recover z).channel v).state = .idle)
    ∧ (pAutoRecover z.par = false → z.sup.items.hold = true → (recover z).sup.state = .ready)
    ∧ (pAutoRecover z.par = false → z.sup.items.hold = false →
      (recover z).sup.state = .off ∨ ((recover z).sup.state = .ready ∧ (recover z).sup.items.hold = true))
    ∧ (pAutoRecover z.par = false → ∀ v : ValveId, (z.channel v).state = .blocked → (recover z).channel v = z.channel v) := by
  have counted : s.counter .recoveries = z.counter .recoveries + 1 := by rw [h]; exact counter_bump_self ..
  have frame : SupFrame z s := h ▸ bump_frame .recoveries z rfl
  have state : s.sup.state = .blocked := by rw [h]; exact blocked
  have channel (v : ValveId) : s.channel v = z.channel v := by rw [h]; rfl
  have sup : s.sup = z.sup := by rw [h]; rfl
  have unfolded : recover z = if pAutoRecover z.par then moveTo .running .recovered 0 s
      else if s.sup.items.hold then moveTo .ready .recovered 0 s else enterOff .permissiveLost s := by rw [h]; rfl
  have moved (new : OpState) : SupFrame z (moveTo new .recovered 0 s) ∧ (moveTo new .recovered 0 s).sup.history = z.sup.history
      ∧ (moveTo new .recovered 0 s).sup.lastPass = z.sup.lastPass
      ∧ (moveTo new .recovered 0 s).counter .recoveries = z.counter .recoveries + 1 := by
    have gate := moveTo_gate new .recovered 0 s
    refine ⟨frame.trans (moveTo_frame ..), ?_, ?_, (gate.gates _ rfl).trans counted⟩
    · rw [gate.sup, ← sup]; rfl
    · rw [gate.sup, ← sup]; rfl
  rw [unfolded]
  by_cases auto : pAutoRecover z.par = true
  · rw [if_pos auto]
    obtain ⟨whole, history, last, recoveries⟩ := moved .running
    refine ⟨whole, history, last, recoveries, fun _ => ⟨moveTo_state .., fun v waits => ?_⟩, fun off => ?_, fun off => ?_, fun off => ?_⟩
    · rw [moveTo_running_channel (.inr state), channel, if_pos waits]
    · rw [auto] at off; cases off
    · rw [auto] at off; cases off
    · rw [auto] at off; cases off
  · rw [if_neg auto]
    by_cases hold : s.sup.items.hold = true
    · rw [if_pos hold]
      obtain ⟨whole, history, last, recoveries⟩ := moved .ready
      refine ⟨whole, history, last, recoveries, fun on => absurd on auto, fun _ _ => moveTo_state .., fun _ lost => ?_, fun _ v waits => ?_⟩
      · rw [← sup, hold] at lost; cases lost
      · rw [moveTo_channel_of_blocked rfl _ _ (by rw [channel]; exact waits), channel]
    · rw [if_neg hold]
      have rest := enterOff_atRest .permissiveLost s
      have before : (moveTo .off .permissiveLost 0 s).sup.history = z.sup.history ∧ (moveTo .off .permissiveLost 0 s).sup.lastPass = z.sup.lastPass := by
        rw [(moveTo_gate .off .permissiveLost 0 s).sup, ← sup]
        exact ⟨rfl, rfl⟩
      have spared := (moveStable_spares (c := .recoveries) (z.counter .recoveries + 1) ⟨by simp, by simp, by simp, by simp, by simp⟩).enterOff
        .permissiveLost s ⟨fun on => Bool.noConfusion on, counted⟩
      refine ⟨frame.trans (enterOff_frame ..), ?_, ?_, spared.reads, fun on => absurd on auto, fun _ held => ?_, fun _ _ => rest.state,
        fun _ v waits => ?_⟩
      · rw [rest.sup]; exact before.1
      · rw [rest.sup]; exact before.2
      · rw [← sup] at held; exact absurd held hold
      · rw [rest.channels v (by rw [moveTo_channel rfl]), moveTo_channel_of_blocked rfl _ _ (by rw [channel]; exact waits), channel]

/-- The state in which a record finds the supervisor, its number taken and old entries expired (R175, R178). -/
def recordNoted (r : PassRecord) (s : State) : State :=
  s.setSup { s.sup with lastPass := r.number, history := expireHistory r.number (pTripWindow s.par) s.sup.history }

theorem recordCause_eq (f : PassFlags) (i : Permissives) : recordCause f i = (if f.undervoltage = true then some .undervoltage
    else if f.voltageInvalid = true then some .voltageInvalid else if f.rotationFault = true then some .rotationFault
    else if i.tracker = false then some .trackerNotLocked else if i.link = false then some .psNotUp else none) := by
  unfold recordCause flagCause
  cases f.undervoltage
  · cases f.voltageInvalid
    · cases f.rotationFault
      · cases i.tracker <;> cases i.link <;> rfl
      · rfl
    · rfl
  · rfl

/-- Settles O41, by the operating state and the record's condition. -/
theorem recordsMoveTheSupervisor : Obligations.RecordsMoveTheSupervisor := by
  unfold Obligations.RecordsMoveTheSupervisor
  intro r s t z ht hz
  have noted : z = recordNoted r s := hz
  have responds : t = respondToRecord r.flags z := by rw [ht, noted]; rfl
  have frame : SupFrame s z := by rw [noted]; exact setSup_frame _ s
  have state : z.sup.state = s.sup.state := by rw [noted]; rfl
  have items : z.sup.items = s.sup.items := by rw [noted]; rfl
  have holding : z.sup.holding = s.sup.holding := by rw [noted]; rfl
  have ramp : z.sup.ramp = s.sup.ramp := by rw [noted]; rfl
  have recovery : z.sup.recovery = s.sup.recovery := by rw [noted]; rfl
  have last : z.sup.lastPass = r.number := by rw [noted]; rfl
  have par : z.par = s.par := by rw [noted]; rfl
  have counter (c : Counter) : z.counter c = s.counter c := by rw [noted]; rfl
  have channels : z.channels = s.channels := by rw [noted]; rfl
  clear hz noted ht
  unfold respondToRecord at responds
  rw [state, items] at responds
  refine ⟨?_, fun rests => ?_, fun waits caused => ?_, fun c live caused => ?_, recordCause_eq r.flags s.sup.items,
    fun clear => ⟨fun running valid => ?_, fun running invalid => ?_, fun held invalid => ?_, fun held valid => ?_, fun n waits count => ?_⟩⟩
  · rw [← last]
    cases now : s.sup.state with
    | off => rw [now] at responds; rw [responds]
    | ready => rw [now] at responds; rw [responds]
    | tripped => rw [now] at responds; rw [responds]
    | running =>
      rw [now] at responds
      have entered (c : Cause) := (blockEntry_entered c 0 (s := z) (by rw [state, now]; rfl)).kept.2.2.2
      cases cause : recordCause r.flags s.sup.items with
      | some c => rw [cause] at responds; rw [responds]; exact entered c
      | none =>
        rw [cause] at responds
        rw [responds]
        dsimp only
        split
        · rw [(enterHolding_done z).2.1]
        · rfl
    | holding =>
      rw [now] at responds
      have entered (c : Cause) := (blockEntry_entered c 0 (s := z) (by rw [state, now]; rfl)).kept.2.2.2
      cases cause : recordCause r.flags s.sup.items with
      | some c => rw [cause] at responds; rw [responds]; exact entered c
      | none =>
        rw [cause] at responds
        rw [responds]
        dsimp only
        split
        · rfl
        · rw [(leaveHolding_done (state.trans now)).2.1]
    | blocked =>
      rw [now] at responds
      cases cause : recordCause r.flags s.sup.items with
      | some c => rw [cause] at responds; rw [responds]; rfl
      | none =>
        rw [cause] at responds
        rw [responds]
        dsimp only
        unfold countRecovery
        dsimp only
        split
        · have blocked : (z.setSup { z.sup with recovery := min 255 (z.sup.recovery + 1) }).sup.state = .blocked := state.trans now
          exact (recover_done rfl blocked).2.2.1
        · rfl
  · rcases rests with h | h | h <;> rw [h] at responds <;> exact responds
  · rw [waits] at responds
    obtain ⟨c, cause⟩ := Option.ne_none_iff_exists'.mp caused
    rw [cause] at responds
    exact responds
  · have entered := blockEntry_entered c 0 (s := z) (by rw [state]; exact (fires_iff _).mpr live)
    rw [caused] at responds
    rcases live with h | h <;> rw [h] at responds <;> rw [responds] <;> exact entered
  · rw [running, clear] at responds
    rw [responds, valid]
    rfl
  · rw [running, clear] at responds
    have enters : t = enterHolding z := by
      rw [responds, invalid]
      rfl
    obtain ⟨whole, sup, counted, kept⟩ := enterHolding_done z
    rw [enters, sup, counted, kept, par, counter]
    exact ⟨frame.trans whole, rfl, rfl, rfl, rfl, rfl, channels⟩
  · rw [held, clear] at responds
    have counts : t = countHolding z := by
      rw [responds, invalid]
      rfl
    rw [counts]
    unfold countHolding
    rw [holding, ramp, par]
    rfl
  · rw [held, clear] at responds
    have leaves : t = leaveHolding z := by
      rw [responds, valid]
      rfl
    obtain ⟨whole, sup, kept⟩ := leaveHolding_done (state.trans held)
    rw [leaves, sup, kept]
    exact ⟨frame.trans whole, rfl, rfl, rfl, rfl, channels⟩
  · rw [waits, clear] at responds
    obtain ⟨y, hy⟩ : ∃ y, y = z.setSup { z.sup with recovery := n } := ⟨_, rfl⟩
    have recovers : t = if pRecoveryDelay s.par ≤ n then recover y else y := by
      rw [responds, hy, count, ← recovery, ← par]
      rfl
    have blocked : y.sup.state = .blocked := by rw [hy]; exact state.trans waits
    have whole : SupFrame s y := by rw [hy]; exact frame.trans (setSup_frame _ z)
    have ypar : y.par = s.par := by rw [hy]; exact par
    have yhold : y.sup.items = s.sup.items := by rw [hy]; exact items
    have yhistory : y.sup.history = z.sup.history := by rw [hy]; rfl
    have ycounter : y.counter .recoveries = s.counter .recoveries := by rw [hy]; exact counter _
    have ychannel (v : ValveId) : y.channel v = s.channel v := by
      rw [hy]
      exact congrArg (fun cs : Vector Channel 6 => cs[v]) channels
    obtain ⟨done, history, -, counted, auto, ready, off, kept⟩ := recover_done rfl blocked
    rw [ypar, yhold] at ready off
    rw [ypar] at auto kept
    refine ⟨fun early => ?_, fun due => ?_, fun due => ?_, fun due => ?_, fun due => ?_, fun due => ?_⟩
    · rw [recovers, if_neg (by omega), hy]
      rfl
    · rw [recovers, if_pos due]
      exact ⟨whole.trans done, history.trans yhistory, by rw [counted, ycounter]⟩
    · rw [recovers, if_pos due]
      exact fun on => ⟨(auto on).1, fun v b => (auto on).2 v (by rw [ychannel]; exact b)⟩
    · rw [recovers, if_pos due]
      exact ready
    · rw [recovers, if_pos due]
      exact off
    · rw [recovers, if_pos due]
      exact fun no v b => (kept no v (by rw [ychannel]; exact b)).trans (ychannel v)

end Sys2Proof.Machine
end

section
/-! Valve reports at a channel (R143 to R148). -/

namespace Sys2Proof.Machine

theorem raisedIf_raiseIf (b : Bool) (n : SourceId) (d : Word) (s : State) : RaisedIf b n d s (raiseIf b n d s) := by
  unfold RaisedIf raiseIf
  cases b with
  | true => exact raise_raised n d s
  | false => rfl

/-! ### Events and a channel's update commute -/

theorem offerQuiet_setChannel (p : PortId) (c : TxClass) (f : Frame) (s : State) (v : ValveId) (ch : Channel) :
    offerQuiet p c f (s.setChannel v ch) = (offerQuiet p c f s).setChannel v ch := by
  have outcome : offerOutcome p c (s.setChannel v ch) = offerOutcome p c s := by cases p <;> rfl
  unfold offerQuiet
  rw [outcome]
  cases offerOutcome p c s with
  | placed => cases p <;> rfl
  | notReady => rfl
  | full => rfl

theorem sendNotice_setChannel (n : SourceId) (k : Nat) (d : Word) (s : State) (v : ValveId) (ch : Channel) :
    sendNotice n k d (s.setChannel v ch) = (sendNotice n k d s).setChannel v ch := by
  have outcome (p : PortId) : offerOutcome p .access (s.setChannel v ch) = offerOutcome p .access s := by cases p <;> rfl
  have frame : noticeFrame n k d (s.setChannel v ch) = noticeFrame n k d s := rfl
  have notices : (s.setChannel v ch).notices = s.notices := rfl
  unfold sendNotice
  dsimp only
  rw [notices, outcome, frame, offerQuiet_setChannel]
  cases offerOutcome (s.notices[n]).route .access s <;> rfl

theorem raise_setChannel (n : SourceId) (d : Word) (s : State) (v : ValveId) (ch : Channel) :
    raise n d (s.setChannel v ch) = (raise n d s).setChannel v ch := by
  have notices : (s.setChannel v ch).notices = s.notices := rfl
  unfold raise
  dsimp only
  rw [notices, sendNotice_setChannel]
  split
  · split <;> rfl
  · rfl

theorem State.setChannel_setChannel (s : State) (v : ValveId) (a b : Channel) : (s.setChannel v a).setChannel v b = s.setChannel v b := by
  unfold State.setChannel
  dsimp only
  rw [Vector.set_set]

/-! ### The details -/

theorem halves_eq {a b : Nat} (ha : a < 65536) (hb : b < 65536) : halves a b = BitVec.ofNat 32 (a * 65536 + b) := by
  unfold halves field
  have hi : a % 2 ^ 16 = a := Nat.mod_eq_of_lt ha
  have lo : b % 2 ^ 16 = b := Nat.mod_eq_of_lt hb
  rw [hi, lo, Nat.pow_zero, Nat.mul_one]
  rfl

theorem deviationDetail_eq (v : ValveId) (error : Int) : deviationDetail v error
    = BitVec.ofNat 32 (v.val * 16777216 + (BitVec.ofInt 16 (max (-32767) (min 32767 error))).toNat) := by
  have low := (BitVec.ofInt 16 (max (-32767) (min 32767 error))).isLt
  unfold deviationDetail int16 sat16
  rw [saturate_eq _ _ _ (by decide), halves_eq (by omega) low]
  have placed : v.val * 256 * 65536 = v.val * 16777216 := by omega
  rw [placed]

/-! ### The three parts of a report -/

/-- A capture in AWAIT (R144). -/
theorem capture_eq (v : ValveId) (x : Pos) (s : State) : capture v x s
    = raiseIf (decide (pFireTolerance s.par v < (diff x (s.channel v).fire).natAbs)) srcFireDeviation (deviationDetail v (diff x (s.channel v).fire))
      (bumpIf (decide (pFireTolerance s.par v < (diff x (s.channel v).fire).natAbs)) (.channel v 8) (bump (.channel v 5) (s.setChannel v
        { s.channel v with capturePosition := x, captureError := diff x (s.channel v).fire, misses := 0, state := .idle }))) := by
  unfold capture raiseIf bumpIf
  dsimp only
  by_cases far : pFireTolerance s.par v < (diff x (s.channel v).fire).natAbs
  · rw [if_pos far, if_pos (decide_eq_true far), if_pos (decide_eq_true far)]
    rfl
  · rw [if_neg far, if_neg (by simpa using far), if_neg (by simpa using far)]
    rfl

/-- The miss of a NO_FIRE report, with MISFIRE raised where the misses reach the limit (R145, R146). -/
theorem reportedMiss_eq (v : ValveId) (s : State) : reportedMiss v s
    = (decide (pMissLimit s.par v ≤ min 15 ((s.channel v).misses + 1)),
       raiseIf (decide (pMissLimit s.par v ≤ min 15 ((s.channel v).misses + 1))) srcMisfire
        (misfireDetail v (min 15 ((s.channel v).misses + 1)) (s.channel v).fire)
        (bump (.channel v 6) (s.setChannel v { s.channel v with misses := min 15 ((s.channel v).misses + 1), state := .idle }))) := by
  have counted (t : State) (c : Channel) : (bump (.channel v 6) (t.setChannel v c)) = (bump (.channel v 6) t).setChannel v c := rfl
  unfold reportedMiss countMiss raiseIf bumpChannel
  dsimp only
  by_cases enough : pMissLimit s.par v ≤ min 15 ((s.channel v).misses + 1)
  · rw [if_pos enough, if_pos (decide_eq_true enough), decide_eq_true enough]
    dsimp only
    rw [counted, counted, raise_setChannel, raise_setChannel, State.channel_setChannel, State.setChannel_setChannel]
  · rw [if_neg enough, if_neg (by simpa using enough), decide_eq_false enough]
    dsimp only
    rw [counted, counted, State.channel_setChannel, State.setChannel_setChannel]

theorem takeBlockAck_eq (v : ValveId) (r : ValveReport) (s : State) : takeBlockAck v r s
    = if r.blockAck = true ∧ (s.channel v).state = .blocked then s.setChannel v { s.channel v with blockAck := true } else s :=
  if_congr (by simp) rfl rfl

/-- What an event leaves that a report reads. -/
theorem raiseIf_channel (b : Bool) (n : SourceId) (d : Word) (s : State) (v : ValveId) : (raiseIf b n d s).channel v = s.channel v :=
  (raiseIf_quiet b n d s).channel v

theorem QuietFrame.par {s t : State} (h : QuietFrame s t) : t.par = s.par := by
  unfold State.par
  rw [h.tables]

/-- The fire outcome of a report in AWAIT and elsewhere (R143). -/
theorem fireOutcome_missed {v : ValveId} {r : ValveReport} {s : State} (noFire : r.noFire = true) (await : (s.channel v).state = .await) :
    fireOutcome v r s = reportedMiss v s := by
  unfold fireOutcome
  rw [if_pos (by rw [noFire, Bool.or_true]), if_pos (by rw [await]; rfl), if_pos noFire]

theorem fireOutcome_captured {v : ValveId} {r : ValveReport} {s : State} (noFire : r.noFire = false) (conducted : r.conducted = true)
    (await : (s.channel v).state = .await) : fireOutcome v r s = (false, capture v r.position s) := by
  unfold fireOutcome
  rw [if_pos (by rw [conducted, Bool.true_or]), if_pos (by rw [await]; rfl), if_neg (by rw [noFire]; decide)]

theorem fireOutcome_stray {v : ValveId} {r : ValveReport} {s : State} (fire : r.conducted = true ∨ r.noFire = true)
    (other : (s.channel v).state ≠ .await) : fireOutcome v r s = (false, bump (.channel v 7) s) := by
  unfold fireOutcome
  rw [if_pos (by simpa using fire), if_neg (by simpa using other)]
  rfl

theorem fireOutcome_flagged {v : ValveId} {r : ValveReport} {s : State} (conducted : r.conducted = false) (noFire : r.noFire = false)
    (flag : r.fault = true ∨ r.blockAck = true) : fireOutcome v r s = (false, s) := by
  unfold fireOutcome
  rw [if_neg (by rw [conducted, noFire]; decide), if_pos (by simpa using flag)]

theorem fireOutcome_bare {v : ValveId} {r : ValveReport} {s : State} (conducted : r.conducted = false) (noFire : r.noFire = false)
    (fault : r.fault = false) (ack : r.blockAck = false) : fireOutcome v r s = (false, bump (.channel v 7) s) := by
  unfold fireOutcome
  rw [if_neg (by rw [conducted, noFire]; decide), if_neg (by rw [fault, ack]; decide)]
  rfl

theorem takeReport_sound {v : ValveId} {r : ValveReport} {s : State} (sound : r.fault = false) :
    takeReport v r s = misfireEvent (fireOutcome v r (takeBlockAck v r s)).1 v (fireOutcome v r (takeBlockAck v r s)).2 := by
  unfold takeReport raiseIf
  rw [sound]
  rfl

theorem takeReport_fault {v : ValveId} {r : ValveReport} {s : State} (fault : r.fault = true) : takeReport v r s
    = misfireEvent (fireOutcome v r (takeBlockAck v r (raise srcValveFault (faultDetail v r) s))).1 v
      (protectiveEvent .valveFault v (fireOutcome v r (takeBlockAck v r (raise srcValveFault (faultDetail v r) s))).2) := by
  unfold takeReport raiseIf
  rw [fault]
  rfl

/-- The other parts of a report do not see its FAULT flag where it tells of a firing. -/
theorem fireOutcome_faultless {v : ValveId} {r : ValveReport} {s : State} (fire : r.conducted = true ∨ r.noFire = true) :
    fireOutcome v { r with fault := false } s = fireOutcome v r s := by
  have told : (r.conducted || r.noFire) = true := by simpa using fire
  unfold fireOutcome
  rw [if_pos told, if_pos told]

/-- A report in AWAIT sets no block acknowledgement. -/
theorem takeBlockAck_await {v : ValveId} {r : ValveReport} {s : State} (await : (s.channel v).state = .await) : takeBlockAck v r s = s := by
  rw [takeBlockAck_eq, if_neg (fun both => by rw [await] at both; cases both.2)]

theorem takeBlockAck_state {v : ValveId} {r : ValveReport} {s : State} : ((takeBlockAck v r s).channel v).state = (s.channel v).state := by
  rw [takeBlockAck_eq]
  split
  · rw [State.channel_setChannel]
  · rfl

/-- Settles O17, by the flags of the report and the state of the channel. -/
theorem valveReportCapture : Obligations.ValveReportCapture := by
  unfold Obligations.ValveReportCapture
  rintro v r s ch rfl
  have told := raise_raised srcValveFault (faultDetail v r) s
  have quiet := raise_quiet srcValveFault (faultDetail v r) s
  refine ⟨?_, ?_, fun sound fire other => ?_, fun sound conducted noFire ack => ?_, fun sound conducted noFire ack => ?_,
    fun fault conducted noFire => ⟨_, told, ?_⟩, fun fault fire few => ⟨_, told, ?_⟩, ?_⟩
  · rintro error deviates y sound conducted noFire await rfl rfl rfl
    rw [takeReport_sound sound, takeBlockAck_await await, fireOutcome_captured noFire conducted await]
    show RaisedIf _ _ _ _ (capture v r.position s)
    rw [capture_eq, deviationDetail_eq]
    exact raisedIf_raiseIf ..
  · rintro n y sound noFire await rfl rfl
    rw [takeReport_sound sound, takeBlockAck_await await, fireOutcome_missed noFire await, reportedMiss_eq]
    refine ⟨fun few => ?_, fun enough => ?_⟩
    · rw [decide_eq_false (by omega)]
      rfl
    · rw [decide_eq_true enough]
      exact ⟨_, raise_raised _ _ _, protectiveEvent_taken ..⟩
  · rw [takeReport_sound sound, fireOutcome_stray fire (by rw [takeBlockAck_state]; exact other), takeBlockAck_eq]
    rfl
  · rw [takeReport_sound sound, fireOutcome_bare conducted noFire sound ack, takeBlockAck_eq, if_neg (by simp [ack])]
    rfl
  · rw [takeReport_sound sound, fireOutcome_flagged conducted noFire (.inr ack), takeBlockAck_eq]
    show (if r.blockAck = true ∧ _ then _ else _) = _
    exact if_congr (and_iff_right ack) rfl rfl
  · rw [takeReport_fault fault, fireOutcome_flagged conducted noFire (.inl fault), takeBlockAck_eq, quiet.channel]
    exact protectiveEvent_taken ..
  · have sure : (fireOutcome v r (takeBlockAck v r (raise srcValveFault (faultDetail v r) s))).1 = false := by
      by_cases await : (s.channel v).state = .await
      · have here : ((raise srcValveFault (faultDetail v r) s).channel v).state = .await := by rw [quiet.channel]; exact await
        rw [takeBlockAck_await here]
        cases noFire : r.noFire with
        | true =>
          have below := few noFire await
          rw [fireOutcome_missed noFire here, reportedMiss_eq, quiet.channel, quiet.par]
          exact decide_eq_false (by omega)
        | false => rw [fireOutcome_captured noFire (fire.resolve_right (by simp [noFire])) here]
      · rw [fireOutcome_stray fire (by rw [takeBlockAck_state, quiet.channel]; exact await)]
    have parts : takeReport v { r with fault := false } (raise srcValveFault (faultDetail v r) s)
        = (fireOutcome v r (takeBlockAck v r (raise srcValveFault (faultDetail v r) s))).2 := by
      rw [takeReport_sound rfl, fireOutcome_faultless fire]
      show misfireEvent (fireOutcome v r (takeBlockAck v r _)).1 v (fireOutcome v r (takeBlockAck v r _)).2 = _
      rw [sure]
      rfl
    rw [takeReport_fault fault, parts, sure]
    exact protectiveEvent_taken ..
  · rintro n fault noFire await rfl enough
    have here : ((raise srcValveFault (faultDetail v r) s).channel v).state = .await := by rw [quiet.channel]; exact await
    rw [takeReport_fault fault, takeBlockAck_await here, fireOutcome_missed noFire here, reportedMiss_eq, quiet.channel, quiet.par,
      decide_eq_true enough]
    exact ⟨_, _, _, told, raise_raised _ _ _, protectiveEvent_taken .., protectiveEvent_taken ..⟩

end Sys2Proof.Machine
end

section
/-! Good frames at the frame switch (R24 to R29): requests for the part, forwarding, consumption. -/

namespace Sys2Proof.Machine

/-! ### A frame taken -/

/-- Notice source m has enable bit b (R203). -/
def EnableIs (m : SourceId) (b : Bool) (s : State) : Prop := (s.notices[m]).enable = b

theorem EnableIs.congr {m : SourceId} {b : Bool} {s t : State} (h : EnableIs m b s) (same : t.notices = s.notices) : EnableIs m b t := by
  unfold EnableIs
  rw [same]
  exact h

/-- A notice source keeps its enable bit under an event (R204). -/
theorem EnableIs.raise {m : SourceId} {b : Bool} {s : State} (h : EnableIs m b s) (n : SourceId) (d : Word) : EnableIs m b (raise n d s) := by
  by_cases same : m = n
  · subst same
    have set (t : State) (e : NoticeEntry) (kept : e.enable = b) : EnableIs m b (t.setNotice m e) := by
      unfold EnableIs
      rw [setNotice_notices_self]
      exact kept
    unfold Machine.raise sendNotice
    dsimp only
    split
    · split
      · exact set _ _ h
      · split
        · refine EnableIs.congr (s := (offerQuiet _ _ _ _).setNotice m _) (set _ _ ?_) rfl
          exact h
        · refine EnableIs.congr (s := (offerQuiet _ _ _ _).setNotice m _) (set _ _ ?_) rfl
          exact h
    · exact h
  · unfold EnableIs
    rw [raise_notices_ne _ _ same]
    exact h

theorem EnableIs.raiseIf {m : SourceId} {b : Bool} {s : State} (h : EnableIs m b s) (k : Bool) (n : SourceId) (d : Word) :
    EnableIs m b (raiseIf k n d s) :=
  ite_keeps (P := EnableIs m b) k (fun _ => h.raise n d) (fun _ => h)

theorem EnableIs.modPort {m : SourceId} {b : Bool} {s : State} (h : EnableIs m b s) (p : PortId) (f : Port → Port) :
    EnableIs m b (s.modPort p f) := h.congr (State.modPort_notices ..)

theorem EnableIs.reportFire {m : SourceId} {b : Bool} {s : State} (h : EnableIs m b s) (g : GateCommand) (r : FireReport) :
    EnableIs m b (reportFire g r s) := by
  have counted (t : State) : (countReport g.valve r t).notices = t.notices := by cases r <;> rfl
  have set : (if (s.channel g.valve).isCurrent g.latest then s.setChannel g.valve ((s.channel g.valve).takeReport r g.position) else s).notices
      = s.notices := by split <;> rfl
  exact h.congr ((counted _).trans set)

theorem EnableIs.issueGate {m : SourceId} {b : Bool} {s : State} (h : EnableIs m b s) (g : GateCommand) : EnableIs m b (issueGate g s) := by
  have offered (f : Frame) : EnableIs m b (offer .south .timed f s) := by
    have quiet : EnableIs m b (offerQuiet .south .timed f s) := h.congr (offerQuiet_notices ..)
    unfold offer
    split
    · exact quiet.raiseIf _ _ _
    · exact quiet
  have told (u : State) (h : EnableIs m b u) : EnableIs m b (reportNotSent g u) := by
    unfold reportNotSent
    split
    · exact h.reportFire _ _
    · exact h
  unfold Machine.issueGate
  split
  · exact told _ (offered _)
  · split
    · exact h.modPort _ _
    · split
      · exact offered _
      · exact (told _ (offered _)).raiseIf _ _ _

/-- No move of the supervisor enables or disables a notice source. -/
theorem moveStable_enable (m : SourceId) (b : Bool) : MoveStable (EnableIs m b) where
  raise n d _ h := h.raise n d
  bump _ _ _ h := h.congr rfl
  move new c v s stops h := by
    have entered : EnableIs m b (enterState new s) := h.congr rfl
    have told := entered.raise srcOperatingState (moveDetail s.sup.state new c v)
    have blocks (u : State) (h : EnableIs m b u) : EnableIs m b (blockAll u) := by
      refine foldl_keeps (P := EnableIs m b) _ (fun t w h => ?_) _ u h
      exact ite_keeps (P := EnableIs m b) _ (fun _ => h) (fun _ => EnableIs.congr (h.issueGate _) rfl)
    unfold moveTo moveConsequences
    dsimp only
    split
    · cases stops
    · cases stops
    · refine ite_keeps (P := EnableIs m b) _ (fun _ => ?_) (fun _ => blocks _ told)
      have purged : EnableIs m b (purgeQueue (Machine.raise srcOperatingState (moveDetail s.sup.state new c v) (enterState new s))) :=
        told.modPort _ _
      exact foldl_keeps (P := EnableIs m b) _ (fun t g h => h.reportFire g _) _ _ (blocks _ purged)
  sup _ _ _ h := h.congr rfl
  tables _ _ h := h.congr rfl
  tracker _ _ _ h := h.congr rfl
  pace _ _ h := h.congr rfl

theorem EnableIs.receiveSymbols {m : SourceId} {b : Bool} {s : State} (h : EnableIs m b s) (p : PortId) (run : LineRun) :
    EnableIs m b (receiveSymbols p run s) := by
  have degraded (v : Bool) (t : State) (h : EnableIs m b t) : EnableIs m b (setDegraded p v t) :=
    ite_keeps (P := EnableIs m b) _ (fun _ => h) (fun _ => (h.modPort p _).raise _ _)
  have errored (t : State) (h : EnableIs m b t) : EnableIs m b (countErrored p t) := by
    unfold countErrored
    dsimp only
    split
    · exact degraded _ _ ((h.modPort p _).modPort p _)
    · exact h.modPort p _
  have cut : EnableIs m b (cutArrival p s) := by
    unfold cutArrival
    split
    · exact h
    · exact errored _ ((h.modPort p _).congr rfl)
  exact (ite_keeps (P := EnableIs m b) run.start (fun _ => cut) (fun _ => h)).modPort p _

theorem frameTaken_enable {m : SourceId} {b : Bool} {s : State} (h : EnableIs m b s) (p : PortId) (run : LineRun) :
    EnableIs m b (frameTaken p run s) := by
  have taken := (h.receiveSymbols p run).modPort p (fun x => { x with rx := none, invalidRun := 0 })
  unfold frameTaken
  dsimp only
  split
  · refine (moveStable_enable m b).changeLink (fun u h => h.modPort p _) (fun u h => h.modPort p _) ?_
    refine ite_keeps (P := EnableIs m b) _ (fun _ => ?_) (fun _ => taken.modPort p _)
    exact (taken.modPort p _).congr (flush_counts p _).2.2.2.2
  · exact taken

/-- What taking a frame leaves of the switch, the merge unit and the agent. -/
theorem goodTaken_kept (p : PortId) (run : LineRun) (r : RxFrame) (s : State) : (goodTaken p run r s).agent = s.agent
    ∧ (goodTaken p run r s).fwd = s.fwd ∧ (goodTaken p run r s).nodeId = s.nodeId ∧ (goodTaken p run r s).merge = s.merge := by
  obtain ⟨frame, -, -⟩ := frameTaken_link p run s
  refine ⟨frame.agent.trans ?_, frame.fwd.trans ?_, frame.nodeId.trans ?_, frame.merge.trans ?_⟩ <;> cases p <;> rfl

/-- A good frame reaches the switch (R9). -/
theorem frameArrival_good {p : PortId} {run : LineRun} {s : State} {r : RxFrame} (h : GoodFrame p run s r) :
    frameArrival p run .complete s = switchFrame p r.bytes (goodTaken p run r s) := by
  rw [frameArrival_complete h.rx]
  unfold completeFrame
  rw [h.good]
  rfl

/-! ### Offers -/

theorem queueDropDetail_eq (p : PortId) (c : TxClass) (f : Frame) : bytes4 (portCode p) (classCode c) f.kind.toNat 0
    = BitVec.ofNat 32 (portCode p * 16777216 + classCode c * 65536 + f.kind.toNat * 256) := by
  have small : portCode p < 2 ^ 8 ∧ classCode c < 2 ^ 8 := by cases p <;> cases c <;> decide
  unfold bytes4 field
  rw [Nat.mod_eq_of_lt small.1, Nat.mod_eq_of_lt small.2, Nat.mod_eq_of_lt f.kind.isLt, Nat.zero_mod, Nat.zero_mul, Nat.add_zero]
  norm_num

/-- An offer to a queue (R31). -/
theorem offer_offered (p : PortId) (c : TxClass) (f : Frame) (s : State) : Offered p c f s (offer p c f s) := by
  have kinds : (!f.isNotice) = decide (f.kind ≠ 0x33#8) := by
    unfold Frame.isNotice
    simp only [ne_eq, decide_not]
    rfl
  unfold Offered
  by_cases ready : (s.port p).transmitReady = true
  · rw [if_pos ready]
    by_cases room : ((s.port p).queue c).length < capacity c
    · rw [if_pos room]
      have outcome : offerOutcome p c s = .placed := offerOutcome_placed_iff.mpr ⟨ready, room⟩
      unfold offer offerQuiet
      rw [outcome]
    · rw [if_neg room]
      have outcome : offerOutcome p c s = .full := by
        unfold offerOutcome
        rw [if_pos ready, if_neg room]
      have full : offer p c f s = raiseIf (decide (f.kind ≠ 0x33#8)) srcQueueDrop
          (BitVec.ofNat 32 (portCode p * 16777216 + classCode c * 65536 + f.kind.toNat * 256)) (bump (.overflow p c) s) := by
        unfold offer offerQuiet
        rw [outcome]
        dsimp only
        rw [kinds, queueDropDetail_eq]
      rw [full]
      refine ⟨raiseIf_quiet .., fun other => ?_, raisedIf_raiseIf ..⟩
      have kept : Spares (.overflow p c) (s.counter (.overflow p c) + 1) (bump (.overflow p c) s) :=
        ⟨fun told => by cases c <;> first | exact absurd rfl other | exact Bool.noConfusion told, counter_bump_self ..⟩
      exact (kept.raiseIf _ _ _).reads
  · rw [if_neg ready]
    have outcome : offerOutcome p c s = .notReady := if_neg ready
    unfold offer offerQuiet
    rw [outcome]

/-! ### Requests for the part -/

/-- Settles O13, by the room of the request queue. -/
theorem accessRequestArrives : Obligations.AccessRequestArrives := by
  unfold Obligations.AccessRequestArrives
  rintro p run r s y q good kind dest rfl rfl
  obtain ⟨agent, -, node, -⟩ := goodTaken_kept p run r s
  have receives : (s.port p).link.receives = true := (receives_iff _).mpr good.receives
  obtain ⟨link, rx, -⟩ := frameTaken_port p run s receives
  have arrives : frameArrival p run .complete s = queueRequest (requestOf (payloadOf r.bytes) (sourceOf r.bytes) p)
      (bump (.consumed p) (goodTaken p run r s)) := by
    rw [frameArrival_good good]
    exact if_pos ⟨kind, by rw [node]; exact dest⟩
  refine ⟨fun _ => ⟨frameTaken_link p run s, link, rx⟩, fun up => ?_, _, congrArg Host.Outcome.next arrives, fun room => ?_, ?_⟩
  · unfold frameTaken
    exact if_neg (by rw [up]; decide)
  · have queued : (bump (.consumed p) (goodTaken p run r s)).agent = s.agent := agent
    unfold queueRequest
    rw [queued, if_pos room]
    rfl
  · have queued : (bump (.consumed p) (goodTaken p run r s)).agent = s.agent := agent
    obtain ⟨q, hq⟩ : ∃ q, q = requestOf (payloadOf r.bytes) (sourceOf r.bytes) p := ⟨_, rfl⟩
    obtain ⟨y, hy⟩ : ∃ y, y = bump .refusedAtArrival (bump (.consumed p) (goodTaken p run r s)) := ⟨_, rfl⟩
    have refused (full : 4 ≤ s.agent.queue.length) : queueRequest q (bump (.consumed p) (goodTaken p run r s))
        = answer (q.operation == 3#8) q .busy [] y := by
      rw [hy]
      unfold queueRequest
      rw [queued, if_neg (by omega)]
    rw [← hq, ← hy]
    refine ⟨fun full => ?_, fun full replied => ?_, fun full posted silent => ?_, fun full posted => ?_⟩
    · rw [refused full]
      have quiet : QuietFrame y (answer (q.operation == 3#8) q .busy [] y) := by
        unfold answer
        split
        · exact raiseIf_quiet ..
        · exact offer_access_quiet ..
      exact ⟨quiet, quiet.agent.trans (by rw [hy]; exact agent)⟩
    · rw [refused full]
      unfold answer
      rw [if_neg (by simpa using replied)]
      exact sendReply_given ..
    · rw [refused full]
      unfold answer
      rw [if_pos (by simpa using posted)]
      refine raiseIf_disabled ?_
      rw [hy]
      exact (frameTaken_enable (m := 21) (b := false) silent p run).congr rfl
    · rw [refused full]
      have detail : accessErrorDetail q .busy = BitVec.ofNat 32 (q.tag.toNat * 65536 + 3 * 256 + 1) := by
        rw [accessErrorDetail_eq, posted]
        rfl
      unfold answer
      rw [if_pos (by simpa using posted), ← detail]
      exact raise_raised _ _ _

end Sys2Proof.Machine
end

section
/-! The forwarding table and the consumption of frames (R26 to R28). -/

namespace Sys2Proof.Machine

/-! ### The deciding entry -/

theorem entryIds_eq : entryIds = List.finRange 16 := by decide

/-- The first element of an index list that meets a condition. -/
theorem find?_finRange {n : Nat} {f : Fin n → Bool} {i : Fin n} (h : (List.finRange n).find? f = some i) :
    f i = true ∧ ∀ j, j < i → f j = false := by
  obtain ⟨meets, k, short, here, before⟩ := List.find?_eq_some_iff_getElem.mp h
  have index : k = i.val := by simpa using congrArg Fin.val here
  subst index
  refine ⟨meets, fun j lower => ?_⟩
  have missed := before j.val lower
  simpa using missed

theorem find?_finRange_of {n : Nat} {f : Fin n → Bool} {i : Fin n} (meets : f i = true) (before : ∀ j, j < i → f j = false) :
    (List.finRange n).find? f = some i := by
  rw [List.find?_eq_some_iff_getElem]
  refine ⟨meets, i.val, by simp, by simp, fun k lower => ?_⟩
  have missed := before ⟨k, by omega⟩ lower
  simpa using missed

theorem find?_finRange_none {n : Nat} {f : Fin n → Bool} (misses : ∀ i, f i = false) : (List.finRange n).find? f = none := by
  rw [List.find?_eq_none]
  intro i _
  rw [misses i]
  exact Bool.false_ne_true

/-- The entry that decides is the first enabled match (R26). -/
theorem matchingEntry_first {p : PortId} {bytes : List Byte} {s : State} {i : Fin 16} (h : matchingEntry p bytes s = some i) :
    (s.fwd[i]).matches s.nodeId p bytes = true ∧ ∀ j, j < i → (s.fwd[j]).matches s.nodeId p bytes = false := by
  unfold matchingEntry at h
  rw [entryIds_eq] at h
  exact find?_finRange h

/-! ### The switch by the deciding entry -/

/-- A good frame that the built-in test does not take, at the switch (R24, R26). -/
theorem switchFrame_goodTaken {p : PortId} {run : LineRun} {r : RxFrame} {s : State}
    (other : ¬(byteAt r.bytes 1 = 0x31#8 ∧ destOf r.bytes = s.nodeId)) :
    (∀ i, matchingEntry p r.bytes s = some i → switchFrame p r.bytes (goodTaken p run r s)
      = act (s.fwd[i]).action (s.fwd[i]).classPass p r.bytes (bump (.hit i) (goodTaken p run r s)))
    ∧ (matchingEntry p r.bytes s = none → destOf r.bytes = s.nodeId →
      switchFrame p r.bytes (goodTaken p run r s) = consume p r.bytes (goodTaken p run r s))
    ∧ (matchingEntry p r.bytes s = none → destOf r.bytes ≠ s.nodeId →
      switchFrame p r.bytes (goodTaken p run r s) = forward p true r.bytes (goodTaken p run r s)) := by
  obtain ⟨-, fwd, node, -⟩ := goodTaken_kept p run r s
  have entry : matchingEntry p r.bytes (goodTaken p run r s) = matchingEntry p r.bytes s := by
    unfold matchingEntry
    rw [fwd, node]
  have builtIn : ¬(byteAt r.bytes 1 = kindAccessRequest ∧ destOf r.bytes = (goodTaken p run r s).nodeId) := by
    rw [node]
    exact other
  unfold switchFrame
  rw [if_neg builtIn, entry]
  refine ⟨fun i found => ?_, fun none_ dest => ?_, fun none_ dest => ?_⟩
  · rw [found, fwd]
  · rw [none_, node]
    exact if_pos dest
  · rw [none_, node]
    exact if_neg dest

theorem consume_other {p : PortId} {bytes : List Byte} {y : State} (measure : byteAt bytes 1 ≠ 0x11#8) (report : byteAt bytes 1 ≠ 0x23#8) :
    consume p bytes y = bump (.unclaimed p) y := (if_neg measure).trans (if_neg report)

theorem consume_measure {p : PortId} {bytes : List Byte} {y : State} (measure : byteAt bytes 1 = 0x11#8) : consume p bytes y
    = match streamOf (sourceOf bytes) y with
      | some i => consumeMeasure i bytes (bump (.consumed p) y)
      | none => bump (.unclaimed p) y := if_pos measure

theorem consume_report {p : PortId} {bytes : List Byte} {y : State} (report : byteAt bytes 1 = 0x23#8) : consume p bytes y
    = match reportValve p bytes with
      | some v => takeReport v (valveReport (payloadOf bytes)) (bump (.consumed p) y)
      | none => bump (.unclaimed p) y := by
  have measure : ¬(byteAt bytes 1 = kindMeasure) := by
    rw [report]
    decide
  exact (if_neg measure).trans (if_pos report)

/-- Settles O14, by the deciding entry. -/
theorem framesAreForwarded : Obligations.FramesAreForwarded := by
  unfold Obligations.FramesAreForwarded
  rintro p run r s y good rfl other
  obtain ⟨decided, own, elsewhere⟩ := switchFrame_goodTaken (p := p) (run := run) other
  refine ⟨_, congrArg Host.Outcome.next (frameArrival_good good), fun i found drop => ?_, fun i found forwards => ?_, fun none_ dest => ?_,
    fun none_ dest measure report => ?_, fun i found => matchingEntry_first found⟩
  · rw [decided i found, drop]
    rfl
  · rw [decided i found, forwards]
    exact offer_offered ..
  · rw [elsewhere none_ dest]
    exact offer_offered ..
  · rw [own none_ dest]
    exact consume_other measure report

/-! ### Consumption -/

theorem streamOf_some {source : Byte} {s : State} {i : StreamId} (enabled : (s.merge.table[i]).enable = true)
    (named : (s.merge.table[i]).source = source)
    (first : ∀ j : StreamId, j < i → ¬((s.merge.table[j]).enable = true ∧ (s.merge.table[j]).source = source)) :
    streamOf source s = some i := by
  unfold streamOf
  rw [streamIds_eq]
  exact find?_finRange_of (by simpa using And.intro enabled named) (fun j lower => by simpa using first j lower)

theorem streamOf_none {source : Byte} {s : State}
    (no : ∀ j : StreamId, ¬((s.merge.table[j]).enable = true ∧ (s.merge.table[j]).source = source)) : streamOf source s = none := by
  unfold streamOf
  rw [streamIds_eq]
  exact find?_finRange_none (fun j => by simpa using no j)

theorem reportValve_some {bytes : List Byte} {v : ValveId} (named : (byteAt (payloadOf bytes) 0).toNat = v) :
    reportValve .south bytes = some v := by
  unfold reportValve
  simp only [named]
  exact (dif_pos v.isLt).trans (if_pos trivial)

theorem reportValve_none {p : PortId} {bytes : List Byte} (no : p = .north ∨ 6 ≤ (byteAt (payloadOf bytes) 0).toNat) :
    reportValve p bytes = none := by
  unfold reportValve
  dsimp only
  split
  · next small => exact if_neg (fun south => by rcases no with north | large <;> [cases south.symm.trans north; omega])
  · rfl

/-- A consumed frame reaches the block of its kind (R28). -/
theorem consume_consumed (p : PortId) (bytes : List Byte) (y : State) : Consumed p bytes y (consume p bytes y) := by
  refine ⟨fun measure => ⟨fun i enabled named first => ?_, fun no => ?_⟩, fun report => ⟨fun v south named => ?_, fun no => ?_⟩,
    fun measure report => ?_⟩
  · rw [consume_measure measure, streamOf_some enabled named first]
    rfl
  · rw [consume_measure measure, streamOf_none no]
  · subst south
    rw [consume_report report, reportValve_some named]
  · rw [consume_report report, reportValve_none no]
  · exact consume_other measure report

/-- Settles O15, by the deciding entry. -/
theorem consumedFramesReachTheirBlock : Obligations.ConsumedFramesReachTheirBlock := by
  unfold Obligations.ConsumedFramesReachTheirBlock
  rintro p run r s y good rfl other
  obtain ⟨decided, own, -⟩ := switchFrame_goodTaken (p := p) (run := run) other
  have arrives : exec (.frameArrival p run .complete) s = .next (switchFrame p r.bytes (goodTaken p run r s)) :=
    congrArg Host.Outcome.next (frameArrival_good good)
  refine ⟨fun none_ dest => ⟨_, arrives, ?_⟩, fun i found consumes => ⟨_, arrives, ?_⟩, fun i found copies => ⟨_, _, arrives,
    consume_consumed p r.bytes _, ?_⟩⟩
  · rw [own none_ dest]
    exact consume_consumed ..
  · rw [decided i found, consumes]
    exact consume_consumed ..
  · rw [decided i found, copies]
    exact offer_offered ..

end Sys2Proof.Machine
end

section
/-! The close of a row (R52, R61 to R67). -/

namespace Sys2Proof.Machine

/-! ### The window test -/

/-- The window test counts overruns and windows not formed, and besides these what an activation may (R91, R92). -/
theorem testWindows_counter (s : State) {c : Counter} (h : c.bySupervisor = false) (overrun : c ≠ .passesOverrun)
    (formed : c ≠ .windowsNotFormed) : (testWindows s).counter c = s.counter c := by
  have notes : c.byNotices = false := by
    cases e : c.byNotices with
    | false => rfl
    | true => rw [Counter.bySupervisor_of_byGates (Counter.byGates_of_byNotices e)] at h; cases h
  have starts (b : Pos) (t : State) : (windowCompleteEvent b t).counter c = t.counter c := by
    unfold windowCompleteEvent
    split
    · have started : (startPass b t).counter c = (activatePending t).counter c := by
        unfold startPass
        generalize activatePending t = u
        rfl
      rw [started, (activatePending_frame t).counts c h]
    · rw [(raise_quiet _ _ _).notes c notes, counter_bump_of_ne _ (Ne.symm overrun)]
  have tests (fuel : Nat) (t : State) : (windowTest fuel t).counter c = t.counter c := by
    induction fuel generalizing t with
    | zero => rfl
    | succ fuel ih =>
      unfold windowTest
      split
      · rfl
      · split
        · rw [ih]
          split
          · exact starts _ _
          · exact counter_bump_of_ne _ (Ne.symm formed)
        · rfl
  exact tests _ s

theorem testWindows_merge (s : State) : (testWindows s).merge = s.merge := ((coreStable_sameStores s).testWindows s (.refl s)).merge

/-! ### Stage 1: the streams -/

/-- The status that a close gives an enabled stream (R52, R62). -/
def closedStatus (m : Merge) (r : Row) (i : StreamId) : StreamStatus :=
  match r.slots[i] with
  | some slot => (m.status[i]).onFilled slot.values
  | none => (m.status[i]).onUnfilled (m.table[i]).holdLimit.toNat

/-- The status records after stage 1 for one stream. -/
def closeStep (m : Merge) (r : Row) (status : Vector StreamStatus 8) (i : StreamId) : Vector StreamStatus 8 :=
  if (m.table[i]).enable = true then status.set i (closedStatus m r i) else status

theorem closeStep_self (m : Merge) (r : Row) (status : Vector StreamStatus 8) (i : StreamId) :
    (closeStep m r status i)[i] = if (m.table[i]).enable = true then closedStatus m r i else status[i] := by
  unfold closeStep
  split
  · exact Vector.getElem_set_self ..
  · rfl

theorem closeStep_ne (m : Merge) (r : Row) (status : Vector StreamStatus 8) {i j : StreamId} (other : i ≠ j) :
    (closeStep m r status j)[i] = status[i] := by
  unfold closeStep
  split
  · exact Vector.getElem_set_ne _ _ (fun h => other (Fin.ext h.symm))
  · rfl

theorem closeStream_merge (m : Merge) (r : Row) (s : State) (i : StreamId) :
    (closeStream m r s i).merge = { s.merge with status := closeStep m r s.merge.status i } := by
  unfold closeStream closeStep closedStatus
  by_cases on : (m.table[i]).enable = true
  · rw [if_pos on, if_pos on]
    cases r.slots[i] with
    | some slot => exact putStatus_merge ..
    | none =>
      have counted (b : Bool) : (bumpStream i 6 (if b = true then bumpStream i 5 s else s)).merge = s.merge := by cases b <;> rfl
      dsimp only
      rw [putStatus_merge, counted]
  · rw [if_neg on, if_neg on]

/-- What the streams taken in order leave of the merge unit: the status records of the enabled ones. -/
theorem closeStreams_merge (m : Merge) (r : Row) (l : List StreamId) (once : l.Nodup) (s : State) :
    (l.foldl (closeStream m r) s).merge = { s.merge with status := (l.foldl (closeStream m r) s).merge.status }
    ∧ ∀ i : StreamId, (l.foldl (closeStream m r) s).merge.status[i]
      = if i ∈ l ∧ (m.table[i]).enable = true then closedStatus m r i else s.merge.status[i] := by
  induction l generalizing s with
  | nil => exact ⟨rfl, fun i => (if_neg (by simp)).symm⟩
  | cons j l ih =>
    obtain ⟨fresh, once⟩ := List.nodup_cons.mp once
    obtain ⟨rest, each⟩ := ih once (closeStream m r s j)
    rw [List.foldl_cons]
    refine ⟨?_, fun i => ?_⟩
    · rw [rest, closeStream_merge]
    · rw [each, closeStream_merge]
      show (if i ∈ l ∧ _ then _ else (closeStep m r s.merge.status j)[i]) = _
      by_cases same : i = j
      · subst same
        rw [if_neg (fun both => fresh both.1), closeStep_self]
        exact if_congr (by simp) rfl rfl
      · rw [closeStep_ne _ _ _ same]
        exact if_congr (by simp [same]) rfl rfl

theorem putStatus_counter (i : StreamId) (x : StreamStatus) (s : State) {c : Counter} (h : c.bySupervisor = false) :
    (putStatus i x s).counter c = s.counter c := by
  have notes : c.byNotices = false := by
    cases e : c.byNotices with
    | false => rfl
    | true => rw [Counter.bySupervisor_of_byGates (Counter.byGates_of_byNotices e)] at h; cases h
  unfold putStatus
  dsimp only
  split
  · rfl
  · exact ((updateItems_frame _ _).counts c h).trans ((raise_quiet _ _ _).notes c notes)

/-- A close counts a missing row, counter 6, and a held one, counter 5, at a stream whose slot is unfilled (R62). -/
def missCounted (m : Merge) (r : Row) (i : StreamId) (n : Fin 7) : Prop :=
  (m.table[i]).enable = true ∧ r.slots[i] = none ∧ (n = 6 ∨ n = 5 ∧ (rowValue m r i).isSome = true)

theorem closeStream_counter (m : Merge) (r : Row) (s : State) (i j : StreamId) (n : Fin 7) :
    (i = j ∧ missCounted m r i n → (closeStream m r s i).counter (.stream j n) = s.counter (.stream j n) + 1)
    ∧ (¬(i = j ∧ missCounted m r i n) → (closeStream m r s i).counter (.stream j n) = s.counter (.stream j n)) := by
  have counted (b : Bool) (t : State) (h : t = bumpStream i 6 (if b = true then bumpStream i 5 s else s)) :
      (i = j ∧ (n = 6 ∨ n = 5 ∧ b = true) → t.counter (.stream j n) = s.counter (.stream j n) + 1)
      ∧ (¬(i = j ∧ (n = 6 ∨ n = 5 ∧ b = true)) → t.counter (.stream j n) = s.counter (.stream j n)) := by
    have held : (if b = true then bumpStream i 5 s else s).counter (.stream j n)
        = if i = j ∧ n = 5 ∧ b = true then s.counter (.stream j n) + 1 else s.counter (.stream j n) := by
      by_cases here : i = j ∧ n = 5 ∧ b = true
      · obtain ⟨rfl, rfl, on⟩ := here
        rw [if_pos on, if_pos ⟨rfl, rfl, on⟩]
        exact counter_bump_self ..
      · rw [if_neg here]
        split
        · next on => exact counter_bump_of_ne _ (fun same => by injection same with a c; exact here ⟨a, c.symm, on⟩)
        · rfl
    rw [h]
    refine ⟨fun both => ?_, fun neither => ?_⟩
    · obtain ⟨rfl, rfl | ⟨rfl, on⟩⟩ := both
      · refine (counter_bump_self ..).trans ?_
        rw [held, if_neg (by simp)]
      · refine (counter_bump_of_ne _ (by simp)).trans ?_
        rw [held, if_pos ⟨rfl, rfl, on⟩]
    · refine (counter_bump_of_ne _ (fun same => by injection same with a c; exact neither ⟨a, .inl c.symm⟩)).trans ?_
      rw [held, if_neg (fun all => neither ⟨all.1, .inr all.2⟩)]
  unfold closeStream missCounted
  by_cases on : (m.table[i]).enable = true
  · rw [if_pos on]
    cases slot : r.slots[i] with
    | some x => exact ⟨fun both => by simp at both, fun _ => putStatus_counter _ _ _ rfl⟩
    | none =>
      dsimp only
      rw [putStatus_counter _ _ _ rfl]
      obtain ⟨yes, no⟩ := counted (rowValue m r i).isSome _ rfl
      exact ⟨fun both => yes ⟨both.1, both.2.2.2⟩, fun neither => no (fun both => neither ⟨both.1, on, rfl, both.2⟩)⟩
  · rw [if_neg on]
    exact ⟨fun both => absurd both.2.1 on, fun _ => rfl⟩

theorem closeStreams_counter (m : Merge) (r : Row) (l : List StreamId) (once : l.Nodup) (s : State) (j : StreamId) (n : Fin 7) :
    (j ∈ l ∧ missCounted m r j n → (l.foldl (closeStream m r) s).counter (.stream j n) = s.counter (.stream j n) + 1)
    ∧ (¬(j ∈ l ∧ missCounted m r j n) → (l.foldl (closeStream m r) s).counter (.stream j n) = s.counter (.stream j n)) := by
  induction l generalizing s with
  | nil => exact ⟨fun both => by simp at both, fun _ => rfl⟩
  | cons i l ih =>
    obtain ⟨fresh, once⟩ := List.nodup_cons.mp once
    obtain ⟨yes, no⟩ := ih once (closeStream m r s i)
    obtain ⟨here, other⟩ := closeStream_counter m r s i j n
    rw [List.foldl_cons]
    by_cases same : i = j
    · subst same
      rw [no (fun both => fresh both.1)]
      exact ⟨fun both => here ⟨rfl, both.2⟩, fun neither => other (fun both => neither ⟨List.mem_cons_self, both.2⟩)⟩
    · rw [other (fun both => same both.1)] at yes no
      exact ⟨fun both => yes ⟨(List.mem_cons.mp both.1).resolve_left (Ne.symm same), both.2⟩,
        fun neither => no (fun both => neither ⟨List.mem_cons_of_mem _ both.1, both.2⟩)⟩

/-! ### Stages 2 to 4 -/

/-- The merge unit after the selection (R63). -/
def selectedMerge (m : Merge) : Merge :=
  { m with
    mainRun := if m.roleLocked .voltageMain then countUp m.mainRun else 0
    selection := selectVoltage m.selection (m.roleLocked .voltageMain) (m.roleLocked .voltageStandby)
      (if m.roleLocked .voltageMain then countUp m.mainRun else 0) }

theorem closeSelection_merge (index : Word) (s : State) : (closeSelection index s).merge = selectedMerge s.merge := by
  unfold closeSelection
  exact iteInduction (motive := fun t : State => t.merge = selectedMerge s.merge) (fun _ => rfl)
    (fun _ => by rw [(updateItems_frame _ _).merge, (raise_quiet _ _ _).merge]; rfl)

theorem closeSelection_counter (index : Word) (s : State) (j : StreamId) (n : Fin 7) :
    (closeSelection index s).counter (.stream j n) = s.counter (.stream j n) := by
  unfold closeSelection
  exact iteInduction (motive := fun t : State => t.counter (.stream j n) = s.counter (.stream j n)) (fun _ => rfl)
    (fun _ => by rw [(updateItems_frame _ _).counts _ rfl, (raise_quiet _ _ _).notes _ rfl]; rfl)

/-- The streams of the row in order, from what stands before the close. -/
def streamsClosed (r : Row) (s : State) : State := streamIds.foldl (closeStream s.merge r) s

theorem streamIds_nodup : streamIds.Nodup := by decide

theorem mem_streamIds (i : StreamId) : i ∈ streamIds := by
  rw [streamIds_eq]
  exact List.mem_finRange i

theorem streamsClosed_merge (r : Row) (s : State) : (streamsClosed r s).merge = { s.merge with status := (streamsClosed r s).merge.status } :=
  (closeStreams_merge s.merge r streamIds streamIds_nodup s).1

theorem streamsClosed_status (r : Row) (s : State) (i : StreamId) : (streamsClosed r s).merge.status[i]
    = if (s.merge.table[i]).enable = true then closedStatus s.merge r i else s.merge.status[i] := by
  rw [show (streamsClosed r s).merge.status[i] = _ from (closeStreams_merge s.merge r streamIds streamIds_nodup s).2 i]
  exact if_congr (and_iff_right (mem_streamIds i)) rfl rfl

/-- The merge unit after a close (R61 to R67). -/
theorem closeRow_merge (r : Row) (s : State) : (closeRow r s).merge = { selectedMerge (streamsClosed r s).merge with
    history := appendSet (compositeOf s.merge (selectedMerge (streamsClosed r s).merge) r) s.merge.history,
    lastClosed := r.index, rows := s.merge.rows.tail } := by
  have selected := closeSelection_merge r.index (streamsClosed r s)
  have streams := streamsClosed_merge r s
  have closed : closeRow r s = closeAppend (compositeOf s.merge (closeSelection r.index (streamsClosed r s)).merge r)
      (closeSelection r.index (streamsClosed r s)) := rfl
  have history : (selectedMerge (streamsClosed r s).merge).history = s.merge.history := by
    rw [streams]
    rfl
  have rows : (selectedMerge (streamsClosed r s).merge).rows = s.merge.rows := by
    rw [streams]
    rfl
  rw [closed]
  unfold closeAppend
  rw [testWindows_merge, State.setMerge_merge, selected, history, rows]
  rfl

theorem closeRow_counter (r : Row) (s : State) (j : StreamId) (n : Fin 7) :
    (closeRow r s).counter (.stream j n) = (streamsClosed r s).counter (.stream j n) := by
  have closed : closeRow r s = closeAppend (compositeOf s.merge (closeSelection r.index (streamsClosed r s)).merge r)
      (closeSelection r.index (streamsClosed r s)) := rfl
  rw [closed]
  unfold closeAppend
  rw [testWindows_counter _ rfl (by simp) (by simp)]
  exact closeSelection_counter r.index _ j n

/-! ### The streams of a role -/

theorem roleEntry_iff (m : Merge) (o : Role) (i : StreamId) : m.roleEntry o = some i ↔ (m.table[i]).enable = true ∧ (m.table[i]).role = o
    ∧ ∀ j : StreamId, j < i → ¬((m.table[j]).enable = true ∧ (m.table[j]).role = o) := by
  unfold Merge.roleEntry
  rw [streamIds_eq]
  refine ⟨fun found => ?_, fun ⟨enabled, role, before⟩ => ?_⟩
  · obtain ⟨meets, before⟩ := find?_finRange found
    have both := by simpa using meets
    exact ⟨both.1, both.2, fun j lower => by simpa using before j lower⟩
  · exact find?_finRange_of (by simpa using And.intro enabled role) (fun j lower => by simpa using before j lower)

theorem roleLocked_iff (m : Merge) (o : Role) : m.roleLocked o = true ↔ ∃ i, m.roleEntry o = some i ∧ (m.status[i]).state = .locked := by
  unfold Merge.roleLocked
  cases entry : m.roleEntry o with
  | none => exact ⟨fun no => Bool.noConfusion no, fun ⟨i, found, _⟩ => by cases found⟩
  | some i =>
    have enabled := ((roleEntry_iff m o i).mp entry).1
    have locked : m.lockedStream i = true ↔ (m.status[i]).state = .locked := by
      unfold Merge.lockedStream
      rw [enabled, Bool.true_and, beq_iff_eq]
    refine ⟨fun yes => ⟨i, rfl, locked.mp yes⟩, fun ⟨j, found, yes⟩ => ?_⟩
    obtain rfl : i = j := Option.some.inj found
    exact locked.mpr yes

/-! ### The composite set -/

/-- The values that an index list gives: those of the indices that meet p. -/
def valuesOf (p : StreamId → Bool) (f : StreamId → Option RowValue) (l : List StreamId) : List RowValue := (l.filter p).filterMap f

theorem valuesOf_cons (p : StreamId → Bool) (f : StreamId → Option RowValue) (i : StreamId) (l : List StreamId) :
    valuesOf p f (i :: l) = (if p i = true then (f i).toList else []) ++ valuesOf p f l := by
  unfold valuesOf
  by_cases meets : p i = true
  · rw [List.filter_cons_of_pos meets, if_pos meets, List.filterMap_cons]
    cases f i <;> rfl
  · rw [List.filter_cons_of_neg meets, if_neg meets, List.nil_append]

theorem valuesOf_sum (p : StreamId → Bool) (f : StreamId → Option RowValue) (g : RowValue → Int) (l : List StreamId) :
    ((valuesOf p f l).map g).sum = (l.map (fun i => if p i = true then ((f i).map g).getD 0 else 0)).sum := by
  induction l with
  | nil => rfl
  | cons i l ih =>
    rw [valuesOf_cons, List.map_append, List.sum_append, ih, List.map_cons, List.sum_cons]
    congr 1
    split
    · cases f i <;> simp
    · rfl

theorem valuesOf_any (p : StreamId → Bool) (f : StreamId → Option RowValue) (q : RowValue → Bool) :
    (valuesOf p f streamIds).any q = true ↔ ∃ i x, p i = true ∧ f i = some x ∧ q x = true := by
  rw [List.any_eq_true]
  constructor
  · rintro ⟨x, mem, meets⟩
    obtain ⟨i, inside, here⟩ := List.mem_filterMap.mp mem
    exact ⟨i, x, (List.mem_filter.mp inside).2, here, meets⟩
  · rintro ⟨i, x, inside, here, meets⟩
    exact ⟨x, List.mem_filterMap.mpr ⟨i, List.mem_filter.mpr ⟨mem_streamIds i, inside⟩, here⟩, meets⟩

/-- One phase of the sum of value triples (R65). -/
theorem phases_foldl {pick : Phases → Int} (phase : pick = Phases.a ∨ pick = Phases.b ∨ pick = Phases.c) (l : List RowValue) (acc : Phases) :
    pick (l.foldl (fun acc x => acc.add x.values) acc) = pick acc + (l.map (fun x => pick x.values)).sum := by
  have adds (p q : Phases) : pick (p.add q) = pick p + pick q := by rcases phase with rfl | rfl | rfl <;> rfl
  induction l generalizing acc with
  | nil => simp
  | cons x l ih => rw [List.foldl_cons, ih, adds, List.map_cons, List.sum_cons, Int.add_assoc]

/-- The enabled FEEDER entries in LOCKED. -/
def lockedFeeder (m : Merge) (i : StreamId) : Bool := m.isFeeder i && m.lockedStream i

theorem lockedFeeder_iff (m : Merge) (i : StreamId) : lockedFeeder m i = true
    ↔ (m.table[i]).enable = true ∧ (m.table[i]).role = .feeder ∧ (m.status[i]).state = .locked := by
  unfold lockedFeeder Merge.isFeeder Merge.lockedStream
  simp only [Bool.and_eq_true, beq_iff_eq]
  exact ⟨fun h => ⟨h.1.1, h.1.2, h.2.2⟩, fun h => ⟨⟨h.1, h.2.1⟩, h.1, h.2.2⟩⟩

theorem compositeOf_current {before after : Merge} {r : Row} {pick : Phases → Int}
    (phase : pick = Phases.a ∨ pick = Phases.b ∨ pick = Phases.c) : pick (compositeOf before after r).i
      = max (-32767) (min 32767 ((List.finRange 8).map (fun i => if lockedFeeder after i = true
          then ((rowValue before r i).map (fun x => pick x.values)).getD 0 else 0)).sum) := by
  have saturated (x : Phases) : pick x.sat = max (-32767) (min 32767 (pick x)) := by
    rcases phase with rfl | rfl | rfl <;> exact saturate_eq _ _ _ (by decide)
  have zero : pick Phases.zero = 0 := by rcases phase with rfl | rfl | rfl <;> rfl
  have values : (compositeOf before after r).i
      = ((valuesOf (lockedFeeder after) (rowValue before r) streamIds).foldl (fun acc x => acc.add x.values) Phases.zero).sat := rfl
  rw [values, saturated, phases_foldl phase, zero, Int.zero_add, valuesOf_sum, streamIds_eq]

/-- The values of the selected stream (R64, R65). -/
def rowVoltage (before after : Merge) (r : Row) : Option RowValue :=
  match after.selected with
  | some i => rowValue before r i
  | none => none

theorem compositeOf_voltage (before after : Merge) (r : Row) :
    (compositeOf before after r).v = ((rowVoltage before after r).map (fun x => x.values)).getD Phases.zero
    ∧ (compositeOf before after r).quality.substitutedV = ((rowVoltage before after r).map (fun x => x.held)).getD false
    ∧ ((compositeOf before after r).quality.overrange = true
      ↔ ((rowVoltage before after r).map (fun x => x.overrange)).getD false = true
        ∨ ∃ i x, lockedFeeder after i = true ∧ rowValue before r i = some x ∧ x.overrange = true) := by
  have split {α : Type} (o : Option RowValue) (f : RowValue → α) (d : α) : (match o with
    | some x => f x
    | none => d) = (o.map f).getD d := by cases o <;> rfl
  refine ⟨split (rowVoltage before after r) (fun x => x.values) Phases.zero,
    split (rowVoltage before after r) (fun x => x.held) false, ?_⟩
  have flag : (compositeOf before after r).quality.overrange = (((rowVoltage before after r).map (fun x => x.overrange)).getD false
      || (valuesOf (lockedFeeder after) (rowValue before r) streamIds).any (fun x => x.overrange)) :=
    congrArg (fun b : Bool => b || (valuesOf (lockedFeeder after) (rowValue before r) streamIds).any (fun x => x.overrange))
      (split (rowVoltage before after r) (fun x => x.overrange) false)
  rw [flag, Bool.or_eq_true, valuesOf_any]

theorem compositeOf_substitutedI (before after : Merge) (r : Row) : (compositeOf before after r).quality.substitutedI = true
    ↔ ∃ i x, lockedFeeder after i = true ∧ rowValue before r i = some x ∧ x.held = true :=
  valuesOf_any (lockedFeeder after) (rowValue before r) (fun x => x.held)

theorem compositeOf_feederIncomplete (before after : Merge) (r : Row) : (compositeOf before after r).quality.feederIncomplete = true
    ↔ ∃ i : StreamId, (after.table[i]).enable = true ∧ (after.table[i]).role = .feeder ∧ (after.status[i]).state ≠ .locked := by
  have flag : (compositeOf before after r).quality.feederIncomplete
      = streamIds.any (fun i => after.isFeeder i && !after.lockedStream i) := rfl
  rw [flag, List.any_eq_true]
  have each (i : StreamId) : (after.isFeeder i && !after.lockedStream i) = true
      ↔ (after.table[i]).enable = true ∧ (after.table[i]).role = .feeder ∧ (after.status[i]).state ≠ .locked := by
    unfold Merge.isFeeder Merge.lockedStream
    cases (after.table[i]).enable <;> simp
  exact ⟨fun ⟨i, _, h⟩ => ⟨i, (each i).mp h⟩, fun ⟨i, h⟩ => ⟨i, mem_streamIds i, (each i).mpr h⟩⟩

/-- The status that an unfilled slot leaves, by the state before (R52). -/
theorem onUnfilled_of_counted {x : StreamStatus} {limit : Nat} (counted : x.state = .acquiring ∨ x.state = .locked) :
    x.onUnfilled limit
      = { state := if limit ≤ countUp x.missing then .lost else x.state, filled := 0, missing := countUp x.missing, last := x.last } := by
  unfold StreamStatus.onUnfilled
  rcases counted with state | state <;> rw [state]

theorem onUnfilled_of_quiet {x : StreamStatus} {limit : Nat} (quiet : x.state = .silent ∨ x.state = .lost) :
    x.onUnfilled limit = { x with missing := countUp x.missing } := by
  unfold StreamStatus.onUnfilled
  rcases quiet with state | state <;> rw [state]

theorem onUnfilled_locked_iff (x : StreamStatus) (limit : Nat) :
    (x.onUnfilled limit).state = .locked ↔ x.state = .locked ∧ countUp x.missing < limit := by
  cases state : x.state with
  | acquiring | locked =>
    rw [onUnfilled_of_counted (by simp [state]), state]
    dsimp only
    split <;> simp <;> omega
  | silent | lost =>
    rw [onUnfilled_of_quiet (by simp [state])]
    simp [state]
  | disabled =>
    unfold StreamStatus.onUnfilled
    rw [state]
    simp [state]

theorem onFilled_of_acquiring {x : StreamStatus} {values : Phases} (state : x.state = .acquiring) : x.onFilled values
    = { state := if 16 ≤ countUp x.filled then .locked else .acquiring, filled := countUp x.filled, missing := 0, last := values } := by
  unfold StreamStatus.onFilled
  rw [state]
  dsimp only
  split <;> rfl

theorem onFilled_of_counted {x : StreamStatus} {values : Phases} (counted : x.state = .locked ∨ x.state = .lost) :
    x.onFilled values = { state := x.state, filled := countUp x.filled, missing := 0, last := values } := by
  unfold StreamStatus.onFilled
  rcases counted with state | state <;> rw [state]

theorem rowValue_eq (m : Merge) (r : Row) (i : StreamId) : rowValue m r i = match r.slots[i] with
    | some slot => some { values := slot.values, overrange := slot.overrange, held := false }
    | none =>
      if (m.status[i]).state = .locked ∧ min 65535 ((m.status[i]).missing + 1) < (m.table[i]).holdLimit.toNat then
        some { values := (m.status[i]).last, overrange := false, held := true }
      else none := by
  unfold rowValue
  cases r.slots[i] with
  | some slot => rfl
  | none =>
    refine if_congr ?_ rfl rfl
    rw [Bool.and_eq_true, beq_iff_eq, decide_eq_true_eq]
    rfl

/-- A stream that is LOCKED after its part of a close has given the row its values (R62). -/
theorem rowValue_of_locked {m : Merge} {r : Row} {i : StreamId} (locked : (closedStatus m r i).state = .locked) :
    ∃ x, rowValue m r i = some x := by
  rw [rowValue_eq]
  unfold closedStatus at locked
  cases slot : r.slots[i] with
  | some x => exact ⟨_, rfl⟩
  | none =>
    rw [slot] at locked
    exact ⟨_, if_pos ((onUnfilled_locked_iff ..).mp locked)⟩

/-! ### The selection -/

theorem selectVoltage_main {before : Selection} {main standby : Bool} {run : Nat} (unlocked : main = false → run = 0)
    (selected : selectVoltage before main standby run = .main) : main = true := by
  cases main with
  | true => rfl
  | false =>
    rw [unlocked rfl] at selected
    cases before <;> cases standby <;> cases selected

theorem selectVoltage_standby {before : Selection} {main standby : Bool} {run : Nat}
    (selected : selectVoltage before main standby run = .standby) : standby = true := by
  cases standby with
  | true => rfl
  | false =>
    have fallback : (if main = true then Selection.main else .none) ≠ .standby := by cases main <;> exact Selection.noConfusion
    cases before with
    | standby =>
      by_cases long : 256 ≤ run
      · exact Selection.noConfusion ((if_pos long).symm.trans selected)
      · exact absurd ((if_neg long).symm.trans selected) fallback
    | main | none => exact absurd selected fallback

/-- The voltage of the composite set is that of the role selected, which is LOCKED (R63, R64). -/
theorem rowVoltage_selected {s : State} {r : Row} {o : Role} {k : StreamId}
    (which : (selectedMerge (streamsClosed r s).merge).selection = .main ∧ o = .voltageMain
      ∨ (selectedMerge (streamsClosed r s).merge).selection = .standby ∧ o = .voltageStandby)
    (first : (selectedMerge (streamsClosed r s).merge).roleEntry o = some k) :
    ∃ x, rowValue s.merge r k = some x ∧ rowVoltage s.merge (selectedMerge (streamsClosed r s).merge) r = some x := by
  have entry : (streamsClosed r s).merge.roleEntry o = some k := first
  have locked : (streamsClosed r s).merge.roleLocked o = true := by
    rcases which with ⟨selected, rfl⟩ | ⟨selected, rfl⟩
    · exact selectVoltage_main (fun off => if_neg (by rw [off]; exact Bool.noConfusion)) selected
    · exact selectVoltage_standby selected
  have picked : rowVoltage s.merge (selectedMerge (streamsClosed r s).merge) r = rowValue s.merge r k := by
    unfold rowVoltage Merge.selected
    rcases which with ⟨selected, rfl⟩ | ⟨selected, rfl⟩ <;> rw [selected] <;> dsimp only <;> rw [first]
  obtain ⟨i, found, state⟩ := (roleLocked_iff _ _).mp locked
  obtain rfl : k = i := Option.some.inj (entry.symm.trans found)
  have table : (streamsClosed r s).merge.table = s.merge.table := by rw [streamsClosed_merge]
  have enabled := ((roleEntry_iff _ _ _).mp entry).1
  rw [table] at enabled
  rw [streamsClosed_status, if_pos enabled] at state
  obtain ⟨x, value⟩ := rowValue_of_locked state
  exact ⟨x, value, picked.trans value⟩

/-- What a close leaves of the rows, the statuses and the stream counters (R52, R61, R62). -/
theorem closeRow_status (r : Row) (s : State) (i : StreamId) : (closeRow r s).merge.status[i]
    = if ((closeRow r s).merge.table[i]).enable = true then closedStatus s.merge r i else s.merge.status[i] := by
  have table : (closeRow r s).merge.table = s.merge.table := by rw [closeRow_merge, streamsClosed_merge]; rfl
  rw [table, closeRow_merge]
  exact streamsClosed_status r s i

theorem closeRow_missed {r : Row} {s : State} {i : StreamId} (enabled : (s.merge.table[i]).enable = true) (slot : r.slots[i] = none) :
    (closeRow r s).counter (.stream i 6) = s.counter (.stream i 6) + 1
    ∧ (closeRow r s).counter (.stream i 5) = s.counter (.stream i 5)
      + (if (s.merge.status[i]).state = .locked ∧ countUp (s.merge.status[i]).missing < (s.merge.table[i]).holdLimit.toNat then 1 else 0) := by
  have counted (n : Fin 7) := closeStreams_counter s.merge r streamIds streamIds_nodup s i n
  have value := rowValue_eq s.merge r i
  rw [slot] at value
  rw [closeRow_counter, closeRow_counter]
  refine ⟨(counted 6).1 ⟨mem_streamIds i, enabled, slot, .inl rfl⟩, ?_⟩
  by_cases held : (s.merge.status[i]).state = .locked ∧ countUp (s.merge.status[i]).missing < (s.merge.table[i]).holdLimit.toNat
  · rw [if_pos held]
    exact (counted 5).1 ⟨mem_streamIds i, enabled, slot, .inr ⟨rfl, by rw [value.trans (if_pos held)]; rfl⟩⟩
  · rw [if_neg held, add_zero]
    refine (counted 5).2 ?_
    rintro ⟨-, -, -, which⟩
    rcases which with six | ⟨_, some⟩
    · cases six
    · rw [value.trans (if_neg held)] at some
      cases some

/-- Settles O27: the streams, the selection and the composite set each by the lemmas on its stage of the close. -/
theorem rowClose : Obligations.RowClose := by
  intro s t m r rest open_ ht hm
  subst ht
  have closed : m = _ := hm.trans (closeRow_merge r s)
  have streams := streamsClosed_merge r s
  have table : m.table = s.merge.table := by rw [closed, streams]; rfl
  have statusIs (i : StreamId) : m.status[i] = if (m.table[i]).enable = true then closedStatus s.merge r i else s.merge.status[i] := by
    rw [hm]
    exact closeRow_status r s i
  refine ⟨by rw [closed, open_]; rfl, by rw [closed], table, fun i x limit hx hlimit => ⟨fun off => ?_, ?_, ?_⟩, ?_⟩
  · rw [statusIs, if_neg (by rw [off]; exact Bool.noConfusion), hx]
  · intro slot n on filled count
    have status : m.status[i] = x.onFilled slot.values := by
      rw [statusIs, if_pos on, hx]
      unfold closedStatus
      rw [filled]
    rw [status, count]
    exact ⟨onFilled_of_acquiring, onFilled_of_counted⟩
  · intro n on empty count
    have status : m.status[i] = x.onUnfilled limit := by
      rw [statusIs, if_pos on, hx, hlimit, table]
      unfold closedStatus
      rw [empty]
    rw [table] at on hlimit
    rw [status, count, hx, hlimit]
    exact ⟨onUnfilled_of_counted, onUnfilled_of_quiet, closeRow_missed on empty⟩
  · intro first main standby value feeder firstIs mainIs standbyIs valueIs feederIs
    let after := selectedMerge (streamsClosed r s).merge
    have afterTable : after.table = m.table := by rw [closed]
    have afterStatus : after.status = m.status := by rw [closed]
    have selection : m.selection = after.selection := by rw [closed]
    have run : m.mainRun = after.mainRun := by rw [closed]
    have entry (o : Role) (i : StreamId) : after.roleEntry o = some i ↔ first o i := by
      rw [roleEntry_iff, firstIs, afterTable]
    have lockedIs (o : Role) : after.roleLocked o = true ↔ ∃ i, first o i ∧ (m.status[i]).state = .locked := by
      rw [roleLocked_iff, afterStatus]
      exact exists_congr fun i => and_congr (entry o i) Iff.rfl
    have mainLocked : (streamsClosed r s).merge.roleLocked .voltageMain = main :=
      Bool.eq_iff_iff.mpr ((lockedIs .voltageMain).trans mainIs.symm)
    have standbyLocked : (streamsClosed r s).merge.roleLocked .voltageStandby = standby :=
      Bool.eq_iff_iff.mpr ((lockedIs .voltageStandby).trans standbyIs.symm)
    have values : rowValue s.merge r = value := by
      funext i
      have same := valueIs i
      rw [table] at same
      refine (rowValue_eq s.merge r i).trans (.trans ?_ same.symm)
      cases r.slots[i] <;> rfl
    have feeders : lockedFeeder after = feeder := by
      funext i
      rw [Bool.eq_iff_iff, lockedFeeder_iff, feederIs, afterTable, afterStatus]
    have runIs : m.mainRun = if main = true then min 65535 (s.merge.mainRun + 1) else 0 := by
      rw [run]
      show (if (streamsClosed r s).merge.roleLocked .voltageMain = true then countUp (streamsClosed r s).merge.mainRun else 0) = _
      rw [mainLocked, streams]
      rfl
    refine ⟨runIs, ?_, compositeOf s.merge after r, by rw [closed]; rfl, rfl, rfl, ?_, ?_, ?_, ?_, ?_, ?_, ?_⟩
    · have selected : m.selection = selectVoltage s.merge.selection main standby m.mainRun := by
        rw [selection, run, ← mainLocked, ← standbyLocked]
        show selectVoltage (streamsClosed r s).merge.selection _ _ _ = _
        rw [show (streamsClosed r s).merge.selection = s.merge.selection by rw [streams]]
        rfl
      rw [selected]
      unfold selectVoltage
      cases s.merge.selection <;> cases main <;> cases standby <;> simp
    · intro pick phase
      rw [compositeOf_current phase, feeders, values]
      refine congrArg (fun f : StreamId → Int => max (-32767) (min 32767 ((List.finRange 8).map f).sum)) (funext fun i => ?_)
      cases value i <;> rfl
    · intro off
      have novoltage : rowVoltage s.merge after r = none := by
        unfold rowVoltage Merge.selected
        rw [← selection, off]
      obtain ⟨v, substituted, overrange⟩ := compositeOf_voltage s.merge after r
      rw [novoltage] at v substituted overrange
      rw [feeders, values] at overrange
      exact ⟨v, substituted, overrange.trans (by simp)⟩
    · intro o k which this
      rw [selection] at which
      obtain ⟨x, here, voltage⟩ := rowVoltage_selected which ((entry o k).mpr this)
      obtain ⟨v, substituted, overrange⟩ := compositeOf_voltage s.merge after r
      rw [voltage] at v substituted overrange
      rw [feeders, values] at overrange
      exact ⟨x, by rw [← values]; exact here, v, substituted, overrange⟩
    · rw [compositeOf_substitutedI, feeders, values]
    · rw [selection]
      exact beq_iff_eq
    · rw [compositeOf_feederIncomplete, afterTable, afterStatus]
    · rw [selection]
      exact bne_iff_ne

end Sys2Proof.Machine
end

section
/-! Rows that close in turn (R59 to R61), and the disposition of the sets of a MEASURE frame (R54 to R57). -/

namespace Sys2Proof.Machine

/-! ### The rows that close in turn -/

theorem required_iff (m : Merge) (i : StreamId) : i ∈ m.required ↔ RequiredSlot m i := by
  have listed : i ∈ m.required ↔ m.selected = some i ∨ lockedFeeder m i = true := by
    unfold Merge.required
    rw [List.mem_filter, and_iff_right (mem_streamIds i), Bool.or_eq_true, beq_iff_eq]
    rfl
  have voltage : m.selected = some i
      ↔ m.selection = .main ∧ m.roleEntry .voltageMain = some i ∨ m.selection = .standby ∧ m.roleEntry .voltageStandby = some i := by
    unfold Merge.selected
    cases m.selection <;> simp
  rw [listed, voltage, lockedFeeder_iff, roleEntry_iff, roleEntry_iff]
  unfold RequiredSlot
  constructor
  · rintro ((⟨selected, enabled, role, first⟩ | ⟨selected, enabled, role, first⟩) | ⟨enabled, role, locked⟩)
    · exact ⟨enabled, .inr ⟨.inl ⟨selected, role⟩, by rw [role]; exact first⟩⟩
    · exact ⟨enabled, .inr ⟨.inr ⟨selected, role⟩, by rw [role]; exact first⟩⟩
    · exact ⟨enabled, .inl ⟨role, locked⟩⟩
  · rintro ⟨enabled, ⟨role, locked⟩ | ⟨⟨selected, role⟩ | ⟨selected, role⟩, first⟩⟩
    · exact .inr ⟨enabled, role, locked⟩
    · exact .inl (.inl ⟨selected, enabled, role, by rw [role] at first; exact first⟩)
    · exact .inl (.inr ⟨selected, enabled, role, by rw [role] at first; exact first⟩)

theorem rowComplete_iff (m : Merge) (r : Row) : m.rowComplete r = true ↔ RowComplete m r := by
  have nonempty : m.required.isEmpty = false ↔ ∃ i, RequiredSlot m i := by
    rw [List.isEmpty_eq_false_iff_exists_mem]
    exact exists_congr fun i => required_iff m i
  unfold Merge.rowComplete RowComplete
  rw [Bool.and_eq_true, Bool.not_eq_true', nonempty, List.all_eq_true]
  exact and_congr_right fun _ => forall_congr' fun i => imp_congr_left (required_iff m i)

/-- A close leaves P: what it may start, an activation, keeps the count (R85). -/
theorem closeRow_paceCount (r : Row) (s : State) : (closeRow r s).pace.count = s.pace.count := by
  have stable : CoreStable (fun t => t.pace.count = s.pace.count) :=
    .of_supFree ⟨fun _ _ h => h, fun _ _ _ h => h, fun s p _ _ _ _ h => by simpa using h, fun _ _ _ _ _ h => h, fun _ _ _ _ _ h => h⟩
      (fun _ _ _ _ h => h) (fun _ _ _ h => h) (fun _ _ _ _ h => h) (fun _ h => h) (fun _ _ h => h) (fun _ _ h => h) (fun _ _ _ h => h)
      (fun _ _ same h => same.trans h) (fun _ _ _ h => h)
  have stream (t : State) (i : StreamId) (h : t.pace.count = s.pace.count) :
      (closeStream s.merge r t i).pace.count = s.pace.count := by
    have put (x : StreamStatus) (u : State) (h : u.pace.count = s.pace.count) : (putStatus i x u).pace.count = s.pace.count :=
      iteInduction (motive := fun t : State => t.pace.count = s.pace.count) (fun _ => h)
        (fun _ => stable.updateItems _ _ rfl (stable.raise _ _ (u.setStatus i x) h))
    unfold closeStream
    split
    · split
      · exact put _ _ h
      · exact put _ _ (iteInduction (motive := fun u : State => u.pace.count = s.pace.count) (fun _ => h) (fun _ => h))
    · exact h
  have streams : (streamsClosed r s).pace.count = s.pace.count :=
    foldl_keeps (P := fun t : State => t.pace.count = s.pace.count) _ stream streamIds s rfl
  have selected : (closeSelection r.index (streamsClosed r s)).pace.count = s.pace.count :=
    iteInduction (motive := fun t : State => t.pace.count = s.pace.count) (fun _ => streams)
      (fun _ => stable.updateItems _ _ rfl (stable.raise _ _ ((streamsClosed r s).setMerge _) streams))
  exact stable.testWindows _ selected

/-- The cascade closes the oldest open rows in turn while they are due (R59 to R61). -/
theorem closeCascade_closes {due : State → Row → Prop} {check : Option Nat} {count : Word}
    (h : ∀ s r, s.pace.count = count → (closesInTurn check s r = true ↔ due s r)) (fuel : Nat) (s : State)
    (counted : s.pace.count = count) (enough : s.merge.rows.length ≤ fuel) : ClosedInTurn due s (closeCascade check fuel s) := by
  induction fuel generalizing s with
  | zero =>
    have none : s.merge.rows = [] := List.length_eq_zero_iff.mp (Nat.le_zero.mp enough)
    exact .done s (by rw [none]; exact fun _ h => nomatch h)
  | succ fuel ih =>
    unfold closeCascade
    cases rows : s.merge.rows with
    | nil => exact .done s (by rw [rows]; exact fun _ h => nomatch h)
    | cons r rest =>
      have head : s.merge.rows.head? = some r := by rw [rows]; rfl
      dsimp only
      by_cases closes : closesInTurn check s r = true
      · rw [if_pos closes]
        refine .close s _ r head ((h s r counted).mp closes) (ih _ ((closeRow_paceCount r s).trans counted) ?_)
        rw [closeRow_merge, rows]
        rw [rows] at enough
        exact Nat.le_of_succ_le_succ enough
      · rw [if_neg closes]
        refine .done s fun a ha due => closes ?_
        obtain rfl : r = a := Option.some.inj (head.symm.trans ha)
        exact (h s r counted).mpr due

theorem completionTest_closes (s : State) : ClosedInTurn (fun u a => RowComplete u.merge a) s (completionTest s) := by
  refine closeCascade_closes (count := s.pace.count) (fun u a _ => ?_) _ s rfl (Nat.le_refl _)
  unfold closesInTurn
  rw [Option.any_none, Bool.false_or]
  exact rowComplete_iff u.merge a

theorem completionTest_of_incomplete {s : State} (h : ∀ r, s.merge.rows.head? = some r → s.merge.rowComplete r = false) :
    completionTest s = s := by
  unfold completionTest
  cases rows : s.merge.rows with
  | nil => rfl
  | cons r rest =>
    have stays : closesInTurn none s r = false := h r (by rw [rows]; rfl)
    show closeCascade none (rest.length + 1) s = s
    unfold closeCascade
    rw [rows]
    exact if_neg (by rw [stays]; exact Bool.noConfusion)

theorem closeCascade_accepted (check : Option Nat) (fuel : Nat) (s : State) (i : StreamId) :
    (closeCascade check fuel s).counter (.stream i 0) = s.counter (.stream i 0) := by
  induction fuel generalizing s with
  | zero => rfl
  | succ fuel ih =>
    unfold closeCascade
    split
    · rfl
    · split
      · next r _ _ _ =>
        rw [ih, closeRow_counter]
        refine (closeStreams_counter s.merge r streamIds streamIds_nodup s i 0).2 ?_
        rintro ⟨-, -, -, which⟩
        rcases which with six | ⟨five, -⟩
        · cases six
        · cases five
      · rfl

/-! ### The evaluation of the permissives -/

theorem evaluate_evaluated (s : State) : Evaluated s (evaluate s) := by
  unfold Evaluated evaluate
  cases state : s.sup.state with
  | off =>
    dsimp only
    by_cases hold : s.sup.items.hold = true
    · rw [if_pos hold]
      have gate := evalOff_gate s
      rwa [evalOff_sup, if_pos ⟨state, hold⟩] at gate
    · rw [if_neg hold]
      exact if_neg (by simp [hold])
  | ready =>
    dsimp only
    by_cases hold : s.sup.items.hold = true
    · rw [if_pos hold, if_pos hold]
    · rw [if_neg hold, if_neg hold]
      exact ⟨enterOff_frame _ s, (enterOff_atRest _ s).state⟩
  | running | holding | blocked | tripped => rfl

theorem feedersMet_iff (m : Merge) : m.feedersMet = true
    ↔ ∀ j : StreamId, (m.table[j]).enable = true → (m.table[j]).role = .feeder → (m.status[j]).state = .locked := by
  unfold Merge.feedersMet
  rw [List.all_eq_true]
  have each (j : StreamId) : (!m.isFeeder j || m.lockedStream j) = true
      ↔ ((m.table[j]).enable = true → (m.table[j]).role = .feeder → (m.status[j]).state = .locked) := by
    unfold Merge.isFeeder Merge.lockedStream
    cases (m.table[j]).enable <;> simp [or_iff_not_imp_left]
  exact ⟨fun h j => (each j).mp (h j (mem_streamIds j)), fun h j _ => (each j).mpr (h j)⟩

/-! ### An accepted set -/

/-- What an accepted set leaves before the completion test (R52, R56): its slot, its count, and its stream's status. -/
def setTaken (i : StreamId) (index : Word) (slot : Slot) (s : State) : State :=
  bump (.stream i 0) { s with merge := { s.merge with
    rows := setSlot s.merge.rows index i (some slot), status := s.merge.status.set i (s.merge.status[i]).onAccept } }

/-- What an accepted set leaves before the completion test, with the event and the FEEDERS update of its stream (R53, R172). -/
def setNoted (i : StreamId) (index : Word) (slot : Slot) (s : State) : State :=
  if (s.merge.status[i]).state = .silent ∨ (s.merge.status[i]).state = .lost then
    updateFeeders (raise srcStreamState (bytes4 i (streamCode (s.merge.status[i]).state) 2 0) (setTaken i index slot s))
  else setTaken i index slot s

theorem acceptSet_eq (i : StreamId) (index : Word) (slot : Slot) (s : State) :
    acceptSet i index slot s = completionTest (setNoted i index slot s) := by
  have noted : putStatus i (s.merge.status[i]).onAccept
      (bumpStream i 0 (s.setMerge { s.merge with rows := setSlot s.merge.rows index i (some slot) })) = setNoted i index slot s := by
    have status : (bumpStream i 0 (s.setMerge { s.merge with rows := setSlot s.merge.rows index i (some slot) })).merge.status[i]
        = s.merge.status[i] := rfl
    unfold putStatus setNoted
    dsimp only
    rw [status]
    by_cases fresh : (s.merge.status[i]).state = .silent ∨ (s.merge.status[i]).state = .lost
    · have acquiring : (s.merge.status[i]).onAccept.state = .acquiring := by
        unfold StreamStatus.onAccept
        rcases fresh with state | state <;> rw [state]
      rw [if_pos fresh, acquiring, if_neg (by rcases fresh with state | state <;> rw [state] <;> exact StreamState.noConfusion)]
      rfl
    · have same : (s.merge.status[i]).state = (s.merge.status[i]).onAccept.state := by
        unfold StreamStatus.onAccept
        split
        · next silent => exact absurd (.inl silent) fresh
        · next lost => exact absurd (.inr lost) fresh
        · rfl
      rw [if_neg fresh, if_pos same]
      rfl
  exact congrArg completionTest noted

theorem setNoted_merge (i : StreamId) (index : Word) (slot : Slot) (s : State) :
    (setNoted i index slot s).merge = { s.merge with
      rows := setSlot s.merge.rows index i (some slot), status := s.merge.status.set i (s.merge.status[i]).onAccept } := by
  unfold setNoted
  split
  · unfold updateFeeders
    rw [(updateItems_frame _ _).merge, (raise_quiet _ _ _).merge]
    rfl
  · rfl

theorem setNoted_accepted (i : StreamId) (index : Word) (slot : Slot) (s : State) :
    (setNoted i index slot s).counter (.stream i 0) = s.counter (.stream i 0) + 1 := by
  have taken : (setTaken i index slot s).counter (.stream i 0) = s.counter (.stream i 0) + 1 := counter_bump_self ..
  unfold setNoted
  split
  · rw [updateFeeders, (updateItems_frame _ _).counts _ rfl, (raise_quiet _ _ _).notes _ rfl, taken]
  · exact taken

/-- The slot of a row with another index stays. -/
theorem setSlot_head {rows : List Row} {index : Word} {i : StreamId} {slot : Option Slot} {r : Row}
    (other : ∀ h, rows.head? = some h → h.index ≠ index) (head : (setSlot rows index i slot).head? = some r) : rows.head? = some r := by
  cases rows with
  | nil => exact head
  | cons a rest =>
    have kept : (if a.index = index then { a with slots := a.slots.set i slot } else a) = a := if_neg (other a rfl)
    exact congrArg some (kept.symm.trans (Option.some.inj head))

theorem onAccept_locked_iff (x : StreamStatus) : x.onAccept.state = .locked ↔ x.state = .locked := by
  unfold StreamStatus.onAccept
  cases state : x.state <;> simp [state]

/-- The acceptance of a set leaves what the completion of a row requires: a stream in SILENT or LOST is in LOCKED neither before nor after. -/
theorem rowComplete_accept (m : Merge) (rows : List Row) (i : StreamId) (r : Row) :
    ({ m with rows := rows, status := m.status.set i (m.status[i]).onAccept } : Merge).rowComplete r = m.rowComplete r := by
  have locked (j : StreamId) : ((m.status.set i (m.status[i]).onAccept)[j]).state = .locked ↔ (m.status[j]).state = .locked := by
    by_cases same : j = i
    · subst same
      have self : (m.status.set j (m.status[j]).onAccept)[j] = (m.status[j]).onAccept := Vector.getElem_set_self ..
      rw [self, onAccept_locked_iff]
    · have other : (m.status.set i (m.status[i]).onAccept)[j] = m.status[j] :=
        Vector.getElem_set_ne _ _ (fun h => same (Fin.ext h.symm))
      rw [other]
  have required (j : StreamId) :
      RequiredSlot { m with rows := rows, status := m.status.set i (m.status[i]).onAccept } j ↔ RequiredSlot m j := by
    unfold RequiredSlot
    rw [locked]
  rw [Bool.eq_iff_iff, rowComplete_iff, rowComplete_iff]
  unfold RowComplete
  exact and_congr (exists_congr required) (forall_congr' fun j => imp_congr_left (required j))

theorem setTest_quiet {i : StreamId} {index : Word} {slot : Slot} {s : State}
    (h : ∀ r, s.merge.rows.head? = some r → r.index ≠ index ∧ s.merge.rowComplete r = false) :
    acceptSet i index slot s = setNoted i index slot s := by
  rw [acceptSet_eq]
  refine completionTest_of_incomplete fun r head => ?_
  rw [setNoted_merge] at head ⊢
  rw [rowComplete_accept]
  exact (h r (setSlot_head (fun a ha => (h a ha).1) head)).2

/-! ### The disposition -/

theorem slotValues_eq {e : StreamEntry} {acb : Bool} {x : MeasuredSet} {value : ChannelMap → Int}
    (h : ∀ c, value c = max (-32767) (min 32767 (roundDiv
      ((if c.invert = true then -(x.channels.getD c.index 0).toInt else (x.channels.getD c.index 0).toInt) * e.gain.toNat) 32768))) :
    slotValues e acb x = { a := value e.mapA, b := value (if acb = true then e.mapC else e.mapB),
                           c := value (if acb = true then e.mapB else e.mapC) } := by
  have each (c : ChannelMap) : scaledValue (x.channels.getD c.index 0) c.invert e.gain = value c :=
    (saturate_eq _ _ _ (by decide)).trans (h c).symm
  unfold slotValues
  dsimp only
  simp only [each]
  cases acb <;> rfl

theorem beyond_iff (e : StreamEntry) (m : Nat) : e.beyond m = true ↔ m ≤ e.mapA.index ∨ m ≤ e.mapB.index ∨ m ≤ e.mapC.index := by
  unfold StreamEntry.beyond
  simp [or_assoc]

theorem disposeSet_eq {i : StreamId} {index : Word} {s : State} (x : MeasuredSet) (later : 0 < diff index s.merge.lastClosed) :
    disposeSet i index x s = if x.quality.getLsbD 0 = true then s
      else if x.quality.getLsbD 2 = true ∧ (s.merge.table[i]).acceptTest = false then s
      else match s.merge.rows.find? (fun r => r.index == index) with
        | none => s
        | some r => if (r.slots[i]).isSome = true then bump (.stream i 3) s
          else acceptSet i index
            { values := slotValues s.merge.table[i] (pAcb s.par) x, overrange := x.quality.getLsbD 1 } s := by
  have placed : ¬(!isAfter index s.merge.lastClosed) = true := by
    unfold isAfter
    rw [decide_eq_true later]
    exact Bool.noConfusion
  unfold disposeSet
  dsimp only
  rw [if_neg placed]
  refine if_congr Iff.rfl rfl (if_congr ?_ rfl rfl)
  rw [Bool.and_eq_true, Bool.not_eq_true']

/-- What an accepted set does (R52 to R57), with its event and its FEEDERS update, before the completion test. -/
theorem setNoted_shown {i : StreamId} {index : Word} {slot : Slot} {s z : State} {feeders : Bool} (taken : z = setTaken i index slot s)
    (met : feeders = true ↔ ∀ j : StreamId, (z.merge.table[j]).enable = true → (z.merge.table[j]).role = .feeder →
      (z.merge.status[j]).state = .locked) :
    if (s.merge.status[i]).state = .silent ∨ (s.merge.status[i]).state = .lost then
      ∃ w, Raised srcStreamState (bytes4 i (streamCode (s.merge.status[i]).state) 2 0) z w
        ∧ Evaluated { w with sup := { w.sup with items := { w.sup.items with feeders := feeders } } } (setNoted i index slot s)
    else setNoted i index slot s = z := by
  unfold setNoted
  by_cases fresh : (s.merge.status[i]).state = .silent ∨ (s.merge.status[i]).state = .lost
  · rw [if_pos fresh, if_pos fresh, ← taken]
    refine ⟨_, raise_raised _ _ _, ?_⟩
    have items : feeders = (raise srcStreamState (bytes4 i (streamCode (s.merge.status[i]).state) 2 0) z).merge.feedersMet := by
      rw [Bool.eq_iff_iff, feedersMet_iff, (raise_quiet _ _ _).merge]
      exact met
    rw [items]
    exact evaluate_evaluated _
  · rw [if_neg fresh, if_neg fresh, taken]

theorem placeSet_table (i : StreamId) (s : State) (x : MeasuredSet) : (placeSet i s x).merge.table = s.merge.table := by
  have accepted (index : Word) (slot : Slot) : (acceptSet i index slot s).merge.table = s.merge.table := by
    rw [acceptSet_eq]
    unfold completionTest
    rw [closeCascade_table, setNoted_merge]
  have disposed (index : Word) : (disposeSet i index x s).merge.table = s.merge.table := by
    by_cases later : 0 < diff index s.merge.lastClosed
    · rw [disposeSet_eq x later]
      split
      · rfl
      · split
        · rfl
        · split
          · rfl
          · split
            · rfl
            · exact accepted ..
    · have late : disposeSet i index x s = bump (.stream i 1) s := if_pos (by unfold isAfter; rw [decide_eq_false later]; rfl)
      rw [late]
      rfl
  exact iteInduction (motive := fun t : State => t.merge.table = s.merge.table) (fun _ => disposed _) (fun _ => rfl)

/-- Settles O16: the frame's map and the order of its sets, the values of a slot, and the rows of R56 in their order; an accepted set is its
slot, its stream and the cascade. -/
theorem setDisposition : Obligations.SetDisposition := by
  refine ⟨fun i m sets s e he => ⟨fun beyond => ?_, fun a b c => ?_⟩, fun e acb x value h => slotValues_eq h, ?_⟩
  · subst he
    exact if_pos ((beyond_iff _ _).mpr beyond)
  · subst he
    have inside : ¬(s.merge.table[i]).beyond m = true := by
      rw [beyond_iff]
      omega
    refine ⟨if_neg inside, fun x => (if_neg inside).trans (if_neg ?_).symm⟩
    rw [placeSet_table]
    exact inside
  · intro i s x age hage
    have aged : setAge s.pace.count x.tag = age := hage.symm
    unfold placeSet
    dsimp only
    rw [aged]
    refine ⟨fun future => if_neg (Nat.not_le.mpr future), fun index near hindex => ?_⟩
    rw [if_pos near, ← hindex]
    refine ⟨fun late => ?_, fun later => ?_⟩
    · refine if_pos ?_
      unfold isAfter
      rw [decide_eq_false (Int.not_lt.mpr late)]
      rfl
    rw [disposeSet_eq x later]
    refine ⟨fun bad => if_pos bad, fun test refused => ?_, fun absent => ?_, fun good accepts r found => ?_⟩
    · rw [if_pos (And.intro test refused)]
      exact ite_self s
    · have none : s.merge.rows.find? (fun r => r.index == index) = none :=
        List.find?_eq_none.mpr fun r mem => by simpa using absent r mem
      rw [none]
      dsimp only
      rw [ite_self, ite_self]
    · have admitted : ¬(x.quality.getLsbD 2 = true ∧ (s.merge.table[i]).acceptTest = false) := by
        rintro ⟨test, refused⟩
        rw [accepts test] at refused
        cases refused
      rw [if_neg (by rw [good]; exact Bool.noConfusion), if_neg admitted, found]
      dsimp only
      refine ⟨fun filled => if_pos filled, fun empty => ?_, fun m z feeders empty hm hz met => ?_, fun empty head => ?_⟩
      · rw [if_neg (by rw [empty]; exact Bool.noConfusion), acceptSet_eq]
        exact (closeCascade_accepted _ _ _ _).trans (setNoted_accepted ..)
      · rw [if_neg (by rw [empty]; exact Bool.noConfusion), acceptSet_eq]
        have taken : z = setTaken i index { values := slotValues s.merge.table[i] (pAcb s.par) x, overrange := x.quality.getLsbD 1 } s := by
          rw [hz, hm]
          unfold setTaken StreamStatus.onAccept
          cases (s.merge.status[i]).state <;> rfl
        refine ⟨_, completionTest_closes _, setNoted_shown taken ?_⟩
        rw [hz]
        exact met
      · rw [if_neg (by rw [empty]; exact Bool.noConfusion), setTest_quiet head, setNoted_merge]
        refine ⟨rfl, rfl, ?_, fun j other => Vector.getElem_set_ne i.isLt j.isLt (fun h => other (Fin.ext h.symm))⟩
        refine (Vector.getElem_set_self ..).trans ?_
        unfold StreamStatus.onAccept
        cases (s.merge.status[i]).state <;> rfl

end Sys2Proof.Machine
end

section
/-! The pace event and the PACE mark (R3, R44, R45, R58, R60). -/

namespace Sys2Proof.Machine

/-- What a pace event leaves before the deadline check (R44, R45, R58). -/
def paceOpened (s : State) (count : Word) (g48 : BitVec 48) (k : Nat) : State :=
  { s with
    pace := { count := count, sinceOrigin := k, clock := 0,
              length := paceAt (pFn s.par) (k + 1) - paceAt (pFn s.par) k - (s.pace.clock - s.pace.length) },
    tracker := { s.tracker with g48 := g48 },
    pn := if s.pn.link = .up ∨ s.pn.link = .farFault then { s.pn with paceRequest := some (BitVec.ofNat 8 count.toNat) } else s.pn,
    merge := { s.merge with
      rows := s.merge.rows ++ [{ index := count, position := g48.extractLsb' 16 32, slots := Vector.replicate 8 none }] } }

theorem paceTag_eq (count : Word) : paceTag count = BitVec.ofNat 8 count.toNat := by
  unfold paceTag
  apply BitVec.eq_of_toNat_eq
  simp

theorem requestPace_eq (x : Port) (tag : Byte) :
    x.requestPace tag = if x.link = .up ∨ x.link = .farFault then { x with paceRequest := some tag } else x :=
  if_congr (receives_iff x.link) rfl rfl

theorem paceEvent_eq {s : State} {count : Word} {g48 : BitVec 48} {k : Nat} (hcount : count = s.pace.count + 1)
    (hk : k = s.pace.sinceOrigin + 1) (hg : g48 = s.tracker.g48 + BitVec.ofNat 48
      (s.tracker.inc * max s.pace.clock s.pace.length / s.pace.length - s.tracker.inc * s.pace.clock / s.pace.length)) :
    paceEvent s = deadlineCheckWith (pMergeDelay s.par) (paceOpened s count g48 k) := by
  have opened : openRow (((endPeriod s).setPace ((endPeriod s).pace.next (pFn (endPeriod s).par))).modPort .north
      (fun x => x.requestPace (paceTag (s.pace.count + 1)))) = paceOpened s count g48 k := by
    rw [paceTag_eq]
    subst hcount hk hg
    unfold paceOpened
    rw [← requestPace_eq]
    rfl
  exact congrArg (deadlineCheckWith (pMergeDelay s.par)) opened

theorem pastDeadline_iff (delay : Nat) (s : State) (r : Row) :
    pastDeadline delay s r = true ↔ (delay : Int) ≤ diff s.pace.count r.index := decide_eq_true_iff

theorem deadlineCheckWith_early {delay : Nat} {s : State}
    (h : ∀ r, s.merge.rows.head? = some r → diff s.pace.count r.index < delay) : deadlineCheckWith delay s = s := by
  unfold deadlineCheckWith
  cases rows : s.merge.rows with
  | nil => rfl
  | cons r rest =>
    have early := h r (by rw [rows]; rfl)
    exact if_neg (by rw [pastDeadline_iff]; exact Int.not_le.mpr early)

theorem deadlineCheckWith_closes {delay : Nat} {s : State} {r : Row} (head : s.merge.rows.head? = some r)
    (past : (delay : Int) ≤ diff s.pace.count r.index) :
    ClosedInTurn (fun u a => (delay : Int) ≤ diff s.pace.count a.index ∨ RowComplete u.merge a) s (deadlineCheckWith delay s) := by
  have closes : deadlineCheckWith delay s = closeCascade (some delay) s.merge.rows.length s := by
    unfold deadlineCheckWith
    cases rows : s.merge.rows with
    | nil => rfl
    | cons a rest =>
      obtain rfl : a = r := Option.some.inj (by rw [← head, rows]; rfl)
      exact if_pos ((pastDeadline_iff _ _ _).mpr past)
  rw [closes]
  refine closeCascade_closes (count := s.pace.count) (fun u a same => ?_) _ s rfl (Nat.le_refl _)
  unfold closesInTurn
  rw [Option.any_some, Bool.or_eq_true, pastDeadline_iff, same, rowComplete_iff]

theorem diff_self (a : Pos) : diff a a = 0 := by simp [diff]

/-- Settles O26: the event is the opened row and the deadline check; the mark goes out by R3. -/
theorem paceEventOpensARow : Obligations.PaceEventOpensARow := by
  refine ⟨fun s count g48 k hcount hk hg open_ delay => ?_, fun s y count g48 k hcount hk hg hy => ?_, fun s tag request => ?_,
    fun s none => ?_⟩
  · refine congrArg Host.Outcome.next ((paceEvent_eq hcount hk hg).trans (deadlineCheckWith_early fun r head => ?_))
    cases rows : s.merge.rows with
    | nil =>
      have new : count = r.index := by
        have first : (paceOpened s count g48 k).merge.rows = s.merge.rows ++ [_] := rfl
        rw [first, rows] at head
        exact congrArg Row.index (Option.some.inj head)
      show diff count r.index < _
      rw [← new, diff_self]
      exact_mod_cast delay rows
    | cons a rest =>
      have first : (paceOpened s count g48 k).merge.rows = s.merge.rows ++ [_] := rfl
      rw [first, rows] at head
      exact open_ r (by rw [rows]; exact head)
  · have opened : y = paceOpened s count g48 k := hy
    refine ⟨_, rfl, fun early => ?_, fun r head past => ?_⟩
    · rw [paceEvent_eq hcount hk hg, ← opened]
      exact deadlineCheckWith_early (by rw [opened] at early ⊢; exact early)
    · rw [paceEvent_eq hcount hk hg, ← opened]
      have counted : y.pace.count = count := by rw [opened]; rfl
      have closed := deadlineCheckWith_closes head (by rw [counted]; exact past)
      rwa [counted] at closed
  · have sent : s.pn.sendPace tag = { s.pn with
        paceRequest := none, lastPaceSent := some tag, trainOwed := false, lineMark := some (.pace tag) } := by
      unfold Port.sendPace Port.sendOwed
      cases owed : s.pn.trainOwed <;> simp [owed]
    refine congrArg Host.Outcome.next ?_
    unfold paceMarkSent
    rw [request]
    exact congrArg (fun x => { s with pn := x }) sent
  · refine congrArg Host.Outcome.next ?_
    unfold paceMarkSent
    rw [none]

end Sys2Proof.Machine
end

section
/-! Transmission: the arbiter's choice, the stamp of a TIMEMARK frame, and the transmit end (R18, R32, R33, R37, R40). -/

namespace Sys2Proof.Machine

/-! ### The transmit start -/

theorem Port.hasOpportunity_iff (x : Port) : x.hasOpportunity = true ↔ x.canStart ∧ x.choice ≠ none := by
  unfold Port.hasOpportunity Port.canStart
  rw [Bool.and_eq_true, Bool.and_eq_true, Option.isNone_iff_eq_none, Option.isSome_iff_ne_none]

theorem Port.choice_timed {x : Port} (h : x.timed ≠ []) : x.choice = some .timed := by
  unfold Port.choice
  exact if_neg (by simpa using h)

theorem Port.choice_aged {x : Port} (h : x.timed = []) : x.choice = x.agedWinner := by
  unfold Port.choice
  exact if_pos (by simp [h])

/-- One class met in the arbiter's comparison (R32). -/
def Port.agedStep (x : Port) (best : Option TxClass) (c : TxClass) : Option TxClass :=
  if (x.queue c).isEmpty then best
  else match best with
    | none => some c
    | some b => if x.eff c < x.eff b then some c else some b

theorem Port.agedStep_keeps {x : Port} {d e : TxClass} (h : x.queue e ≠ [] → x.eff d ≤ x.eff e) : x.agedStep (some d) e = some d := by
  unfold Port.agedStep
  by_cases empty : x.queue e = []
  · exact if_pos (by simpa using empty)
  · rw [if_neg (by simpa using empty)]
    exact if_neg (Nat.not_lt.mpr (h empty))

theorem Port.agedStep_takes {x : Port} {best : Option TxClass} {d : TxClass} (nonempty : x.queue d ≠ [])
    (h : ∀ b, best = some b → x.eff d < x.eff b) : x.agedStep best d = some d := by
  unfold Port.agedStep
  rw [if_neg (by simpa using nonempty)]
  cases best with
  | none => rfl
  | some b => exact if_pos (h b rfl)

theorem Port.agedStep_source {x : Port} {best : Option TxClass} {b e : TxClass} (h : x.agedStep best e = some b) :
    best = some b ∨ (b = e ∧ x.queue e ≠ []) := by
  unfold Port.agedStep at h
  by_cases empty : x.queue e = []
  · rw [if_pos (by simpa using empty)] at h
    exact .inl h
  · rw [if_neg (by simpa using empty)] at h
    cases best with
    | none => exact .inr ⟨(Option.some.inj h).symm, empty⟩
    | some a =>
      dsimp only at h
      split at h
      · exact .inr ⟨(Option.some.inj h).symm, empty⟩
      · exact .inl h

/-- The nonempty aged class of lowest effective priority wins, the earlier class in a tie (R32). -/
theorem Port.agedWinner_eq {x : Port} {c : TxClass} (aged : c ≠ .timed) (nonempty : x.queue c ≠ [])
    (least : ∀ d, d ≠ .timed → x.queue d ≠ [] → x.eff c < x.eff d ∨ (x.eff c = x.eff d ∧ classCode c ≤ classCode d)) :
    x.agedWinner = some c := by
  have lower (d : TxClass) (other : d ≠ .timed) (ne : x.queue d ≠ []) : x.eff c ≤ x.eff d :=
    (least d other ne).elim Nat.le_of_lt (fun tie => Nat.le_of_eq tie.1)
  have earlier (d : TxClass) (other : d ≠ .timed) (code : classCode d < classCode c) (ne : x.queue d ≠ []) : x.eff c < x.eff d :=
    (least d other ne).elim id (fun tie => absurd tie.2 (Nat.not_le.mpr code))
  have winner : x.agedWinner = x.agedStep (x.agedStep (x.agedStep none .access) .measure) .pass := rfl
  rw [winner]
  cases c with
  | timed => exact absurd rfl aged
  | access =>
    rw [Port.agedStep_takes nonempty (fun b h => by cases h), Port.agedStep_keeps (lower .measure TxClass.noConfusion),
      Port.agedStep_keeps (lower .pass TxClass.noConfusion)]
  | measure =>
    rw [Port.agedStep_takes nonempty, Port.agedStep_keeps (lower .pass TxClass.noConfusion)]
    intro b best
    rcases Port.agedStep_source best with none | ⟨rfl, ne⟩
    · cases none
    · exact earlier _ TxClass.noConfusion (by decide) ne
  | pass =>
    refine Port.agedStep_takes nonempty fun b best => ?_
    rcases Port.agedStep_source best with first | ⟨rfl, ne⟩
    · rcases Port.agedStep_source first with none | ⟨rfl, ne⟩
      · cases none
      · exact earlier _ TxClass.noConfusion (by decide) ne
    · exact earlier _ TxClass.noConfusion (by decide) ne

/-- The arbiter's choice begun: the frame as its contents processing leaves it (R18, R32). -/
theorem startTransmit_begins {p : PortId} {s u : State} {c : TxClass} {f f' : Frame} {rest : List Frame} (ready : (s.port p).canStart)
    (choice : (s.port p).choice = some c) (queue : (s.port p).queue c = f :: rest)
    (processed : processFrame f (s.modPort p (fun x => x.take c)) = (some f', u)) : startTransmit p s = beginFrame p c f' u := by
  have open_ : (s.port p).hasOpportunity = true := (Port.hasOpportunity_iff _).mpr ⟨ready, by rw [choice]; exact Option.some_ne_none c⟩
  unfold startTransmit
  rw [if_pos open_]
  unfold opportunity
  rw [choice]
  dsimp only
  rw [queue]
  dsimp only
  rw [processed]

/-- A frame begun at a port that has just changed. -/
theorem beginFrame_modPort (p : PortId) (c : TxClass) (f : Frame) (s : State) (g : Port → Port) :
    beginFrame p c f (s.modPort p g) = s.setPort p { g (s.port p) with
      tx := some { cls := c, frame := f, bytes := f.bytes s.nodeId }, trainOwed := false,
      lineMark := if (g (s.port p)).trainOwed = true then some (.train true) else (g (s.port p)).lineMark } := by
  unfold beginFrame
  simp only [Port.sendOwed_eq]
  cases p <;> rfl

/-- A frame whose contents are neither a TIMEMARK to stamp nor gate commands goes as it is (R37). -/
theorem processFrame_plain {f : Frame} (gate : ∀ cs, f ≠ .gate cs) (timemark : f ≠ .timemark) (s : State) :
    processFrame f s = (some f, s) := by
  cases f with
  | gate cs => exact absurd rfl (gate cs)
  | timemark => exact absurd rfl timemark
  | forwarded | stampedTimemark | reply | notice => rfl

theorem agedAfter_eq {w : TxClass} (aged : w ≠ .timed) (d : TxClass) (q : List Frame) (initial eff : Nat) :
    agedAfter w d (!q.isEmpty) initial eff = if w = d then initial else if q = [] then eff else eff - 1 := by
  unfold agedAfter
  rw [if_neg aged]
  cases q <;> rfl

/-- Settles O21, by the arbiter's winner; without an opportunity the start does nothing. -/
theorem transmitStartChoosesAged : Obligations.TransmitStartChoosesAged := by
  refine ⟨fun p s c f rest x hx ready timed aged queue gate timemark least => ?_, fun p s idle => ?_⟩
  · subst hx
    have choice : (s.port p).choice = some c :=
      (Port.choice_aged timed).trans (Port.agedWinner_eq aged (by rw [queue]; exact List.cons_ne_nil _ _) least)
    refine congrArg Host.Outcome.next ((startTransmit_begins ready choice queue (processFrame_plain gate timemark _)).trans ?_)
    rw [beginFrame_modPort]
    unfold Port.take
    simp only [agedAfter_eq aged, queue, List.tail_cons]
    have owed : ((s.port p).setQueue c rest).trainOwed = (s.port p).trainOwed ∧ ((s.port p).setQueue c rest).lineMark = (s.port p).lineMark := by
      cases c <;> exact ⟨rfl, rfl⟩
    rw [owed.1, owed.2]
  · have shut : ¬(s.port p).hasOpportunity = true := by
      rw [Port.hasOpportunity_iff]
      rintro ⟨⟨ready, free⟩, choice⟩
      rcases idle with unready | busy | empty
      · rw [ready] at unready
        cases unready
      · exact busy free
      · refine choice ((Port.choice_aged (empty .timed)).trans ?_)
        have access : (s.port p).access = [] := empty .access
        have measure : (s.port p).measure = [] := empty .measure
        have pass : (s.port p).pass = [] := empty .pass
        simp [Port.agedWinner, Port.queue, access, measure, pass]
    exact congrArg Host.Outcome.next (if_neg shut)

/-- Settles O22: TIMED goes first, and its head is stamped. -/
theorem transmitStartStampsTimemark : Obligations.TransmitStartStampsTimemark := by
  intro p s rest ready timed
  have choice : (s.port p).choice = some .timed := Port.choice_timed (by rw [timed]; exact List.cons_ne_nil _ _)
  have processed : processFrame .timemark (s.modPort p (fun x => x.take .timed))
      = (some (.stampedTimemark s.g s.tracker.inc (trackerCode s.tracker.state) (if pAcb s.par = true then 1 else 0)),
        s.modPort p (fun x => x.take .timed)) := by
    unfold processFrame bit
    cases p <;> rfl
  refine congrArg Host.Outcome.next ((startTransmit_begins ready choice timed processed).trans ?_)
  rw [beginFrame_modPort]
  have taken : (s.port p).take .timed = { s.port p with timed := rest } := by
    unfold Port.take
    rw [show (s.port p).queue .timed = _ from timed]
    rfl
  have bytes : (Frame.stampedTimemark s.g s.tracker.inc (trackerCode s.tracker.state) (if pAcb s.par = true then 1 else 0)).bytes s.nodeId
      = buildFrame 0x21#8 255#8 s.nodeId (bytesOfWord s.g ++ bytesOfWord (BitVec.ofNat 32 s.tracker.inc)
        ++ [BitVec.ofNat 8 (trackerCode s.tracker.state), if pAcb s.par = true then 1#8 else 0#8]) := by
    cases pAcb s.par <;> rfl
  rw [taken, bytes]

theorem Port.take_tx (x : Port) (c : TxClass) : (x.take c).tx = x.tx := by cases c <;> rfl

/-! ### Safety of begun frames -/

theorem checkCommands_held (cs : List GateCommand) (s : State) : ∀ c ∈ (checkCommands false cs s).1, c.isFire = false := by
  induction cs generalizing s with
  | nil => exact fun _ mem => nomatch mem
  | cons c cs ih =>
    intro d mem
    unfold checkCommands at mem
    dsimp only at mem
    cases fire : c.isFire with
    | true =>
      have gone : (checkCommand false c s).1 = none := by unfold checkCommand; rw [fire]; rfl
      rw [gone] at mem
      exact ih _ d mem
    | false =>
      have stays : (checkCommand false c s).1 = some c := by unfold checkCommand; rw [fire]; rfl
      rw [stays] at mem
      rcases List.mem_cons.mp mem with rfl | later
      · exact fire
      · exact ih _ d later

theorem processFrame_held {f f' : Frame} {s : State} (held : s.sup.state.fires = false) (h : (processFrame f s).1 = some f') : f'.fires = [] := by
  unfold processFrame at h
  cases f with
  | gate cs =>
    have firing : (s.sup.state == .running || s.sup.state == .holding) = false := held
    dsimp only at h
    rw [firing] at h
    split at h
    · cases h
    · obtain rfl := (Option.some.inj h).symm
      exact List.filter_eq_nil_iff.mpr fun c mem => by rw [checkCommands_held cs s c mem]; exact Bool.noConfusion
  | timemark => obtain rfl := (Option.some.inj h).symm; rfl
  | forwarded | stampedTimemark | reply | notice => obtain rfl := (Option.some.inj h).symm; rfl

theorem opportunity_held (p : PortId) (fuel : Nat) (s : State) (held : s.sup.state.fires = false) (free : (s.port p).tx = none) :
    ∀ x, ((opportunity p fuel s).port p).tx = some x → x.frame.fires = [] := by
  have still {t : State} (none : (t.port p).tx = none) : ∀ x, (t.port p).tx = some x → x.frame.fires = [] :=
    fun x some => by rw [none] at some; cases some
  induction fuel generalizing s with
  | zero => exact still free
  | succ fuel ih =>
    unfold opportunity
    split
    · exact still free
    · next c _ =>
      split
      · exact still free
      · next f _ _ =>
        have gate := processFrame_gate f (s.modPort p (fun x => x.take c))
        have sup : (processFrame f (s.modPort p (fun x => x.take c))).2.sup.state.fires = false := by
          rw [gate.sup, State.modPort_sup]
          exact held
        dsimp only
        split
        · next f' sent =>
          intro x begun
          unfold beginFrame at begun
          rw [State.modPort_port] at begun
          obtain rfl := Option.some.inj begun
          exact processFrame_held (by rw [State.modPort_sup]; exact held) sent
        · refine ih _ sup ?_
          rw [gate.toSupFrame.tx, State.modPort_port, Port.take_tx]
          exact free

/-- Settles O23: what a check outside RUNNING and HOLDING leaves holds no FIRE command. -/
theorem noFireOutsideFiringStates : Obligations.NoFireOutsideFiringStates := by
  intro p s running holding free
  have held : s.sup.state.fires = false := by
    cases fires : s.sup.state.fires with
    | false => rfl
    | true => exact ((fires_iff _).mp fires).elim (absurd · running) (absurd · holding)
  refine ⟨_, rfl, ?_⟩
  unfold startTransmit
  split
  · exact opportunity_held p _ s held free
  · exact fun x some => by rw [free] at some; cases some

/-! ### The transmit end -/

theorem reportFire_channel (c : GateCommand) (r : FireReport) (s : State) (v : ValveId) : (reportFire c r s).channel v
    = if c.valve = v ∧ (s.channel v).isCurrent c.latest = true then (s.channel v).takeReport r c.position else s.channel v := by
  have counted (u : State) : (countReport c.valve r u).channel v = u.channel v := by cases r <;> rfl
  unfold reportFire
  dsimp only
  rw [counted]
  by_cases current : (s.channel c.valve).isCurrent c.latest = true
  · rw [if_pos current]
    by_cases same : c.valve = v
    · subst same
      rw [if_pos ⟨rfl, current⟩]
      exact State.channel_setChannel ..
    · rw [if_neg (fun both => same both.1)]
      exact State.channel_setChannel_ne _ _ (Ne.symm same)
  · rw [if_neg current, if_neg]
    rintro ⟨rfl, now⟩
    exact current now

theorem reportFire_counter (c : GateCommand) (r : FireReport) (s : State) (k : Counter) :
    (reportFire c r s).counter k = (countReport c.valve r s).counter k := by
  unfold reportFire
  dsimp only
  split
  · cases r <;> rfl
  · rfl

/-- The report of a FIRE command at its transmit end (R40). -/
def sentReport (c : GateCommand) : FireReport := if c.late then .sentLate else .sent

theorem reportSent_eq (f : Frame) (s : State) : reportSent f s = f.fires.foldl (fun s c => reportFire c (sentReport c) s) s := rfl

theorem reportFire_sent_counter (c : GateCommand) (s : State) (v : ValveId) :
    (reportFire c (sentReport c) s).counter (.channel v 0) = s.counter (.channel v 0) + (if c.valve = v then 1 else 0)
    ∧ (reportFire c (sentReport c) s).counter (.channel v 1)
      = s.counter (.channel v 1) + (if c.valve = v ∧ c.late = true then 1 else 0) := by
  have one (n : Fin 9) (u : State) (m : Fin 9) : (bumpChannel c.valve n u).counter (.channel v m)
      = u.counter (.channel v m) + (if c.valve = v ∧ n = m then 1 else 0) := by
    by_cases same : c.valve = v ∧ n = m
    · obtain ⟨rfl, rfl⟩ := same
      rw [if_pos ⟨rfl, rfl⟩]
      exact counter_bump_self ..
    · rw [if_neg same]
      refine (counter_bump_of_ne _ (fun h => ?_)).trans (BitVec.add_zero _).symm
      injection h with valve number
      exact same ⟨valve, number⟩
  rw [reportFire_counter, reportFire_counter]
  unfold sentReport
  cases late : c.late with
  | false =>
    have counted : countReport c.valve (if false = true then .sentLate else .sent) s = bumpChannel c.valve 0 s := rfl
    rw [counted, one, one]
    simp
  | true =>
    have counted : countReport c.valve (if true = true then .sentLate else .sent) s = bumpChannel c.valve 1 (bumpChannel c.valve 0 s) := rfl
    rw [counted, one, one, one, one]
    simp

theorem reportFire_sent_other (c : GateCommand) (s : State) {k : Counter} (h : ∀ v : ValveId, k ≠ .channel v 0 ∧ k ≠ .channel v 1) :
    (reportFire c (sentReport c) s).counter k = s.counter k := by
  obtain ⟨fired, late⟩ := h c.valve
  rw [reportFire_counter]
  unfold sentReport
  split
  · exact (counter_bump_of_ne _ (Ne.symm late)).trans (counter_bump_of_ne _ (Ne.symm fired))
  · exact counter_bump_of_ne _ (Ne.symm fired)

theorem foldl_sent_counter (cs : List GateCommand) (s : State) (v : ValveId) :
    (cs.foldl (fun s c => reportFire c (sentReport c) s) s).counter (.channel v 0)
      = s.counter (.channel v 0) + BitVec.ofNat 32 (cs.filter (fun c => c.valve = v)).length
    ∧ (cs.foldl (fun s c => reportFire c (sentReport c) s) s).counter (.channel v 1)
      = s.counter (.channel v 1) + BitVec.ofNat 32 (cs.filter (fun c => c.valve = v ∧ c.late = true)).length := by
  have counts (p : GateCommand → Bool) (c : GateCommand) (cs : List GateCommand) (n : Word) :
      n + (if p c = true then 1 else 0) + BitVec.ofNat 32 (cs.filter p).length = n + BitVec.ofNat 32 ((c :: cs).filter p).length := by
    by_cases meets : p c = true
    · rw [if_pos meets, List.filter_cons_of_pos meets, List.length_cons, Nat.add_comm (List.length _), BitVec.ofNat_add, BitVec.add_assoc]
      rfl
    · rw [if_neg meets, List.filter_cons_of_neg meets]
      exact congrArg (· + _) (BitVec.add_zero n)
  induction cs generalizing s with
  | nil => simp
  | cons c cs ih =>
    obtain ⟨fired, late⟩ := ih (reportFire c (sentReport c) s)
    obtain ⟨firedHere, lateHere⟩ := reportFire_sent_counter c s v
    rw [List.foldl_cons, fired, late, firedHere, lateHere, ← counts, ← counts]
    simp

/-- A channel's command reported sent at the transmit end (R40, R138). -/
def sentTo (c : GateCommand) (ch : Channel) : Channel :=
  { ch with state := .await, outcome := if c.late = true then .late else .sent, fire := if c.late = true then c.position else ch.fire }

theorem takeReport_sent (c : GateCommand) (ch : Channel) : ch.takeReport (sentReport c) c.position = sentTo c ch := by
  unfold sentReport sentTo
  cases c.late <;> rfl

theorem foldl_sent_rest (cs : List GateCommand) {s : State} {v : ValveId} (h : (s.channel v).state ≠ .issued) :
    (cs.foldl (fun s c => reportFire c (sentReport c) s) s).channel v = s.channel v := by
  refine foldl_keeps (P := fun t => t.channel v = s.channel v) _ (fun t c same => ?_) cs s rfl
  rw [reportFire_channel, if_neg, same]
  rintro ⟨-, current⟩
  simp only [Channel.isCurrent, same, Bool.and_eq_true, beq_iff_eq] at current
  exact h current.1

/-- The first FIRE command of the frame that is the channel's current one is reported to it (R138). -/
theorem foldl_sent_channel (cs : List GateCommand) {s : State} {v : ValveId} (issued : (s.channel v).state = .issued) :
    (cs.foldl (fun s c => reportFire c (sentReport c) s) s).channel v
      = ((cs.find? (fun c => c.valve = v ∧ c.latest = (s.channel v).latest)).map (fun c => sentTo c (s.channel v))).getD (s.channel v) := by
  induction cs generalizing s with
  | nil => rfl
  | cons c cs ih =>
    have current : (s.channel v).isCurrent c.latest = true ↔ c.latest = (s.channel v).latest := by
      unfold Channel.isCurrent
      rw [issued, Bool.and_eq_true, beq_iff_eq, beq_iff_eq, and_iff_right rfl]
      exact eq_comm
    have reported := reportFire_channel c (sentReport c) s v
    rw [List.foldl_cons]
    by_cases meets : c.valve = v ∧ c.latest = (s.channel v).latest
    · rw [if_pos ⟨meets.1, current.mpr meets.2⟩, takeReport_sent] at reported
      rw [foldl_sent_rest cs (by rw [reported]; exact ChannelState.noConfusion), reported, List.find?_cons_of_pos (by simpa using meets)]
      rfl
    · rw [if_neg (fun both => meets ⟨both.1, current.mp both.2⟩)] at reported
      rw [ih (by rw [reported]; exact issued), reported, List.find?_cons_of_neg (by simpa using meets)]

/-- A report changes its channel and counters (R138). -/
theorem reportFire_eq (c : GateCommand) (r : FireReport) (t : State) :
    reportFire c r t = { t with channels := (reportFire c r t).channels, counters := (reportFire c r t).counters } := by
  unfold reportFire
  dsimp only
  split <;> cases r <;> rfl

theorem foldl_sent_frame (cs : List GateCommand) (s : State) : cs.foldl (fun s c => reportFire c (sentReport c) s) s
    = { s with channels := (cs.foldl (fun s c => reportFire c (sentReport c) s) s).channels,
               counters := (cs.foldl (fun s c => reportFire c (sentReport c) s) s).counters } := by
  refine foldl_keeps (P := fun t => t = { s with channels := t.channels, counters := t.counters }) _ (fun t c same => ?_) cs s rfl
  exact (reportFire_eq c _ t).trans (congrArg (fun u : State => { u with
    channels := (reportFire c (sentReport c) t).channels, counters := (reportFire c (sentReport c) t).counters }) same)

/-- Settles O25: the frame is ended and counted, and its FIRE commands are reported in their order. -/
theorem transmitEndReports : Obligations.TransmitEndReports := by
  intro p s
  refine ⟨fun none => ?_, fun x y begun hy => ?_⟩
  · refine congrArg Host.Outcome.next ?_
    unfold endTransmit
    rw [none]
  · have ended : endTransmit p s = x.frame.fires.foldl (fun s c => reportFire c (sentReport c) s) (bump (.sent p x.cls) y) := by
      unfold endTransmit
      rw [begun]
      dsimp only
      rw [reportSent_eq, hy]
      cases p <;> rfl
    have counted (k : Counter) (other : k ≠ .sent p x.cls) : (bump (.sent p x.cls) y).counter k = s.counter k := by
      rw [counter_bump_of_ne _ (Ne.symm other), hy]
      cases p <;> rfl
    have others {k : Counter} (h : ∀ v : ValveId, k ≠ .channel v 0 ∧ k ≠ .channel v 1) :
        (endTransmit p s).counter k = (bump (.sent p x.cls) y).counter k := by
      rw [ended]
      exact foldl_keeps (P := fun t => t.counter k = _) _ (fun t c same => (reportFire_sent_other c t h).trans same) _ _ rfl
    have channels (v : ValveId) : (bump (.sent p x.cls) y).channel v = s.channel v := by rw [hy]; cases p <;> rfl
    refine ⟨_, rfl, ?_, fun v => ?_, fun k other aside => ?_, fun v ch hch => ?_, fun none => ?_, ?_⟩
    · rw [others (by simp), counter_bump_self, hy]
      cases p <;> rfl
    · rw [ended]
      obtain ⟨fired, late⟩ := foldl_sent_counter x.frame.fires (bump (.sent p x.cls) y) v
      rw [counted _ Counter.noConfusion] at fired late
      exact ⟨fired, late⟩
    · rw [others aside, counted k other]
    · rw [ended, hch]
      by_cases issued : (s.channel v).state = .issued
      · rw [foldl_sent_channel _ (by rw [channels]; exact issued), channels]
        cases x.frame.fires.find? (fun c => c.valve = v ∧ c.latest = (s.channel v).latest) with
        | none => rfl
        | some c => exact (if_pos issued).symm
      · rw [foldl_sent_rest _ (by rw [channels]; exact issued), channels]
        cases x.frame.fires.find? (fun c => c.valve = v ∧ c.latest = (s.channel v).latest) with
        | none => rfl
        | some c => exact (if_neg issued).symm
    · rw [ended, none]
      rfl
    · rw [ended]
      exact foldl_sent_frame _ _

end Sys2Proof.Machine
end

section
/-! The late check of FIRE commands at a transmit start (R38, R39). -/

namespace Sys2Proof.Machine

/-! ### Positions at the late check -/

/-- From a position at most 2^30 gu before G, G + lateMargin lies the margin less the distance ahead. -/
theorem diff_margin {g p : Pos} {m : Nat} (small : m ≤ 2048) (low : -1073741824 ≤ diff p g) (below : diff p g < m) :
    diff (g + BitVec.ofNat 32 m) p = m - diff p g := by
  have shifted : g + BitVec.ofNat 32 m - p = BitVec.ofNat 32 m - (p - g) := by
    generalize BitVec.ofNat 32 m = x
    bv_omega
  have margin : (BitVec.ofNat 32 m).toInt = m := by
    rw [BitVec.toInt_ofNat', Int.bmod_eq_of_le] <;> norm_num
    omega
  unfold diff at *
  generalize p - g = d at *
  rw [shifted, BitVec.toInt_sub, margin]
  apply Int.bmod_eq_of_le <;> norm_num <;> omega

theorem add_diff_margin {g p : Pos} {m : Nat} (small : m ≤ 2048) (low : -1073741824 ≤ diff p g) (below : diff p g < m) :
    p + BitVec.ofNat 32 (m - diff p g).toNat = g + BitVec.ofNat 32 m := by
  have ahead : 0 ≤ diff (g + BitVec.ofNat 32 m) p := by
    rw [diff_margin small low below]
    omega
  have word : BitVec.ofNat 32 (m - diff p g).toNat = g + BitVec.ofNat 32 m - p := by
    rw [← diff_margin small low below, ← BitVec.ofInt_natCast, Int.toNat_of_nonneg ahead]
    exact BitVec.ofInt_toInt
  rw [word, BitVec.add_comm, BitVec.sub_add_cancel]

theorem lateCheck_asIs {g : Pos} {m : Nat} {c : GateCommand} (enough : (m : Int) ≤ diff c.position g) : lateCheck g m c = .asIs := if_pos enough

theorem lateCheck_tooLate {g : Pos} {m : Nat} {c : GateCommand} (below : diff c.position g < m)
    (gone : 0 < diff (g + BitVec.ofNat 32 m) c.latest) : lateCheck g m c = .tooLate := by
  unfold lateCheck
  rw [if_neg (Int.not_le.mpr below)]
  exact if_pos (decide_eq_true gone)

theorem lateCheck_moved {g : Pos} {m : Nat} {c : GateCommand} (small : m ≤ 2048) (low : -1073741824 ≤ diff c.position g)
    (below : diff c.position g < m) (still : ¬0 < diff (g + BitVec.ofNat 32 m) c.latest) :
    lateCheck g m c = .moved (m - diff c.position g).toNat := by
  unfold lateCheck
  rw [if_neg (Int.not_le.mpr below), diff_margin small low below]
  exact if_neg (by unfold isAfter; rw [decide_eq_false still]; exact Bool.noConfusion)

theorem rewritten_eq {g : Pos} {m : Nat} {c : GateCommand} (small : m ≤ 2048) (low : -1073741824 ≤ diff c.position g)
    (below : diff c.position g < m) : c.rewritten (m - diff c.position g).toNat = { c with
      position := g + BitVec.ofNat 32 m, late := true,
      pulse := if c.style = .sustain then c.pulse - (m - diff c.position g).toNat else c.pulse } := by
  unfold GateCommand.rewritten
  rw [add_diff_margin small low below]
  cases c.style <;> rfl

/-! ### The details -/

theorem halves_mod {a : Nat} (ha : a < 65536) (b : Nat) : halves a b = BitVec.ofNat 32 (a * 65536 + b % 65536) := by
  have low : halves a b = halves a (b % 65536) := by
    unfold halves field
    rw [show b % 65536 % 2 ^ 16 = b % 2 ^ 16 by omega]
  rw [low, halves_eq ha (Nat.mod_lt _ (by decide))]

theorem lateDetail_eq (c : GateCommand) (units : Nat) :
    lateDetail c units = BitVec.ofNat 32 (c.valve.val * 16777216 + units % 65536) := by
  have valve := c.valve.isLt
  unfold lateDetail
  rw [halves_mod (by omega), Nat.mul_assoc]

theorem skippedDetail_eq (c : GateCommand) :
    skippedDetail c = BitVec.ofNat 32 (c.valve.val * 16777216 + 65536 + phaseOf c.position) := by
  have valve := c.valve.isLt
  have phase : phaseOf c.position < 65536 := Nat.mod_lt _ (by decide)
  unfold skippedDetail
  rw [halves_eq (by omega) phase, Nat.add_mul, Nat.mul_assoc]

/-! ### The commands of a GATE frame -/

theorem reportTaken_idle {c : GateCommand} {r : FireReport} {o : FireOutcome} (s : State)
    (taken : ∀ ch : Channel, ch.takeReport r c.position = { ch with outcome := o, state := .idle }) :
    reportFire c r s = countReport c.valve r (reportTaken c o .idle s) := by
  unfold reportFire reportTaken
  dsimp only
  rw [taken]
  refine congrArg (countReport c.valve r) (if_congr ?_ rfl rfl)
  unfold Channel.isCurrent
  rw [Bool.and_eq_true, beq_iff_eq, beq_iff_eq]

theorem isFire_iff (c : GateCommand) : c.isFire = true ↔ c.code = .fire := beq_iff_eq

theorem checkCommands_cons (firing : Bool) (c : GateCommand) (cs : List GateCommand) (s : State) :
    checkCommands firing (c :: cs) s = ((checkCommand firing c s).1.toList ++ (checkCommands firing cs (checkCommand firing c s).2).1,
      (checkCommands firing cs (checkCommand firing c s).2).2) := by
  have unfolded : checkCommands firing (c :: cs) s = (match (checkCommand firing c s).1 with
      | some c' => c' :: (checkCommands firing cs (checkCommand firing c s).2).1
      | none => (checkCommands firing cs (checkCommand firing c s).2).1, (checkCommands firing cs (checkCommand firing c s).2).2) := rfl
  rw [unfolded]
  cases (checkCommand firing c s).1 <;> rfl

theorem checkCommand_plain {c : GateCommand} (other : c.code ≠ .fire) (firing : Bool) (s : State) : checkCommand firing c s = (some c, s) :=
  if_neg (by rw [isFire_iff]; exact other)

theorem checkCommand_held {c : GateCommand} (fire : c.code = .fire) (s : State) :
    checkCommand false c s = (none, bump (.channel c.valve 3) (reportTaken c .notSent .idle s)) := by
  unfold checkCommand
  rw [if_pos ((isFire_iff c).mpr fire), reportTaken_idle s (r := .notSent) (o := .notSent) (fun _ => rfl)]
  rfl

theorem checkCommand_fire {c : GateCommand} (fire : c.code = .fire) (s : State) : checkCommand true c s
    = match lateCheck s.g (pLateMargin s.par c.valve) c with
      | .asIs => (some c, s)
      | .moved units => (some (c.rewritten units), raise srcLateFire (lateDetail c units) s)
      | .tooLate => (none, raise srcSkippedFire (skippedDetail c) (reportFire c .skipped s)) := by
  unfold checkCommand
  rw [if_pos ((isFire_iff c).mpr fire)]
  rfl

theorem checkCommand_inTime {c : GateCommand} (fire : c.code = .fire) {s : State}
    (enough : (pLateMargin s.par c.valve : Int) ≤ diff c.position s.g) : checkCommand true c s = (some c, s) := by
  rw [checkCommand_fire fire, lateCheck_asIs enough]

theorem checkCommand_late {c : GateCommand} {m : Nat} {s : State} (fire : c.code = .fire) (margin : m = pLateMargin s.par c.valve)
    (small : m ≤ 2048) (low : -1073741824 ≤ diff c.position s.g) (below : diff c.position s.g < m)
    (still : ¬0 < diff (s.g + BitVec.ofNat 32 m) c.latest) : checkCommand true c s
      = (some { c with
          position := s.g + BitVec.ofNat 32 m, late := true,
          pulse := if c.style = .sustain then c.pulse - (m - diff c.position s.g).toNat else c.pulse },
        raise srcLateFire (BitVec.ofNat 32 (c.valve.val * 16777216 + (m - diff c.position s.g).toNat % 65536)) s) := by
  rw [checkCommand_fire fire, ← margin, lateCheck_moved small low below still]
  dsimp only
  rw [rewritten_eq small low below, lateDetail_eq]

theorem checkCommand_skipped {c : GateCommand} {m : Nat} {s : State} (fire : c.code = .fire) (margin : m = pLateMargin s.par c.valve)
    (below : diff c.position s.g < m) (gone : 0 < diff (s.g + BitVec.ofNat 32 m) c.latest) : checkCommand true c s
      = (none, raise srcSkippedFire (BitVec.ofNat 32 (c.valve.val * 16777216 + 65536 + phaseOf c.position))
          (bump (.channel c.valve 2) (reportTaken c .skipped .idle s))) := by
  rw [checkCommand_fire fire, ← margin, lateCheck_tooLate below gone, skippedDetail_eq, reportTaken_idle s (r := .skipped) (o := .skipped) (fun _ => rfl)]
  rfl

/-- The commands are checked in their order, each by its case (R38, R39). -/
theorem checkCommands_checked (firing : Bool) (cs : List GateCommand) (s : State)
    (bounds : ∀ c, c ∈ cs → c.code = .fire → pLateMargin s.par c.valve ≤ 2048 ∧ -1073741824 ≤ diff c.position s.g) :
    CommandsChecked firing cs s (checkCommands firing cs s).1 (checkCommands firing cs s).2 := by
  induction cs generalizing s with
  | nil => exact .none s
  | cons c cs ih =>
    have gate := checkCommand_gate firing c s
    have rest : CommandsChecked firing cs (checkCommand firing c s).2 (checkCommands firing cs (checkCommand firing c s).2).1
        (checkCommands firing cs (checkCommand firing c s).2).2 := by
      refine ih _ fun d mem fire => ?_
      have same : (checkCommand firing c s).2.par = s.par ∧ (checkCommand firing c s).2.g = s.g :=
        ⟨by unfold State.par; rw [gate.tables], congrArg (fun t : Tracker => t.g48.extractLsb' 16 32) gate.tracker⟩
      rw [same.1, same.2]
      exact bounds d (List.mem_cons_of_mem c mem) fire
    rw [checkCommands_cons]
    by_cases fire : c.code = .fire
    · obtain ⟨small, low⟩ := bounds c List.mem_cons_self fire
      cases firing with
      | false =>
        rw [checkCommand_held fire] at rest ⊢
        exact .notSent c cs _ s _ fire rfl rest
      | true =>
        by_cases enough : (pLateMargin s.par c.valve : Int) ≤ diff c.position s.g
        · rw [checkCommand_inTime fire enough] at rest ⊢
          exact .inTime c cs _ s _ fire rfl enough rest
        · have below := Int.not_le.mp enough
          by_cases gone : 0 < diff (s.g + BitVec.ofNat 32 (pLateMargin s.par c.valve)) c.latest
          · rw [checkCommand_skipped fire rfl below gone] at rest ⊢
            exact .skipped c cs _ _ s _ _ fire rfl rfl below gone (raise_raised _ _ _) rest
          · rw [checkCommand_late fire rfl small low below gone] at rest ⊢
            exact .late c cs _ _ _ s _ _ fire rfl rfl below gone rfl (raise_raised _ _ _) rest
    · rw [checkCommand_plain fire] at rest ⊢
      exact .plain c cs _ s _ fire rest

/-- The check leaves the port's queue (R38). -/
theorem checkCommands_timed (firing : Bool) (cs : List GateCommand) (s : State) : (checkCommands firing cs s).2.ps.timed = s.ps.timed := by
  have one (c : GateCommand) (s : State) : (checkCommand firing c s).2.ps.timed = s.ps.timed := by
    have reported (r : FireReport) : (reportFire c r s).ps.timed = s.ps.timed := congrArg Port.timed (reportFire_port c r s .south)
    by_cases fire : c.code = .fire
    · cases firing with
      | false =>
        unfold checkCommand
        rw [if_pos ((isFire_iff c).mpr fire)]
        exact reported _
      | true =>
        rw [checkCommand_fire fire]
        cases lateCheck s.g (pLateMargin s.par c.valve) c with
        | asIs => rfl
        | moved units => exact (raise_quiet _ _ _).timed
        | tooLate => exact (raise_quiet _ _ _).timed.trans (reported _)
    · rw [checkCommand_plain fire]
  induction cs generalizing s with
  | nil => rfl
  | cons c cs ih =>
    rw [checkCommands_cons]
    exact (ih _).trans (one c s)

/-! ### The transmit start of a GATE frame -/

/-- PS with the head of its TIMED queue taken. -/
theorem take_gate {s : State} {cs : List GateCommand} {rest : List Frame} (timed : s.ps.timed = .gate cs :: rest) :
    s.modPort .south (fun x => x.take .timed) = { s with ps := { s.ps with timed := rest } } := by
  have taken : s.ps.take .timed = { s.ps with timed := rest } := by
    unfold Port.take
    rw [show s.ps.queue .timed = _ from timed]
    rfl
  exact congrArg (fun x => { s with ps := x }) taken

theorem processFrame_gates (cs : List GateCommand) (z : State) : processFrame (.gate cs) z
    = (if (checkCommands z.sup.state.fires cs z).1 = [] then none else some (.gate (checkCommands z.sup.state.fires cs z).1),
      (checkCommands z.sup.state.fires cs z).2) := by
  have unfolded : processFrame (.gate cs) z = if (checkCommands z.sup.state.fires cs z).1.isEmpty = true
      then (none, (checkCommands z.sup.state.fires cs z).2)
      else (some (.gate (checkCommands z.sup.state.fires cs z).1), (checkCommands z.sup.state.fires cs z).2) := rfl
  rw [unfolded]
  cases (checkCommands z.sup.state.fires cs z).1 <;> rfl

section
variable {s z : State} {cs : List GateCommand} {rest : List Frame} (ready : s.ps.canStart) (timed : s.ps.timed = .gate cs :: rest)
  (hz : z = { s with ps := { s.ps with timed := rest } })
include ready timed hz

/-- Where commands remain they are sent in one frame (R38). -/
theorem startTransmit_gate {kept : List GateCommand} {u : State} (checked : checkCommands s.sup.state.fires cs z = (kept, u))
    (some_ : kept ≠ []) : startTransmit .south s = beginFrame .south .timed (.gate kept) u := by
  have choice : s.ps.choice = some .timed := Port.choice_timed (by rw [timed]; exact List.cons_ne_nil _ _)
  refine startTransmit_begins (p := .south) ready choice timed ?_
  have sup : z.sup = s.sup := by rw [hz]
  rw [take_gate timed, ← hz, processFrame_gates, sup, checked]
  exact congrArg (·, u) (if_neg some_)

/-- Where no command remains PS chooses again at once (R39). -/
theorem startTransmit_again {u : State} (checked : checkCommands s.sup.state.fires cs z = ([], u)) :
    startTransmit .south s = startTransmit .south u := by
  have choice : s.ps.choice = some .timed := Port.choice_timed (by rw [timed]; exact List.cons_ne_nil _ _)
  have open_ : s.ps.hasOpportunity = true := (Port.hasOpportunity_iff _).mpr ⟨ready, by rw [choice]; exact Option.some_ne_none _⟩
  have sup : z.sup = s.sup := by rw [hz]
  have gate : GateFrame z u := by
    have gate := checkCommands_gate s.sup.state.fires cs z
    rwa [checked] at gate
  have queue : u.ps.timed = rest := by
    have same := checkCommands_timed s.sup.state.fires cs z
    rw [checked] at same
    rw [same, hz]
  have still : u.ps.canStart := by
    have transmitReady := gate.toSupFrame.transmitReady .south
    have tx := gate.toSupFrame.tx .south
    rw [hz] at transmitReady tx
    exact ⟨transmitReady.trans ready.1, tx.trans ready.2⟩
  have first : startTransmit .south s = opportunity .south (rest.length + 1) u := by
    have start : startTransmit .south s = opportunity .south (s.ps.timed.length + 1) s := if_pos open_
    have length : s.ps.timed.length = rest.length + 1 := by rw [timed]; rfl
    rw [start, length]
    unfold opportunity
    rw [show (s.port .south).choice = _ from choice]
    dsimp only
    rw [show (s.port .south).queue .timed = _ from timed]
    dsimp only
    rw [take_gate timed, ← hz, processFrame_gates, sup, checked]
    rfl
  rw [first]
  unfold startTransmit
  by_cases again : (u.port .south).hasOpportunity = true
  · rw [if_pos again, show (u.port .south).timed = _ from queue]
  · rw [if_neg again]
    have none : (u.port .south).choice = none := by
      rw [Port.hasOpportunity_iff] at again
      by_contra some_
      exact again ⟨still, some_⟩
    unfold opportunity
    rw [none]

end

/-- A frame begun at PS. -/
theorem beginFrame_south (c : TxClass) (f : Frame) (u : State) : beginFrame .south c f u = { u with ps := { u.ps with
    tx := some { cls := c, frame := f, bytes := f.bytes u.nodeId }, trainOwed := false,
    lineMark := if u.ps.trainOwed = true then some (.train true) else u.ps.lineMark } } := by
  have begun := beginFrame_modPort .south c f u id
  exact begun

/-- A frame begun at PS before and after a step that notices and replies may do. -/
theorem QuietFrame.beginFrame {z u : State} (h : QuietFrame z u) (c : TxClass) (f : Frame) :
    QuietFrame (beginFrame .south c f z) (beginFrame .south c f u) := by
  have ps := congrArg (fun x : Port => { x with
    tx := some { cls := c, frame := f, bytes := f.bytes u.nodeId }, trainOwed := false,
    lineMark := if x.trainOwed = true then some (.train true) else x.lineMark }) h.ps
  rw [beginFrame_south, beginFrame_south, ← h.nodeId]
  exact ⟨⟨⟨h.pending, rfl, h.fwd, h.merge, h.engine, h.agent, h.pn, ps, h.counts⟩, h.sup, h.tables, h.tracker, h.pace, h.gates⟩,
    h.channels, h.timed, h.notes⟩

theorem decide_fires (s : State) : decide (s.sup.state = .running ∨ s.sup.state = .holding) = s.sup.state.fires := by
  rw [Bool.eq_iff_iff, decide_eq_true_iff, fires_iff]

theorem checkCommands_single {firing : Bool} {c : GateCommand} {z u : State} {kept : Option GateCommand}
    (checked : checkCommand firing c z = (kept, u)) : checkCommands firing [c] z = (kept.toList, u) := by
  rw [checkCommands_cons, checked]
  exact congrArg (·, u) (List.append_nil _)

/-- Settles O24: one FIRE command by the three outcomes of its check, and a frame of any commands by their checks in order. -/
theorem lateCheckOfOneFire : Obligations.LateCheckOfOneFire := by
  refine ⟨fun s c rest m ready timed fire firing margin small low => ?_, fun s cs rest ready timed bounds => ?_⟩
  · obtain ⟨z, hz⟩ : ∃ z, z = { s with ps := { s.ps with timed := rest } } := ⟨_, rfl⟩
    have fires : s.sup.state.fires = true := (fires_iff _).mpr firing
    have g : z.g = s.g := by rw [hz]; rfl
    have par : m = pLateMargin z.par c.valve := by rw [hz]; exact margin
    have begun (f : Frame) : beginFrame .south .timed f z = { s with ps := { s.ps with
        timed := rest, trainOwed := false,
        lineMark := if s.ps.trainOwed = true then some (.train true) else s.ps.lineMark,
        tx := some { cls := .timed, frame := f, bytes := f.bytes s.nodeId } } } := by
      rw [beginFrame_south, hz]
    refine ⟨fun enough => ?_, fun c' below still hc' => ?_, fun below gone last access measure pass disabled => ?_⟩
    · have checked : checkCommands s.sup.state.fires [c] z = ([c], z) := by
        rw [fires]
        exact checkCommands_single (checkCommand_inTime fire (by rw [← par, g]; exact enough))
      exact congrArg Host.Outcome.next ((startTransmit_gate ready timed hz checked (List.cons_ne_nil _ _)).trans (begun _))
    · have late := checkCommand_late (s := z) fire par small (by rw [g]; exact low) (by rw [g]; exact below) (by rw [g]; exact still)
      obtain ⟨d, checked⟩ : ∃ d, checkCommands s.sup.state.fires [c] z = ([c'], raise srcLateFire d z) := by
        rw [fires, hc', ← g]
        exact ⟨_, checkCommands_single late⟩
      refine ⟨_, congrArg Host.Outcome.next (startTransmit_gate ready timed hz checked (List.cons_ne_nil _ _)), ?_⟩
      rw [← begun]
      exact (raise_quiet _ _ _).beginFrame _ _
    · have skipped := checkCommand_skipped (s := z) fire par (by rw [g]; exact below) (by rw [g]; exact gone)
      rw [show bump (.channel c.valve 2) (reportTaken c .skipped .idle z) = reportFire c .skipped z from
        (reportTaken_idle z (r := .skipped) (fun _ => rfl)).symm] at skipped
      have ps : (reportFire c .skipped z).ps = { s.ps with timed := [] } := by
        rw [reportFire_eq, hz, last]
      have notices : (reportFire c .skipped z).notices = s.notices := by rw [reportFire_eq, hz]
      rw [raise_disabled (by rw [notices]; exact disabled)] at skipped
      have checked : checkCommands s.sup.state.fires [c] z = ([], reportFire c .skipped z) := by
        rw [fires]
        exact checkCommands_single skipped
      have idle : ¬((reportFire c .skipped z).port .south).hasOpportunity = true := by
        rw [show (reportFire c .skipped z).port .south = _ from ps, Port.hasOpportunity_iff]
        rintro ⟨-, some_⟩
        refine some_ ((Port.choice_aged rfl).trans ?_)
        simp [Port.agedWinner, Port.queue, access, measure, pass]
      have emptied : startTransmit .south s = reportFire c .skipped z := (startTransmit_again ready timed hz checked).trans (if_neg idle)
      refine ⟨_, congrArg Host.Outcome.next emptied, ps, ?_, ?_, ?_⟩
      · rw [reportFire_counter]
        refine (counter_bump_self ..).trans ?_
        rw [hz]
        rfl
      · rw [reportFire_channel, show z.channel c.valve = s.channel c.valve by rw [hz]; rfl]
        refine if_congr ?_ rfl rfl
        rw [and_iff_right rfl]
        unfold Channel.isCurrent
        rw [Bool.and_eq_true, beq_iff_eq, beq_iff_eq]
      · rw [hz]
        exact (setTimed_gate (fun _ => rest) s).trans (reportFire_gate ..)
  · obtain ⟨z, hz⟩ : ∃ z, z = { s with ps := { s.ps with timed := rest } } := ⟨_, rfl⟩
    obtain ⟨kept, u, checked⟩ : ∃ kept u, checkCommands s.sup.state.fires cs z = (kept, u) := ⟨_, _, rfl⟩
    have commands := checkCommands_checked s.sup.state.fires cs z (by rw [hz]; exact bounds)
    have gate := checkCommands_gate s.sup.state.fires cs z
    rw [checked] at commands gate
    rw [← hz]
    refine ⟨kept, u, by rw [decide_fires]; exact commands, fun some_ => ?_, fun none => ?_⟩
    · have owed : u.ps.trainOwed = s.ps.trainOwed := (gate.toSupFrame.trainOwed .south).trans (by rw [hz]; rfl)
      have mark : u.ps.lineMark = s.ps.lineMark := (gate.toSupFrame.lineMark .south).trans (by rw [hz]; rfl)
      have node : u.nodeId = s.nodeId := gate.nodeId.trans (by rw [hz])
      refine congrArg Host.Outcome.next ((startTransmit_gate ready timed hz checked some_).trans ?_)
      rw [beginFrame_south, node, owed, mark]
    · rw [none] at checked
      exact congrArg Host.Outcome.next (startTransmit_again ready timed hz checked)

end Sys2Proof.Machine
end

section
/-! The TIMEMARK position, and the issue positions and load points of the channels (R74, R131 to R136). -/

namespace Sys2Proof.Machine

/-! ### A position reached -/

/-- G at a position, or past it where it was there already. -/
theorem arriveAt_eq (x : Pos) (s : State) : arriveAt x s
    = if 0 < diff x s.g then { s with tracker := { s.tracker with g48 := x.append 0#16 } } else s :=
  if_congr decide_eq_true_iff rfl rfl

theorem arriveAt_past {x : Pos} {s : State} (past : diff x s.g ≤ 0) : arriveAt x s = s := by
  rw [arriveAt_eq]
  exact if_neg (Int.not_lt.mpr past)

theorem arriveAt_g {x : Pos} {s : State} (ahead : 0 < diff x s.g) : (arriveAt x s).g = x := by
  rw [arriveAt_eq, if_pos ahead]
  show BitVec.extractLsb' 16 32 (x ++ 0#16) = x
  ext i inside
  rw [BitVec.getElem_extractLsb', BitVec.getLsbD_append]
  simp [inside]

/-- G has reached the position. -/
theorem arriveAt_reached (x : Pos) (s : State) : diff x (arriveAt x s).g ≤ 0 := by
  by_cases ahead : 0 < diff x s.g
  · rw [arriveAt_g ahead, diff_self]
  · rw [arriveAt_past (Int.not_lt.mp ahead)]
    exact Int.not_lt.mp ahead

theorem reached_iff (x : Pos) (s : State) : reached x s = true ↔ diff x s.g ≤ 0 := by
  unfold reached isAfter
  simp

/-- Settles O28: the frame is offered to TIMED, and the position rises in every case. -/
theorem timemarkPosition : Obligations.TimemarkPosition := by
  intro s x hx
  have arrived : arriveAt s.tracker.nextTimemark s = x := (arriveAt_eq _ _).trans hx.symm
  have next : x.tracker.nextTimemark = s.tracker.nextTimemark := by
    rw [hx]
    split <;> rfl
  refine ⟨timemarkReached x, offer .south .timed .timemark x, congrArg (fun y => Host.Outcome.next (timemarkReached y)) arrived,
    offer_offered .south .timed .timemark x, ?_⟩
  unfold timemarkReached
  rw [(offer_timed_gate .timemark x).tracker, next]
  rfl

/-! ### Issuing -/

theorem appendToTail_eq_none {q : List Frame} {c : GateCommand} (h : ∀ init cs, q = init ++ [.gate cs] → 6 ≤ cs.length) :
    appendToTail q c = none := by
  cases tail : appendToTail q c with
  | none => rfl
  | some q' =>
    obtain ⟨init, cs, same, few, -⟩ := appendToTail_eq_some.mp tail
    exact absurd (h init cs same) (Nat.not_le.mpr few)

section
variable {c : GateCommand} {s : State} (ready : s.ps.transmitReady = true)
include ready

/-- The command joins the tail GATE frame (R35). -/
theorem issueGate_joined {q : List Frame} (tail : appendToTail s.ps.timed c = some q) :
    issueGate c s = { s with ps := { s.ps with timed := q } } := by
  have offered : offerOutcome .south .timed s ≠ .notReady := by
    unfold offerOutcome
    rw [if_pos (show (s.port .south).transmitReady = true from ready)]
    split <;> exact OfferResult.noConfusion
  unfold issueGate
  cases outcome : offerOutcome .south .timed s with
  | notReady => exact absurd outcome offered
  | placed | full => rw [tail]; rfl

/-- The command opens a GATE frame where the queue has place for it (R35). -/
theorem issueGate_opened (tail : appendToTail s.ps.timed c = none) (room : s.ps.timed.length < 4) :
    issueGate c s = { s with ps := { s.ps with timed := s.ps.timed ++ [.gate [c]] } } := by
  have placed : offerOutcome .south .timed s = .placed := offerOutcome_placed_iff.mpr ⟨ready, room⟩
  unfold issueGate offer offerQuiet
  rw [placed, tail]
  rfl

/-- The command finds the queue full (R36). -/
theorem issueGate_full (tail : appendToTail s.ps.timed c = none) (full : 4 ≤ s.ps.timed.length) : issueGate c s = gateQueueFull c s := by
  have outcome : offerOutcome .south .timed s = .full := by
    unfold offerOutcome
    rw [if_pos (show (s.port .south).transmitReady = true from ready)]
    exact if_neg (Nat.not_lt.mpr full)
  unfold issueGate
  rw [outcome, tail]

theorem offer_full (f : Frame) (full : 4 ≤ s.ps.timed.length) :
    offer .south .timed f s = raiseIf (!f.isNotice) srcQueueDrop (bytes4 1 0 f.kind.toNat 0) (bump (.overflow .south .timed) s) := by
  have outcome : offerOutcome .south .timed s = .full := by
    unfold offerOutcome
    rw [if_pos (show (s.port .south).transmitReady = true from ready)]
    exact if_neg (Nat.not_lt.mpr full)
  unfold offer offerQuiet
  rw [outcome]
  rfl

end

theorem issueGate_notReady {c : GateCommand} {s : State} (down : s.ps.transmitReady = false) :
    issueGate c s = reportNotSent c (bump (.notReady .south .timed) s) := by
  have outcome : offerOutcome .south .timed s = .notReady := by
    unfold offerOutcome
    exact if_neg (by rw [show (s.port .south).transmitReady = false from down]; exact Bool.noConfusion)
  unfold issueGate offer offerQuiet
  rw [outcome]

/-- A FIRE command reported not sent to the channel whose current command it is (R138). -/
theorem reportNotSent_issued {c : GateCommand} {u : State} {ch : Channel} (fire : c.code = .fire) (now : u.channel c.valve = ch)
    (issued : ch.state = .issued) (latest : ch.latest = c.latest) :
    reportNotSent c u = bump (.channel c.valve 3) (u.setChannel c.valve { ch with outcome := .notSent, state := .idle }) := by
  unfold reportNotSent reportFire
  rw [fire, now]
  dsimp only
  rw [if_pos (by simp [Channel.isCurrent, issued, latest])]
  rfl

theorem fireCommand_eq (ch : Channel) (v : ValveId) : ch.fireCommand v = {
    valve := v, code := .fire,
    pulse := if ch.halfStyle = .sustain then (ch.loadPoint + 32768#32 - ch.fire).toNat else ch.pulse,
    position := ch.fire, latest := ch.latest, style := ch.halfStyle, sustainEnd := ch.loadPoint + 32768#32, late := false } := by
  unfold Channel.fireCommand
  cases ch.halfStyle <;> rfl

theorem issueFire_eq (v : ValveId) (s : State) : issueFire v s = issueGate ((s.channel v).fireCommand v) (s.setChannel v
    { s.channel v with state := .issued, outcome := .none, lastPulse := ((s.channel v).fireCommand v).pulse }) := rfl

theorem issueCommanded_armed {v : ValveId} {s : State} (armed : (s.channel v).state = .armed) :
    issueCommanded v s = issueFire v (arriveAt (s.channel v).issue s) := by
  have still : ((arriveAt (s.channel v).issue s).channel v).state = .armed := by
    rw [arriveAt_eq]
    split <;> exact armed
  unfold issueCommanded issuePositionReached
  rw [if_pos (beq_iff_eq.mpr armed), if_pos (beq_iff_eq.mpr still)]

/-- Settles O31, by the channel's state, the readiness of PS, and the tail and the length of its TIMED queue. -/
theorem issuePosition : Obligations.IssuePosition := by
  intro v s y ch c hch hy hc
  have command : ch.fireCommand v = c := (fireCommand_eq ch v).trans hc.symm
  have valve : c.valve = v := by rw [hc]
  have fire : c.code = .fire := by rw [hc]
  have latest : ch.latest = c.latest := by rw [hc]
  have place : c.position = ch.fire := by rw [hc]
  have channel : y.channel v = ch := by rw [hy, hch]; split <;> rfl
  have ps : y.ps = s.ps := by rw [hy]; split <;> rfl
  obtain ⟨z, hz⟩ : ∃ z, z = y.setChannel v { ch with state := .issued, outcome := .none, lastPulse := c.pulse } := ⟨_, rfl⟩
  have issues (armed : ch.state = .armed) : exec (.issuePositionReached v) s = .next (issueGate c z) := by
    rw [hch] at armed
    refine congrArg Host.Outcome.next ((issueCommanded_armed armed).trans ?_)
    rw [arriveAt_eq, ← hch, ← hy, issueFire_eq, channel, command, hz]
  have psz : z.ps = s.ps := by rw [hz]; exact ps
  have current : z.channel v = { ch with state := .issued, outcome := .none, lastPulse := c.pulse } := by
    rw [hz]
    exact State.channel_setChannel ..
  rw [← hz]
  refine ⟨fun other => ?_, fun armed ready => ⟨fun empty => ?_, fun none room => ?_, fun none full => ?_, fun q cs tail few => ?_⟩,
    fun armed down => ?_⟩
  · refine congrArg Host.Outcome.next (if_neg ?_)
    rw [← hch]
    simpa using other
  all_goals rw [issues armed]
  · have opened := issueGate_opened (c := c) (s := z) (by rw [psz]; exact ready)
      (appendToTail_eq_none fun init cs tail => by rw [psz, empty] at tail; simp at tail) (by rw [psz, empty]; decide)
    rw [opened, psz, empty]
    rfl
  · rw [issueGate_opened (by rw [psz]; exact ready) (by rw [psz]; exact appendToTail_eq_none none) (by rw [psz]; exact room), psz]
  · rw [issueGate_full (by rw [psz]; exact ready) (by rw [psz]; exact appendToTail_eq_none none) (by rw [psz]; exact full)]
    have dropped := offer_full (s := z) (by rw [psz]; exact ready) (.gate [c]) (by rw [psz]; exact full)
    have channelU : (offer .south .timed (.gate [c]) z).channel v = { ch with state := .issued, outcome := .none, lastPulse := c.pulse } := by
      rw [dropped, raiseIf_channel]
      exact current
    refine ⟨_, offer .south .timed (.gate [c]) z, rfl, ?_, ?_⟩
    · rw [dropped]
      exact raise_raised _ _ _
    · have told := raise_raised srcSkippedFire (halves (v.val * 256 + 2) (phaseOf ch.fire)) (bump (.channel v 3)
        ((offer .south .timed (.gate [c]) z).setChannel v { ch with state := .idle, outcome := .notSent, lastPulse := c.pulse }))
      unfold gateQueueFull
      rw [reportNotSent_issued (ch := { ch with state := .issued, outcome := .none, lastPulse := c.pulse }) fire (by rw [valve]; exact channelU)
        rfl latest, valve, fire, place]
      exact told
  · rw [issueGate_joined (by rw [psz]; exact ready) (appendToTail_eq_some.mpr ⟨q, cs, by rw [psz]; exact tail, few, rfl⟩), psz]
  · rw [issueGate_notReady (by rw [psz]; exact down), reportNotSent_issued (ch := { ch with state := .issued, outcome := .none, lastPulse := c.pulse })
      fire (by rw [valve]; exact current) rfl latest, valve, hz]
    exact congrArg (fun u => Host.Outcome.next (bump (.channel v 3) (bump (.notReady .south .timed) u))) (State.setChannel_setChannel y v _ _)

end Sys2Proof.Machine
end

section
/-! The load points of the channels (R131 to R135, R146). -/

namespace Sys2Proof.Machine

/-- What a load point leaves of the channel before its action (R131). -/
def Channel.advanced (ch : Channel) (p : ParamRecord) (v : ValveId) : Channel :=
  { ch with loadPoint := ch.nextLoadPoint, cycle := ch.cycle + 1, nextLoadPoint := loadPointOf p v (ch.cycle + 1) }

section
variable {v : ValveId} {z : State} {f : Channel} (hf : f = (z.channel v).fixHalfCycle z.par v)
include hf

theorem loadPointAction_suppressed (off : f.alphaOff ≤ f.alpha) :
    loadPointAction v z = bump (.channel v 4) (z.setChannel v { f with state := .suppressed }) := by
  subst hf
  exact if_pos off

theorem loadPointAction_armed (aimed : f.alpha < f.alphaOff) (ahead : 0 < diff f.issue z.g) :
    loadPointAction v z = z.setChannel v { f with state := .armed } := by
  subst hf
  refine (if_neg (Nat.not_le.mpr aimed)).trans (if_neg ?_)
  rw [reached_iff, State.channel_setChannel]
  exact Int.not_le.mpr ahead

/-- With the issue position reached the command is issued at once (R72, R133). -/
theorem loadPointAction_issued (aimed : f.alpha < f.alphaOff) (past : diff f.issue z.g ≤ 0) :
    loadPointAction v z = issueCommanded v (z.setChannel v { f with state := .armed }) := by
  have issues : loadPointAction v z = issueFire v (z.setChannel v { f with state := .armed }) := by
    subst hf
    refine (if_neg (Nat.not_le.mpr aimed)).trans (if_pos ?_)
    rw [reached_iff, State.channel_setChannel]
    exact past
  have armed : ((z.setChannel v { f with state := .armed }).channel v).state = .armed := by rw [State.channel_setChannel]
  rw [issues, issueCommanded_armed armed, arriveAt_past]
  rw [State.channel_setChannel]
  exact past

end

theorem misfireDetail_eq (v : ValveId) {n : Nat} (small : n ≤ 15) (fire : Pos) :
    misfireDetail v n fire = BitVec.ofNat 32 (v.val * 16777216 + n * 65536 + phaseOf fire) := by
  have valve := v.isLt
  have phase : phaseOf fire < 65536 := Nat.mod_lt _ (by decide)
  unfold misfireDetail
  rw [halves_eq (by omega) phase, Nat.add_mul, Nat.mul_assoc]

theorem countMiss_eq {v : ValveId} {z : State} {n : Nat} (hn : n = min 15 ((z.channel v).misses + 1)) : countMiss v z
    = if pMissLimit z.par v ≤ n then (true, raise srcMisfire (misfireDetail v n (z.channel v).fire)
        (bump (.channel v 6) (z.setChannel v { z.channel v with misses := n })))
      else (false, bump (.channel v 6) (z.setChannel v { z.channel v with misses := n })) := by
  subst hn
  rfl

/-- An issued command leaves the channels, but for its own where it is reported not sent at once (R36, R138). -/
theorem issueGate_channel_cases (c : GateCommand) (s : State) (v : ValveId) : (issueGate c s).channel v = s.channel v
    ∨ ((issueGate c s).channel v = { s.channel v with outcome := .notSent, state := .idle } ∧ (s.channel v).state = .issued) := by
  have offered : (offer .south .timed (.gate [c]) s).channel v = s.channel v := by
    unfold State.channel
    rw [offer_channels]
  have reported := reportNotSent_channel_cases c (offer .south .timed (.gate [c]) s) v
  rw [offered] at reported
  unfold issueGate
  split
  · exact reported
  · split
    · exact .inl rfl
    · split
      · exact .inl offered
      · unfold gateQueueFull
        rw [raiseIf_channel]
        exact reported

theorem issueFire_channel (v : ValveId) (s : State) : ((issueFire v s).channel v).nextLoadPoint = (s.channel v).nextLoadPoint
    ∧ ((issueFire v s).channel v).state ≠ .armed := by
  rw [issueFire_eq]
  rcases issueGate_channel_cases ((s.channel v).fireCommand v) (s.setChannel v
    { s.channel v with state := .issued, outcome := .none, lastPulse := ((s.channel v).fireCommand v).pulse }) v with same | ⟨same, -⟩
  all_goals
    rw [same, State.channel_setChannel]
    exact ⟨rfl, ChannelState.noConfusion⟩

/-- Settles O30, by the channel's state, the miss limit, and the branches of the load-point action. -/
theorem loadPoint : Obligations.LoadPoint := by
  intro v s y ch a f hch hy ha hf
  have arrived : arriveAt (s.channel v).nextLoadPoint s = y := by rw [arriveAt_eq, ← hch, ← hy]
  have channel : y.channel v = ch := by rw [hy, hch]; split <;> rfl
  have par : y.par = s.par := by rw [hy]; split <;> rfl
  have reachedNow : diff ch.nextLoadPoint y.g ≤ 0 := by
    rw [← arrived, hch]
    exact arriveAt_reached _ s
  have runs : exec (.loadPointReached v) s = .next (loadPointReached v y) := congrArg (fun u => Host.Outcome.next (loadPointReached v u)) arrived
  obtain ⟨z, hz⟩ : ∃ z, z = y.setChannel v a := ⟨_, rfl⟩
  have channelZ : z.channel v = a := by rw [hz]; exact State.channel_setChannel ..
  have parZ : z.par = s.par := by rw [hz]; exact par
  have stateA : a.state = ch.state := by rw [ha]
  have advances (other : ch.state ≠ .armed) : loadPointReached v y = loadPointByState v z := by
    have quiet : issueIfArmed v y = y := if_neg (by rw [channel]; simpa using other)
    have advanced : advanceSeries v y = z := by
      unfold advanceSeries
      rw [channel, par, hz, ha]
    unfold loadPointReached
    rw [quiet, advanced]
  have fixed (n : Nat) : { a with misses := n }.fixHalfCycle s.par v = { f with misses := n } := by
    rw [hf, ha]
    rfl
  have fixedA : a.fixHalfCycle s.par v = f := by
    rw [hf, ha]
    rfl
  have again (b : Channel) : z.setChannel v b = y.setChannel v b := by
    rw [hz]
    exact State.setChannel_setChannel y v a b
  have misses (n : Nat) (commanded : ch.state = .issued ∨ ch.state = .await) (hn : n = min 15 (ch.misses + 1)) :
      loadPointReached v y = if pMissLimit s.par v ≤ n
        then protectiveEvent .misfire v (loadPointAction v (raise srcMisfire (misfireDetail v n ch.fire)
          (bump (.channel v 6) (y.setChannel v { a with misses := n }))))
        else loadPointAction v (bump (.channel v 6) (y.setChannel v { a with misses := n })) := by
    have counted := countMiss_eq (v := v) (z := z) (n := n) (by rw [channelZ, hn, ha])
    have fire : a.fire = ch.fire := by rw [ha]
    rw [channelZ, again, parZ, fire] at counted
    have acts : loadPointByState v z = missedHalfCycle v z := by
      unfold loadPointByState
      rw [channelZ, stateA]
      rcases commanded with state | state <;> rw [state]
    rw [advances (by rcases commanded with state | state <;> rw [state] <;> exact ChannelState.noConfusion), acts]
    unfold missedHalfCycle
    rw [counted]
    split <;> rfl
  have aim (n : Nat) {u : State} (now : u.channel v = { a with misses := n }) (same : u.par = s.par) :
      { f with misses := n } = (u.channel v).fixHalfCycle u.par v := by rw [now, same, fixed]
  have countedChannel (n : Nat) : (bump (.channel v 6) (y.setChannel v { a with misses := n })).channel v = { a with misses := n } :=
    State.channel_setChannel ..
  have countedPar (n : Nat) : (bump (.channel v 6) (y.setChannel v { a with misses := n })).par = s.par := par
  have countedAgain (n : Nat) (b : Channel) : (bump (.channel v 6) (y.setChannel v { a with misses := n })).setChannel v b
      = bump (.channel v 6) (y.setChannel v b) := congrArg (bump (.channel v 6)) (State.setChannel_setChannel y v _ b)
  refine ⟨fun blocked => ?_, fun rests => ?_, fun n commanded hn few => ?_, fun n commanded hn few aimed past => ?_,
    fun n commanded hn many => ?_, fun w armed past issued => ?_⟩
  · rw [runs, advances (by rw [blocked]; exact ChannelState.noConfusion)]
    unfold loadPointByState
    rw [channelZ, stateA, blocked, hz]
  · have acts : exec (.loadPointReached v) s = .next (loadPointAction v z) := by
      rw [runs, advances (by rcases rests with state | state <;> rw [state] <;> exact ChannelState.noConfusion)]
      unfold loadPointByState
      rw [channelZ, stateA]
      rcases rests with state | state <;> rw [state]
    have aim : f = (z.channel v).fixHalfCycle z.par v := by rw [channelZ, parZ, fixedA]
    have g : z.g = y.g := by rw [hz]; rfl
    refine ⟨fun off => ?_, fun aimed ahead => ?_, fun aimed past => ?_⟩
    · rw [acts, loadPointAction_suppressed aim off, again]
    · rw [acts, loadPointAction_armed aim aimed (by rw [g]; exact ahead), again]
    · rw [acts, loadPointAction_issued aim aimed (by rw [g]; exact past), again]
      rfl
  · rw [runs, misses n commanded hn, if_neg (Nat.not_le.mpr few)]
    refine ⟨fun off => ?_, fun aimed ahead => ?_⟩
    · rw [loadPointAction_suppressed (aim n (countedChannel n) (countedPar n)) off, countedAgain]
    · rw [loadPointAction_armed (aim n (countedChannel n) (countedPar n)) aimed ahead, countedAgain]
  · rw [runs, misses n commanded hn, if_neg (Nat.not_le.mpr few),
      loadPointAction_issued (aim n (countedChannel n) (countedPar n)) aimed past, countedAgain]
    rfl
  · obtain ⟨u, hu⟩ : ∃ u, u = raise srcMisfire (misfireDetail v n ch.fire) (bump (.channel v 6) (y.setChannel v { a with misses := n })) :=
      ⟨_, rfl⟩
    have quiet := raise_quiet srcMisfire (misfireDetail v n ch.fire) (bump (.channel v 6) (y.setChannel v { a with misses := n }))
    rw [← hu] at quiet
    have channelU : u.channel v = { a with misses := n } := (quiet.channel v).trans (countedChannel n)
    have parU : u.par = s.par := quiet.par.trans (countedPar n)
    have gU : u.g = y.g := congrArg (fun t : Tracker => t.g48.extractLsb' 16 32) quiet.tracker
    have misfires : loadPointReached v y = protectiveEvent .misfire v (loadPointAction v u) := by
      rw [misses n commanded hn, if_pos many, hu]
    have small : n ≤ 15 := hn ▸ Nat.min_le_left 15 _
    refine ⟨_, u, runs, ?_, fun off => ?_, fun aimed ahead => ?_, fun aimed past => ?_⟩
    · rw [hu, misfireDetail_eq v small]
      exact raise_raised _ _ _
    · rw [misfires, loadPointAction_suppressed (aim n channelU parU) off]
      exact protectiveEvent_taken _ _ _
    · rw [misfires, loadPointAction_armed (aim n channelU parU) aimed (by rw [gU]; exact ahead)]
      exact protectiveEvent_taken _ _ _
    · rw [misfires, loadPointAction_issued (aim n channelU parU) aimed (by rw [gU]; exact past)]
      exact ⟨_, rfl, protectiveEvent_taken _ _ _⟩
  · have issues : issueFire v y = w := by
      have commanded : issueCommanded v y = issueFire v y := by
        rw [issueCommanded_armed (by rw [channel]; exact armed), channel, arriveAt_past past]
      exact commanded.symm.trans (Host.Outcome.next.inj issued)
    obtain ⟨next, state⟩ := issueFire_channel v y
    rw [issues, channel] at next
    rw [issues] at state
    have gate := issueFire_gate v y
    rw [issues] at gate
    have gW : w.g = y.g := congrArg (fun t : Tracker => t.g48.extractLsb' 16 32) gate.tracker
    have stays : arriveAt (w.channel v).nextLoadPoint w = w := arriveAt_past (by rw [next, gW]; exact reachedNow)
    have first : issueIfArmed v y = w := (if_pos (by rw [channel, armed]; rfl)).trans issues
    have second : issueIfArmed v w = w := if_neg (by simpa using state)
    refine runs.trans (congrArg Host.Outcome.next ?_)
    rw [stays]
    unfold loadPointReached
    rw [first, second]

end Sys2Proof.Machine
end

section
/-! The pass boundaries and their windows (R75, R90 to R93). -/

namespace Sys2Proof.Machine

/-! ### The window test -/

theorem windowTest_stops {fuel : Nat} {s : State}
    (h : ∀ c, s.engine.pendingBoundaries.head? = some c → windowComplete s.merge.history c = false) : windowTest fuel s = s := by
  cases fuel with
  | zero => rfl
  | succ fuel =>
    unfold windowTest
    cases pending : s.engine.pendingBoundaries with
    | nil => rfl
    | cons b rest =>
      have waits := h b (by rw [pending]; rfl)
      exact if_neg (by rw [waits]; exact Bool.noConfusion)

/-- A complete head met (R91, R92): counted where its window is not formed, and otherwise a pass started or an overrun. -/
def windowMet (b : Pos) (s : State) : State :=
  if windowFormed s.merge.history b then windowCompleteEvent b s else bump .windowsNotFormed s

/-- The engine with another list of pending boundaries. -/
def State.setPendingBoundaries (s : State) (q : List Pos) : State := { s with engine := { s.engine with pendingBoundaries := q } }

theorem windowTest_meets {fuel : Nat} {s : State} {b : Pos} {rest : List Pos} (pending : s.engine.pendingBoundaries = b :: rest)
    (complete : windowComplete s.merge.history b = true) :
    windowTest (fuel + 1) s = windowTest fuel (windowMet b (s.setPendingBoundaries rest)) := by
  have unfolded : windowTest (fuel + 1) s = match s.engine.pendingBoundaries with
      | [] => s
      | b :: rest => if windowComplete s.merge.history b then windowTest fuel (windowMet b (s.setPendingBoundaries rest)) else s := rfl
  rw [unfolded, pending]
  exact if_pos complete

theorem startPass_eq (b : Pos) (s : State) : startPass b s = { activatePending s with
    tables := { (activatePending s).tables with quiet := some 500000 },
    engine := { s.engine with lastBoundary := b, inFlight := some {
      boundary := b, window := s.merge.history.reverse, reference := (activatePending s).tables.refActive,
      angle := (activatePending s).tables.angleActive, angleValid := (activatePending s).tables.angleValid, params := (activatePending s).par,
      paramsValid := (activatePending s).tables.paramsValid, timer := 1200 } } } := by
  have engine := (activatePending_frame s).engine
  have merge := (activatePending_frame s).merge
  rw [← engine, ← merge]
  unfold startPass
  generalize activatePending s = u
  rfl

section
variable {b : Pos} {s : State}

theorem windowMet_unformed (h : windowFormed s.merge.history b = false) : windowMet b s = bump .windowsNotFormed s :=
  if_neg (by rw [h]; exact Bool.noConfusion)

theorem windowMet_overrun (h : windowFormed s.merge.history b = true) (flight : s.engine.inFlight.isSome = true) :
    windowMet b s = raise srcPassOverrun b (bump .passesOverrun s) := by
  refine (if_pos h).trans (if_neg ?_)
  rw [Option.isNone_iff_eq_none]
  exact fun none => by rw [none] at flight; cases flight

theorem windowMet_started (h : windowFormed s.merge.history b = true) (free : s.engine.inFlight = none) : windowMet b s = startPass b s :=
  (if_pos h).trans (if_pos (Option.isNone_iff_eq_none.mpr free))

end

theorem windowMet_kept (b : Pos) (s : State) :
    (windowMet b s).engine.pendingBoundaries = s.engine.pendingBoundaries ∧ (windowMet b s).merge = s.merge := by
  by_cases formed : windowFormed s.merge.history b = true
  · by_cases free : s.engine.inFlight = none
    · rw [windowMet_started formed free, startPass_eq]
      exact ⟨rfl, (activatePending_frame s).merge⟩
    · rw [windowMet_overrun formed (Option.isSome_iff_ne_none.mpr free)]
      have quiet := raise_quiet srcPassOverrun b (bump .passesOverrun s)
      exact ⟨congrArg Engine.pendingBoundaries quiet.engine, quiet.merge⟩
  · rw [windowMet_unformed (by simpa using formed)]
    exact ⟨rfl, rfl⟩

/-! ### What a met window counts -/

/-- 1 where the window of a boundary is formed. -/
def formedCount (history : List CompositeSet) (b : Pos) : Nat := if windowFormed history b = true then 1 else 0

/-- What meeting a complete head counts and leaves in flight. -/
structure WindowCounted (n : Nat) (b : Pos) (s t : State) : Prop where
  unformed : t.counter .windowsNotFormed = s.counter .windowsNotFormed + BitVec.ofNat 32 (1 - n)
  overrun : t.counter .passesOverrun = s.counter .passesOverrun + BitVec.ofNat 32 (n - (if s.engine.inFlight = none then 1 else 0))
  started : s.engine.inFlight = none → n = 1 → ∃ f, t.engine.inFlight = some f ∧ f.boundary = b ∧ t.engine.lastBoundary = b
  flight : s.engine.inFlight ≠ none ∨ n = 0 → t.engine.inFlight = s.engine.inFlight ∧ t.engine.lastBoundary = s.engine.lastBoundary

theorem windowMet_counted (b : Pos) (s : State) : WindowCounted (formedCount s.merge.history b) b s (windowMet b s) := by
  unfold formedCount
  by_cases formed : windowFormed s.merge.history b = true
  · rw [if_pos formed]
    by_cases free : s.engine.inFlight = none
    · have counts (c : Counter) (h : c.bySupervisor = false) : (startPass b s).counter c = s.counter c := by
        rw [startPass_eq]
        exact (activatePending_frame s).counts c h
      rw [windowMet_started formed free]
      refine ⟨?_, ?_, fun _ _ => ?_, fun h => by simp [free] at h⟩
      · rw [counts _ rfl]
        exact (BitVec.add_zero _).symm
      · rw [counts _ rfl, if_pos free]
        exact (BitVec.add_zero _).symm
      · rw [startPass_eq]
        exact ⟨_, rfl, rfl, rfl⟩
    · rw [windowMet_overrun formed (Option.isSome_iff_ne_none.mpr free)]
      have quiet := raise_quiet srcPassOverrun b (bump .passesOverrun s)
      refine ⟨?_, ?_, fun none => absurd none free, fun _ => ?_⟩
      · rw [quiet.notes _ rfl, counter_bump_of_ne _ Counter.noConfusion]
        exact (BitVec.add_zero _).symm
      · rw [quiet.notes _ rfl, counter_bump_self, if_neg free]
        rfl
      · exact ⟨congrArg Engine.inFlight quiet.engine, congrArg Engine.lastBoundary quiet.engine⟩
  · rw [if_neg formed, windowMet_unformed (by simpa using formed)]
    refine ⟨counter_bump_self .., ?_, fun _ one => Nat.noConfusion one, fun _ => ⟨rfl, rfl⟩⟩
    rw [counter_bump_of_ne _ Counter.noConfusion, Nat.zero_sub]
    exact (BitVec.add_zero _).symm

/-- Two windows met in turn (R91, R92). -/
theorem WindowCounted.twice {m n : Nat} {c d : Pos} {s t u w : State} (first : WindowCounted m c s t) (second : WindowCounted n d u w)
    (hm : m ≤ 1) (hn : n ≤ 1) (counters : ∀ k, u.counter k = t.counter k) (engine : u.engine.inFlight = t.engine.inFlight)
    (last : u.engine.lastBoundary = t.engine.lastBoundary) :
    w.counter .windowsNotFormed = s.counter .windowsNotFormed + BitVec.ofNat 32 ((1 - m) + (1 - n))
    ∧ w.counter .passesOverrun = s.counter .passesOverrun + BitVec.ofNat 32 (m + n - (if s.engine.inFlight = none then 1 else 0))
    ∧ (s.engine.inFlight = none → m + n ≠ 0 → ∃ f, w.engine.inFlight = some f
      ∧ f.boundary = (if m = 1 then c else d) ∧ w.engine.lastBoundary = f.boundary)
    ∧ (s.engine.inFlight.isSome = true ∨ m + n = 0 → w.engine.inFlight = s.engine.inFlight) := by
  have overrun := second.overrun
  rw [counters, first.overrun, engine] at overrun
  refine ⟨?_, ?_, fun free some_ => ?_, fun stays => ?_⟩
  · rw [second.unformed, counters, first.unformed, BitVec.ofNat_add, BitVec.add_assoc]
  · rw [overrun, BitVec.add_assoc, ← BitVec.ofNat_add]
    congr 2
    by_cases free : s.engine.inFlight = none
    · rw [if_pos free]
      rcases Nat.le_one_iff_eq_zero_or_eq_one.mp hm with rfl | rfl
      · rw [(first.flight (.inr rfl)).1, if_pos free]
        omega
      · obtain ⟨f, now, -⟩ := first.started free rfl
        rw [now, if_neg (Option.some_ne_none f)]
        omega
    · rw [(first.flight (.inl free)).1, if_neg free]
      omega
  · rcases Nat.le_one_iff_eq_zero_or_eq_one.mp hm with rfl | rfl
    · have one : n = 1 := by omega
      obtain ⟨f, now, boundary, lastIs⟩ := second.started (engine.trans ((first.flight (.inr rfl)).1.trans free)) one
      exact ⟨f, now, boundary, lastIs.trans boundary.symm⟩
    · obtain ⟨f, now, boundary, lastIs⟩ := first.started free rfl
      obtain ⟨flight, lastKept⟩ := second.flight (.inl (by rw [engine, now]; exact Option.some_ne_none f))
      exact ⟨f, by rw [flight, engine, now], boundary, by rw [lastKept, last, lastIs, boundary]⟩
  · rcases stays with flight | none
    · obtain ⟨same, -⟩ := first.flight (.inl (Option.isSome_iff_ne_none.mp flight))
      rw [(second.flight (.inl (by rw [engine, same]; exact Option.isSome_iff_ne_none.mp flight))).1, engine, same]
    · rw [(second.flight (.inr (by omega))).1, engine, (first.flight (.inr (by omega))).1]

/-- Settles O29: the boundary joins the list, and each complete head is met in turn. -/
theorem passBoundary : Obligations.PassBoundary := by
  intro s x b q hb hx hq
  have engine : x.engine = s.engine := by
    rw [hx, bumpIf_engine]
    split <;> rfl
  have merge : x.merge = s.merge := by
    rw [hx]
    unfold bumpIf
    split <;> split <;> rfl
  have listed : boundaryReached (arriveAt s.tracker.nextBoundary s) = windowTest q.length (x.setPendingBoundaries q) := by
    have next : (arriveAt s.tracker.nextBoundary s).tracker.nextBoundary = b := by
      rw [arriveAt_eq, hb]
      split <;> rfl
    have moved : (arriveAt s.tracker.nextBoundary s).setTracker { (arriveAt s.tracker.nextBoundary s).tracker with nextBoundary := b + 32768#32 }
        = if 0 < diff b s.g then { s with tracker := { s.tracker with g48 := b.append 0#16, nextBoundary := b + 32768#32 } }
          else { s with tracker := { s.tracker with nextBoundary := b + 32768#32 } } := by
      rw [arriveAt_eq, ← hb]
      split <;> rfl
    have pending : ((arriveAt s.tracker.nextBoundary s).setTracker
        { (arriveAt s.tracker.nextBoundary s).tracker with nextBoundary := b + 32768#32 }).engine = s.engine := by
      rw [moved]
      split <;> rfl
    unfold boundaryReached announceBoundary
    rw [next]
    dsimp only
    rw [pending, ← hq, moved, ← hx]
    rfl
  have runs : exec .passBoundaryReached s = .next (windowTest q.length (x.setPendingBoundaries q)) := congrArg Host.Outcome.next listed
  have queue (l : List Pos) : x.setPendingBoundaries l = { x with engine := { s.engine with pendingBoundaries := l } } := by
    unfold State.setPendingBoundaries
    rw [engine]
  rw [runs]
  refine ⟨fun waits => ?_, fun c rest y hlist complete next hy => ?_, fun c d formed hlist completeC completeD hformed => ?_⟩
  · rw [windowTest_stops (s := x.setPendingBoundaries q) (by rw [show (x.setPendingBoundaries q).merge = _ from merge]; exact waits), queue]
  · have met : windowTest q.length (x.setPendingBoundaries q) = windowMet c y := by
      have start : (x.setPendingBoundaries q).setPendingBoundaries rest = y := by rw [hy, ← queue]; rfl
      obtain ⟨pending, mergeMet⟩ := windowMet_kept c y
      have mergeY : y.merge = s.merge := by rw [hy]; exact merge
      have pendingY : y.engine.pendingBoundaries = rest := by rw [hy]
      rw [show q.length = rest.length + 1 by rw [hlist]; rfl,
        windowTest_meets (rest := rest) (b := c) (by exact hlist) (by rw [show (x.setPendingBoundaries q).merge = _ from merge]; exact complete), start]
      exact windowTest_stops (by rw [pending, pendingY, mergeMet, mergeY]; exact next)
    have mergeY : y.merge = s.merge := by rw [hy]; exact merge
    have flightY : y.engine.inFlight = s.engine.inFlight := by rw [hy]
    rw [met]
    refine ⟨fun unformed => ?_, fun formed flight => ?_, fun formed free => ?_⟩
    · rw [windowMet_unformed (by rw [mergeY]; exact unformed)]
    · rw [windowMet_overrun (by rw [mergeY]; exact formed) (by rw [flightY]; exact flight)]
      exact ⟨_, rfl, raise_raised _ _ _⟩
    · rw [windowMet_started (by rw [mergeY]; exact formed) (by rw [flightY]; exact free), startPass_eq, mergeY]
      refine ⟨activatePending y, activatePending_taken y, ?_⟩
      rw [hy]
  · have forms (a : Pos) : formedCount s.merge.history a = formed a := (hformed a).symm
    have small (a : Pos) : formed a ≤ 1 := by
      rw [hformed]
      split <;> decide
    obtain ⟨p, hp⟩ : ∃ p, p = x.setPendingBoundaries [d] := ⟨_, rfl⟩
    obtain ⟨t, ht⟩ : ∃ t, t = windowMet c p := ⟨_, rfl⟩
    obtain ⟨w, hw⟩ : ∃ w, w = windowMet d (t.setPendingBoundaries []) := ⟨_, rfl⟩
    have mergeP : p.merge = s.merge := by rw [hp]; exact merge
    have mergeT : t.merge = s.merge := by rw [ht, (windowMet_kept c p).2, mergeP]
    have pendingT : t.engine.pendingBoundaries = [d] := by rw [ht, (windowMet_kept c p).1, hp]; rfl
    have met : windowTest q.length (x.setPendingBoundaries q) = w := by
      rw [hlist]
      show windowTest 2 _ = w
      rw [windowTest_meets (b := c) (rest := [d]) rfl (by rw [show (x.setPendingBoundaries [c, d]).merge = _ from merge]; exact completeC),
        show (x.setPendingBoundaries [c, d]).setPendingBoundaries [d] = p from hp.symm, ← ht,
        windowTest_meets pendingT (by rw [mergeT]; exact completeD), ← hw]
      rfl
    have first := windowMet_counted c p
    have second := windowMet_counted d (t.setPendingBoundaries [])
    rw [← ht, mergeP, forms] at first
    rw [← hw, show (t.setPendingBoundaries []).merge = _ from mergeT, forms] at second
    have flight : p.engine.inFlight = s.engine.inFlight := by
      rw [hp]
      show x.engine.inFlight = _
      rw [engine]
    have counted := first.twice second (small c) (small d) (fun _ => rfl) rfl rfl
    obtain ⟨pendingW, mergeW⟩ := windowMet_kept d (t.setPendingBoundaries [])
    rw [← hw] at pendingW mergeW
    have counters (k : Counter) : p.counter k = x.counter k := by rw [hp]; rfl
    have overruns : x.counter .passesOverrun = s.counter .passesOverrun := by
      have start : (if 0 < diff b s.g then { s with tracker := { s.tracker with g48 := b.append 0#16, nextBoundary := b + 32768#32 } }
          else { s with tracker := { s.tracker with nextBoundary := b + 32768#32 } }).counters = s.counters := by split <;> rfl
      have counter : x.counter .passesOverrun = State.counter (if 0 < diff b s.g then
          { s with tracker := { s.tracker with g48 := b.append 0#16, nextBoundary := b + 32768#32 } }
          else { s with tracker := { s.tracker with nextBoundary := b + 32768#32 } }) .passesOverrun := by
        rw [hx]
        unfold bumpIf
        split
        · exact counter_bump_of_ne _ Counter.noConfusion
        · rfl
      rw [counter]
      unfold State.counter
      rw [start]
    rw [counters, counters, overruns, flight] at counted
    exact ⟨w, by rw [met], pendingW, mergeW.trans mergeT, counted⟩

end Sys2Proof.Machine
end

section
/-! The tracker at a completion (R77 to R85). -/

namespace Sys2Proof.Machine

/-! ### The phase step, the frequency correction and the gain step -/

theorem stepG_eq {gain : Nat} {e step : Int} {s : State} (hgain : s.tracker.gain = gain)
    (hstep : step = max (-364) (min 364 (roundDiv e (2 ^ (4 - gain))))) : stepG e s
      = bumpIf (decide (step ≠ roundDiv e (2 ^ (4 - gain)))) .saturatedSteps
        (s.setTracker { s.tracker with g48 := s.tracker.g48 + BitVec.ofInt 48 (step * 65536), lastStep := step }) := by
  have corrected : phaseCorrection s.tracker.gain e = roundDiv e (2 ^ (4 - gain)) := by rw [hgain]; rfl
  have saturated : saturate (-364) 364 (roundDiv e (2 ^ (4 - gain))) = step := (saturate_eq _ _ _ (by decide)).trans hstep.symm
  unfold stepG
  rw [corrected]
  dsimp only
  rw [saturated]
  unfold bumpIf moveG
  split <;> rfl

theorem stagePhase_eq (e : Int) {s y : State} {step : Int} (stepped : stepG e s = y) (last : y.tracker.lastStep = step) :
    stagePhase e s = if 0 < step then reachAll reachFuel y else y := by
  unfold stagePhase stepReaches
  dsimp only
  rw [stepped, last]

theorem incSum_eq (inc gain : Nat) (e : Int) : incSum inc gain e = inc + e * (64 * 2 ^ gain) := by
  unfold incSum frequencyFactor
  push_cast
  rfl

theorem stageFrequency_within {gain : Nat} {e sum : Int} {s : State} (hsum : sum = s.tracker.inc + e * (64 * 2 ^ gain))
    (low : 30198989 ≤ sum) (high : sum ≤ 36909875) : stageFrequency gain e s = s.setTracker { s.tracker with inc := sum.toNat } := by
  have clamped : incClamped sum = sum.toNat := by
    unfold incClamped
    rw [saturate_eq _ _ _ (by decide)]
    congr 1
    simp only [incMin, incMax]
    omega
  unfold stageFrequency
  rw [incSum_eq, ← hsum]
  dsimp only
  rw [clamped, if_neg]
  simp only [incMin, incMax]
  omega

theorem stageFrequency_clamped {gain : Nat} {e sum : Int} {s : State} {inc : Nat} {upper : Bool}
    (hsum : sum = s.tracker.inc + e * (64 * 2 ^ gain)) (bound : incClamped sum = inc) (side : decide ((incMax : Int) < sum) = upper)
    (outside : sum < incMin ∨ (incMax : Int) < sum) : Raised srcFreqLimit (freqDetail upper s.tracker.state e)
      (bump .incClamps (s.setTracker { s.tracker with inc := inc })) (stageFrequency gain e s) := by
  unfold stageFrequency
  rw [incSum_eq, ← hsum]
  dsimp only
  rw [bound, side, if_pos outside]
  exact raise_raised _ _ _

/-! ### A change of the tracker state told -/

theorem protectiveEvent_resting {c : Cause} {v : ValveId} {s : State} (rests : s.sup.state = .off ∨ s.sup.state = .ready) :
    protectiveEvent c v s = s := by
  unfold protectiveEvent
  rcases rests with state | state <;> rw [state]

theorem tellTracker_told {old new : TrackerState} (changed : old ≠ new) (e : Int) (s : State) :
    TrackerTold old new e s (tellTracker old new e s) := by
  obtain ⟨w, hw⟩ : ∃ w, w = raise srcTrackerState (trackerDetail old new e) s := ⟨_, rfl⟩
  obtain ⟨x, hx⟩ : ∃ x : State, x = { w with sup := { w.sup with items := { w.sup.items with tracker := decide (new = .locked) } } } := ⟨_, rfl⟩
  have quiet : QuietFrame s w := by
    rw [hw]
    exact raise_quiet _ _ _
  have state : x.sup.state = s.sup.state := by
    rw [hx]
    show w.sup.state = _
    rw [quiet.sup]
  have frame : SupFrame s x := by
    rw [hx]
    exact quiet.toSupFrame.trans (setSup_frame _ w)
  have told : tellTracker old new e s
      = if old = .locked ∧ new ≠ .locked then protectiveEvent .trackerNotLocked 0 (evaluate x) else evaluate x := by
    have item : (new == TrackerState.locked) = decide (new = .locked) := rfl
    unfold tellTracker trackerChanged
    rw [if_neg changed, ← hw, item, hx]
    refine if_congr ?_ rfl rfl
    rw [Bool.and_eq_true, beq_iff_eq, bne_iff_ne]
  have evaluated := evaluate_evaluated x
  unfold Evaluated at evaluated
  rw [state] at evaluated
  refine ⟨w, x, by rw [hw]; exact raise_raised _ _ _, hx, ?_⟩
  rw [told]
  cases now : s.sup.state with
  | off =>
    rw [now] at evaluated
    dsimp only at evaluated ⊢
    have rests : (evaluate x).sup.state = .off ∨ (evaluate x).sup.state = .ready := by
      by_cases hold : x.sup.items.hold = true
      · rw [if_pos hold] at evaluated
        exact .inr (congrArg Supervisor.state evaluated.sup)
      · rw [if_neg hold] at evaluated
        exact .inl (by rw [evaluated, state, now])
    rwa [protectiveEvent_resting rests, ite_self]
  | ready =>
    rw [now] at evaluated
    dsimp only at evaluated ⊢
    by_cases hold : x.sup.items.hold = true
    · rw [if_pos hold] at evaluated ⊢
      rw [evaluated, protectiveEvent_resting (.inr (state.trans now)), ite_self]
    · rw [if_neg hold] at evaluated ⊢
      obtain ⟨entered, now⟩ := evaluated
      rw [protectiveEvent_resting (now.imp_right And.left), ite_self]
      exact ⟨frame.trans entered, now⟩
  | running | holding | blocked | tripped =>
    rw [now] at evaluated
    dsimp only at evaluated ⊢
    rw [evaluated]
    split
    · exact protectiveEvent_taken _ _ _
    · rfl

/-! ### The tracker's state -/

theorem withE_eq {x u : Tracker} {p : ParamRecord} {e : Int} {small large : Bool} (hsmall : small = decide (e.natAbs ≤ pLockThreshold p))
    (hlarge : large = decide (pUnlockThreshold p < e.natAbs))
    (hu : u = (match x.state with
        | .free => { x with state := .pullIn, gain := 3, lockRun := if small = true then 1 else 0, lastE := e }
        | .holdover => { x with state := .pullIn, holdoverRun := 0, lockRun := if small = true then 1 else 0, lastE := e }
        | .pullIn =>
          if small = false then { x with lockRun := 0, lastE := e }
          else if x.lockRun + 1 < 8 then { x with lockRun := x.lockRun + 1, lastE := e }
          else { x with state := .locked, lockRun := x.lockRun + 1, unlockRun := 0, lastE := e }
        | .locked =>
          if large = false then { x with unlockRun := 0, lastE := e }
          else if x.unlockRun + 1 < 2 then { x with unlockRun := x.unlockRun + 1, lastE := e }
          else { x with state := .pullIn, unlockRun := x.unlockRun + 1, lockRun := 0, lastE := e })) : x.withE p e = u := by
  unfold Tracker.withE
  dsimp only
  rw [hu, ← hsmall, ← hlarge]
  cases x.state with
  | free | holdover => cases small <;> rfl
  | pullIn =>
    cases small with
    | false => rfl
    | true =>
      dsimp only
      by_cases many : x.lockRun + 1 < 8
      · simp [many, Nat.not_le.mpr many]
      · simp [many, Nat.not_lt.mp many]
  | locked =>
    cases large with
    | false => rfl
    | true =>
      dsimp only
      by_cases many : x.unlockRun + 1 < 2
      · simp [many, Nat.not_le.mpr many]
      · simp [many, Nat.not_lt.mp many]

theorem stageState_same {e : Int} {s : State} {u : Tracker} (after : s.tracker.withE s.par e = u) (same : u.state = s.tracker.state) :
    stageState e s = s.setTracker u := by
  unfold stageState tellTracker
  rw [after]
  exact if_pos same.symm

theorem stageState_told {e : Int} {s : State} {u : Tracker} (after : s.tracker.withE s.par e = u) (changed : u.state ≠ s.tracker.state) :
    TrackerTold s.tracker.state u.state e (s.setTracker u) (stageState e s) := by
  unfold stageState
  rw [after]
  exact tellTracker_told (Ne.symm changed) e (s.setTracker u)

/-! ### Holdover -/

/-- While the tracker is in HOLDOVER its run is n. -/
def HoldoverRun (n : Nat) (s : State) : Prop := s.tracker.state = .holdover → s.tracker.holdoverRun = n

/-- What the supervisor's moves do to the tracker, an activation, leaves the run or leaves HOLDOVER. -/
theorem moveStable_holdoverRun (n : Nat) : MoveStable (HoldoverRun n) := by
  have same {s t : State} (h : HoldoverRun n s) (tracker : t.tracker = s.tracker) : HoldoverRun n t := fun state => by
    rw [tracker] at state ⊢
    exact h state
  refine ⟨fun m d s h => same h (raise_quiet m d s).tracker, fun _ _ _ h => h, fun new c v s _ h => same h (moveTo_gate new c v s).tracker,
    fun _ _ _ h => h, fun _ _ h => h, fun s t set h => ?_, fun _ _ h => h⟩
  rcases set with rfl | ⟨b, rfl⟩
  · exact fun state => by cases state
  · exact h

theorem tellTracker_holdoverRun {n : Nat} {old new : TrackerState} {e : Int} {s : State} (h : HoldoverRun n s) :
    HoldoverRun n (tellTracker old new e s) := by
  have k := moveStable_holdoverRun n
  exact iteInduction (motive := HoldoverRun n) (fun _ => h) (fun _ => ite_keeps _ (fun _ => k.protectiveEvent _ _ _ (k.updateItems _ _ (k.raise _ _ _ h)))
    (fun _ => k.updateItems _ _ (k.raise _ _ _ h)))

theorem testHoldover_stays {s : State} (h : s.tracker.state = .holdover → s.tracker.holdoverRun < pHoldoverLimit s.par) :
    testHoldover s = s := by
  refine if_neg fun meets => ?_
  rw [Bool.and_eq_true, beq_iff_eq, decide_eq_true_eq] at meets
  exact absurd (h meets.1) (Nat.not_lt.mpr meets.2)

theorem testHoldover_gaveUp {s : State} (state : s.tracker.state = .holdover) (reached_ : pHoldoverLimit s.par ≤ s.tracker.holdoverRun) :
    TrackerTold .holdover .free 0 (s.setTracker { s.tracker with
      state := .free, inc := 33554432, gain := 3, lockRun := 0, unlockRun := 0, holdoverRun := 0 }) (testHoldover s) := by
  have gives : testHoldover s = giveUpHoldover .holdover s := if_pos (by simp [state, reached_])
  rw [gives]
  exact tellTracker_told (by decide) 0 _

/-- Settles O40: the corrections one by one, the runs of R77 by the tracker's state, and holdover by R78. -/
theorem trackerCorrections : Obligations.TrackerCorrections := by
  refine ⟨fun gain e s hgain low high => ⟨fun step y hs hstep hy => ?_, fun sum hsum => ⟨fun lower upper => ?_, fun below => ?_, fun above => ?_⟩,
    fun p hs => ?_, fun s1 hs1 => ?_⟩, fun e s x u small large hx hsmall hlarge hu => ?_, fun s y x n hx hy hn => ⟨fun free => ?_, fun tracks => ?_,
    fun held few => ?_, fun held many => ?_⟩⟩
  · have stepped : stepG e s = y := (stepG_eq hs hstep).trans hy.symm
    have last : y.tracker.lastStep = step := by
      rw [hy]
      unfold bumpIf
      split <;> rfl
    rw [stagePhase_eq e stepped last]
    exact ⟨fun back => if_neg (Int.not_lt.mpr back), fun forward => if_pos forward⟩
  · exact stageFrequency_within hsum lower upper
  · refine stageFrequency_clamped hsum ?_ (decide_eq_false (by simp only [incMax]; omega)) (.inl below)
    unfold incClamped
    rw [saturate_eq _ _ _ (by decide)]
    simp only [incMin, incMax]
    omega
  · refine stageFrequency_clamped hsum ?_ (decide_eq_true above) (.inr above)
    unfold incClamped
    rw [saturate_eq _ _ _ (by decide)]
    simp only [incMin, incMax]
    omega
  · rw [← hs]
    rfl
  · rw [hs1]
    rfl
  · subst hx
    have after := withE_eq (p := s.par) hsmall hlarge hu
    exact ⟨stageState_same after, stageState_told after⟩
  all_goals
    have tracker : y.tracker = x := by rw [hy, hx]; rfl
    have par : y.par = s.par := by rw [hy]; rfl
  · unfold completionWithoutE
    dsimp only
    rw [← hy, tracker, free]
  · obtain ⟨w, hw⟩ : ∃ w, w = tellTracker x.state .holdover 0
        (y.setTracker { x with state := .holdover, holdoverRun := 1, lockRun := 0, unlockRun := 0 }) := ⟨_, rfl⟩
    have tests : completionWithoutE s = testHoldover w := by
      have entered : enterHoldover y = testHoldover w := by
        unfold enterHoldover
        dsimp only
        rw [tracker, hw]
      unfold completionWithoutE
      dsimp only
      rw [← hy, tracker]
      rcases tracks with now | now <;> rw [now] <;> exact entered
    have run : HoldoverRun 1 w := by
      rw [hw]
      exact tellTracker_holdoverRun (fun _ => rfl)
    rw [tests]
    refine ⟨w, ?_, fun held limit => testHoldover_gaveUp held (by rw [run held]; exact limit), fun stays => testHoldover_stays fun held => ?_⟩
    · rw [hw]
      exact tellTracker_told (by rcases tracks with now | now <;> rw [now] <;> decide) 0 _
    · rw [run held]
      exact stays.resolve_left (fun other => other held)
  all_goals
    have tests : completionWithoutE s = testHoldover (y.setTracker { x with holdoverRun := n }) := by
      unfold completionWithoutE
      dsimp only
      rw [← hy, tracker, held, hn]
    rw [tests]
  · exact testHoldover_stays fun _ => by rw [show (y.setTracker { x with holdoverRun := n }).par = _ from par]; exact few
  · exact testHoldover_gaveUp (s := y.setTracker { x with holdoverRun := n }) held
      (by rw [show (y.setTracker { x with holdoverRun := n }).par = _ from par]; exact many)

end Sys2Proof.Machine
end

section
/-! The completion of a pass (R94, R122 to R126): its counters, and its outputs in any order. -/

namespace Sys2Proof.Machine

/-! ### What the outputs leave

The counters of a completion are raised by the completion itself, and two of them by the tracker's part of it; the last pass number is written
by the supervisor's. What the positions reached by the tracker's step do, and what the supervisor's moves do, leaves all of these. -/

/-- The counters of a completion (R94, R110, R125). -/
def Counter.ofCompletion : Counter → Bool
  | .passesCompleted => true
  | .demandSkipped => true
  | .passesWithE => true
  | .passesWithoutE => true
  | .branch _ _ => true
  | _ => false

theorem Counter.bySupervisor_of_ofCompletion {c : Counter} (h : c.ofCompletion = true) : c.bySupervisor = false := by
  cases c <;> first | rfl | cases h

/-- The last pass number and the counters of a completion stay. -/
structure ResultsKept (s t : State) : Prop where
  lastPass : t.sup.lastPass = s.sup.lastPass
  counts : ∀ c : Counter, c.ofCompletion = true → t.counter c = s.counter c

theorem ResultsKept.refl (s : State) : ResultsKept s s := ⟨rfl, fun _ _ => rfl⟩

theorem ResultsKept.trans {s t u : State} (a : ResultsKept s t) (b : ResultsKept t u) : ResultsKept s u :=
  ⟨b.lastPass.trans a.lastPass, fun c h => (b.counts c h).trans (a.counts c h)⟩

theorem SupFrame.resultsKept {s t : State} (h : SupFrame s t) (last : t.sup.lastPass = s.sup.lastPass) : ResultsKept s t :=
  ⟨last, fun c of => h.counts c (Counter.bySupervisor_of_ofCompletion of)⟩

theorem GateFrame.resultsKept {s t : State} (h : GateFrame s t) : ResultsKept s t :=
  h.toSupFrame.resultsKept (congrArg Supervisor.lastPass h.sup)

theorem ResultsKept.of_same {s t : State} (sup : t.sup = s.sup) (counters : t.counters = s.counters) : ResultsKept s t :=
  ⟨congrArg Supervisor.lastPass sup, fun c _ => by unfold State.counter; rw [counters]⟩

theorem bump_resultsKept {c : Counter} (other : c.ofCompletion = false) (s : State) : ResultsKept s (bump c s) :=
  ⟨rfl, fun d of => counter_bump_of_ne s (fun same => by rw [same, of] at other; cases other)⟩

theorem bumpIf_resultsKept (b : Bool) {c : Counter} (other : c.ofCompletion = false) (s : State) : ResultsKept s (bumpIf b c s) := by
  cases b with
  | false => exact .refl s
  | true => exact bump_resultsKept other s

theorem ResultsKept.ite {b : Bool} {s t u : State} (yes : ResultsKept s t) (no : ResultsKept s u) : ResultsKept s (if b then t else u) :=
  ite_keeps (P := ResultsKept s) b (fun _ => yes) (fun _ => no)

theorem moveStable_resultsKept (s : State) : MoveStable (ResultsKept s) where
  raise n d t h := h.trans (raise_quiet n d t).toGateFrame.resultsKept
  bump c t which h := h.trans (bump_resultsKept (by rcases which with rfl | rfl <;> rfl) t)
  move new c v t _ h := h.trans ((moveTo_frame new c v t).resultsKept (by rw [moveTo_sup]; rfl))
  sup t u last h := h.trans ((setSup_frame u t).resultsKept last)
  tables t x h := h.trans (.of_same rfl rfl)
  tracker t x _ h := h.trans (.of_same rfl rfl)
  pace t x h := h.trans (.of_same rfl rfl)

/-! ### The positions reached -/

theorem windowMet_resultsKept (b : Pos) (s : State) : ResultsKept s (windowMet b s) := by
  by_cases formed : windowFormed s.merge.history b = true
  · by_cases free : s.engine.inFlight = none
    · rw [windowMet_started formed free, startPass_eq]
      have k := moveStable_resultsKept s
      have taken : ResultsKept s (activatePending s) :=
        k.activateIfPending _ _ (k.activateIfPending _ _ (k.activateIfPending _ s (.refl s)))
      exact taken.trans (.of_same rfl rfl)
    · rw [windowMet_overrun formed (Option.isSome_iff_ne_none.mpr free)]
      exact (bump_resultsKept rfl s).trans (raise_quiet _ _ _).toGateFrame.resultsKept
  · rw [windowMet_unformed (by simpa using formed)]
    exact bump_resultsKept rfl s

theorem windowTest_resultsKept (fuel : Nat) (s : State) : ResultsKept s (windowTest fuel s) := by
  induction fuel generalizing s with
  | zero => exact .refl s
  | succ fuel ih =>
    unfold windowTest
    split
    · exact .refl s
    · next b rest _ =>
      have met := windowMet_resultsKept b (s.setPendingBoundaries rest)
      have set : ResultsKept s (s.setPendingBoundaries rest) := .of_same rfl rfl
      exact .ite ((set.trans met).trans (ih _)) (.refl s)

theorem boundaryReached_resultsKept (s : State) : ResultsKept s (boundaryReached s) := by
  have counted (b : Bool) (t : State) : ResultsKept t (bumpIf b .windowsNotFormed t) :=
    bumpIf_resultsKept b rfl t
  have moved : ResultsKept s (s.setTracker { s.tracker with nextBoundary := s.tracker.nextBoundary + 32768#32 }) :=
    (setTracker_frame _ s).resultsKept rfl
  have queued (t : State) (q : List Pos) : ResultsKept t (t.setEngine { t.engine with pendingBoundaries := q }) := .of_same rfl rfl
  exact ((moved.trans (counted _ _)).trans (queued _ _)).trans (windowTest_resultsKept _ _)

theorem timemarkReached_resultsKept (s : State) : ResultsKept s (timemarkReached s) :=
  (offer_timed_gate .timemark s).resultsKept.trans (.of_same rfl rfl)

theorem watchIssue_resultsKept (v : ValveId) (s : State) : ResultsKept s (watchIssue v s) := .ite (issueFire_gate v s).resultsKept (.refl s)

theorem issuePositionReached_resultsKept (v : ValveId) (s : State) : ResultsKept s (issuePositionReached v s) :=
  .ite (issueFire_gate v s).resultsKept (.refl s)

theorem setChannel_resultsKept (v : ValveId) (ch : Channel) (s : State) : ResultsKept s (s.setChannel v ch) :=
  (setChannel_gate v ch s).resultsKept

theorem loadPointAction_resultsKept (v : ValveId) (s : State) : ResultsKept s (loadPointAction v s) :=
  iteInduction (motive := ResultsKept s) (fun _ => (setChannel_resultsKept v _ s).trans (bump_resultsKept rfl _))
    (fun _ => (setChannel_resultsKept v _ s).trans (watchIssue_resultsKept v _))

theorem missedHalfCycle_resultsKept (v : ValveId) (s : State) : ResultsKept s (missedHalfCycle v s) := by
  have counted : ResultsKept s (countMiss v s).2 := by
    have bumped (ch : Channel) : ResultsKept s (bumpChannel v 6 (s.setChannel v ch)) :=
      (setChannel_resultsKept v ch s).trans (bump_resultsKept rfl _)
    rw [countMiss_eq rfl]
    split
    · exact (bumped _).trans (raise_quiet _ _ _).toGateFrame.resultsKept
    · exact bumped _
  have acted := counted.trans (loadPointAction_resultsKept v _)
  exact .ite ((moveStable_resultsKept s).protectiveEvent _ _ _ acted) acted

theorem loadPointReached_resultsKept (v : ValveId) (s : State) : ResultsKept s (loadPointReached v s) := by
  have byState (t : State) : ResultsKept t (loadPointByState v t) := by
    unfold loadPointByState
    split
    · exact .refl t
    · exact loadPointAction_resultsKept v t
    · exact loadPointAction_resultsKept v t
    · exact missedHalfCycle_resultsKept v t
  exact ((issuePositionReached_resultsKept v s).trans (setChannel_resultsKept v _ _)).trans (byState _)

theorem reachAll_resultsKept (fuel : Nat) (s : State) : ResultsKept s (reachAll fuel s) := by
  have one (w : Watched) (t : State) : ResultsKept t (reach w t) := by
    cases w with
    | timemark => exact timemarkReached_resultsKept t
    | boundary => exact boundaryReached_resultsKept t
    | loadPoint v => exact loadPointReached_resultsKept v t
    | issue v => exact issuePositionReached_resultsKept v t
  induction fuel generalizing s with
  | zero => exact .refl s
  | succ fuel ih =>
    unfold reachAll
    split
    · exact .refl s
    · exact (one _ s).trans (ih _)

/-! ### The outputs -/

theorem tellTracker_resultsKept (old new : TrackerState) (e : Int) (s : State) : ResultsKept s (tellTracker old new e s) := by
  have k := moveStable_resultsKept s
  have told : ResultsKept s (updateItems (fun i => { i with tracker := new == .locked }) (raise srcTrackerState (trackerDetail old new e) s)) :=
    k.updateItems _ _ (k.raise _ _ _ (.refl s))
  exact iteInduction (motive := ResultsKept s) (fun _ => .refl s) (fun _ => .ite (k.protectiveEvent _ _ _ told) told)

/-- With e the tracker's part counts a pass with e (R94). -/
theorem completionWithE_resultsKept (e : Int) (s : State) : ResultsKept (bump .passesWithE s) (completionWithE e s) := by
  have step (t : State) : ResultsKept t (stagePhase e t) := by
    have stepped : ResultsKept t (stepG e t) :=
      (bumpIf_resultsKept _ (c := .saturatedSteps) rfl t).trans (.of_same rfl rfl)
    exact iteInduction (motive := ResultsKept t) (fun _ => stepped.trans (reachAll_resultsKept _ _)) (fun _ => stepped)
  have frequency (gain : Nat) (t : State) : ResultsKept t (stageFrequency gain e t) := by
    have clamped (x : Tracker) : ResultsKept t (t.setTracker x) := .of_same rfl rfl
    exact iteInduction (motive := ResultsKept t)
      (fun _ => ((clamped _).trans (bump_resultsKept rfl _)).trans (raise_quiet _ _ _).toGateFrame.resultsKept) (fun _ => clamped _)
  have set : ResultsKept (bump .passesWithE s) ((bump .passesWithE s).setTracker ((bump .passesWithE s).tracker.withE (bump .passesWithE s).par e)) :=
    .of_same rfl rfl
  exact (((set.trans (tellTracker_resultsKept _ _ _ _)).trans (step _)).trans (frequency _ _)).trans (.of_same rfl rfl)

/-- Without e it counts a pass without e (R94). -/
theorem completionWithoutE_resultsKept (s : State) : ResultsKept (bump .passesWithoutE s) (completionWithoutE s) := by
  have tests (t : State) : ResultsKept t (testHoldover t) := by
    have freed : ResultsKept t (t.setTracker t.tracker.setFree) := .of_same rfl rfl
    exact .ite (freed.trans (tellTracker_resultsKept _ _ _ _)) (.refl t)
  have enters (t : State) : ResultsKept t (enterHoldover t) := by
    have set (x : Tracker) : ResultsKept t (t.setTracker x) := .of_same rfl rfl
    exact ((set _).trans (tellTracker_resultsKept _ _ _ _)).trans (tests _)
  unfold completionWithoutE
  dsimp only
  split
  · exact .refl _
  · exact enters _
  · exact enters _
  · have set (x : Tracker) : ResultsKept (bump .passesWithoutE s) ((bump .passesWithoutE s).setTracker x) := .of_same rfl rfl
    exact (set _).trans (tests _)

theorem completionDelivery_resultsKept (r : PassRecord) (s : State) : ResultsKept s (completionDelivery r s) := by
  have one (v : ValveId) (alpha : Nat) (t : State) : ResultsKept t (deliverAngle v alpha t) := by
    refine .ite ?_ (setChannel_resultsKept v _ t)
    exact iteInduction (motive := ResultsKept t) (fun _ => (setChannel_resultsKept v _ t).trans (bump_resultsKept rfl _))
      (fun _ => (setChannel_resultsKept v _ t).trans (watchIssue_resultsKept v _))
  exact .ite (foldl_keeps (P := ResultsKept s) _ (fun t v h => h.trans (one v _ t)) valveIds s (.refl s)) (.refl s)

theorem completionNotices_quiet (old r : PassRecord) (s : State) : QuietFrame s (completionNotices old r s) :=
  ((raiseIf_quiet _ _ _ s).trans (raiseIf_quiet _ _ _ _)).trans (raiseIf_quiet _ _ _ _)

theorem takeRecord_lastPass (r : PassRecord) (s : State) : (takeRecord r s).sup.lastPass = r.number :=
  (recordsMoveTheSupervisor r s _ _ rfl rfl).1

end Sys2Proof.Machine
end

section
/-! The completion of a pass in any order of its outputs (R94). -/

namespace Sys2Proof.Machine

/-! ### The counters of the completion itself -/

theorem bumpIf_counter (b : Bool) (k : Counter) (s : State) (c : Counter) :
    (bumpIf b k s).counter c = s.counter c + (if k = c ∧ b = true then 1 else 0) := by
  cases b with
  | false => simp [bumpIf]
  | true =>
    by_cases same : k = c
    · subst same
      rw [if_pos ⟨rfl, rfl⟩]
      exact counter_bump_self ..
    · rw [if_neg (fun both => same both.1)]
      exact (counter_bump_of_ne _ same).trans (BitVec.add_zero _).symm

/-- The limit flag that a branch counter counts (R125). -/
def BranchResult.limitFlag (z : BranchResult) (j : Fin 3) : Bool :=
  match j with
  | 0 => z.capLimit
  | 1 => z.indLimit
  | 2 => z.slew

theorem countBranch_counter (r : PassRecord) (s : State) (b g : BranchId) (j : Fin 3) : (countBranch r s b).counter (.branch g j)
    = s.counter (.branch g j) + (if b = g ∧ (r.branches[b]).limitFlag j = true then 1 else 0) := by
  unfold countBranch
  rw [bumpIf_counter, bumpIf_counter, bumpIf_counter]
  by_cases same : b = g
  · subst same
    match j with
    | 0 => simp [BranchResult.limitFlag]
    | 1 => simp [BranchResult.limitFlag]
    | 2 => simp [BranchResult.limitFlag]
  · simp [same]

theorem countBranch_other (r : PassRecord) (s : State) (b : BranchId) {c : Counter} (h : ∀ g j, c ≠ .branch g j) :
    (countBranch r s b).counter c = s.counter c := by
  unfold countBranch
  rw [bumpIf_counter, bumpIf_counter, bumpIf_counter]
  simp [Ne.symm (h b _)]

theorem countCompletion_branch (r : PassRecord) (s : State) (b : BranchId) (j : Fin 3) : (countCompletion r s).counter (.branch b j)
    = s.counter (.branch b j) + (if (r.branches[b]).limitFlag j = true then 1 else 0) := by
  have counted (u : State) : (branchIds.foldl (countBranch r) u).counter (.branch b j)
      = u.counter (.branch b j) + (if (r.branches[b]).limitFlag j = true then 1 else 0) := by
    have listed : branchIds.foldl (countBranch r) u = countBranch r (countBranch r (countBranch r u 0) 1) 2 := rfl
    rw [listed, countBranch_counter, countBranch_counter, countBranch_counter]
    match b with
    | 0 => simp
    | 1 => simp
    | 2 => simp
  unfold countCompletion
  rw [counted, bumpIf_counter, counter_bump_of_ne _ Counter.noConfusion]
  simp

theorem countCompletion_other (r : PassRecord) (s : State) {c : Counter} (h : ∀ g j, c ≠ .branch g j) : (countCompletion r s).counter c
    = s.counter c + (if c = .passesCompleted then 1 else 0) + (if c = .demandSkipped ∧ r.flags.demandSkipped = true then 1 else 0) := by
  unfold countCompletion
  rw [foldl_keeps (P := fun t => t.counter c = (bumpIf r.flags.demandSkipped .demandSkipped (bump .passesCompleted s)).counter c) _
    (fun t b same => (countBranch_other r t b h).trans same) branchIds _ rfl, bumpIf_counter]
  congr 1
  · by_cases same : c = .passesCompleted
    · rw [if_pos same, same]
      exact counter_bump_self ..
    · rw [if_neg same]
      exact (counter_bump_of_ne _ (Ne.symm same)).trans (BitVec.add_zero _).symm
  · exact if_congr (and_congr_left' eq_comm) rfl rfl

theorem countCompletion_eq (r : PassRecord) (s : State) : countCompletion r s = { s with counters := (countCompletion r s).counters } := by
  have one (b : Bool) (c : Counter) (t : State) (h : t = { s with counters := t.counters }) : bumpIf b c t = { s with counters := (bumpIf b c t).counters } := by
    cases b with
    | false => exact h
    | true => exact congrArg (fun u : State => { u with counters := (bump c t).counters }) h
  refine foldl_keeps (P := fun t => t = { s with counters := t.counters }) _ (fun t b h => ?_) branchIds _ (one _ _ _ rfl)
  exact one _ _ _ (one _ _ _ (one _ _ _ h))

/-! ### The outputs in their order -/

/-- The counter that the tracker's part of a completion raises (R94). -/
def trackerCount (e : Option Int) : Counter :=
  match e with
  | some _ => .passesWithE
  | none => .passesWithoutE

theorem completionOutput_results (old r : PassRecord) (e : Option Int) (s : State) (o : PassOutput) :
    (completionOutput old r e s o).sup.lastPass = (if o = .supervisor then r.number else s.sup.lastPass)
    ∧ ∀ c : Counter, c.ofCompletion = true → (completionOutput old r e s o).counter c
      = s.counter c + (if o = .tracker ∧ c = trackerCount e then 1 else 0) := by
  have kept {t : State} (h : ResultsKept s t) (c : Counter) (of : c.ofCompletion = true) : t.counter c = s.counter c + 0 :=
    (h.counts c of).trans (BitVec.add_zero _).symm
  cases o with
  | notices =>
    have h := (completionNotices_quiet old r s).toGateFrame.resultsKept
    exact ⟨h.lastPass, fun c of => by rw [if_neg (by simp)]; exact kept h c of⟩
  | delivery =>
    have h := completionDelivery_resultsKept r s
    exact ⟨h.lastPass, fun c of => by rw [if_neg (by simp)]; exact kept h c of⟩
  | supervisor =>
    refine ⟨takeRecord_lastPass r s, fun c of => ?_⟩
    rw [if_neg (by simp)]
    exact ((takeRecord_frame r s).counts c (Counter.bySupervisor_of_ofCompletion of)).trans (BitVec.add_zero _).symm
  | tracker =>
    have counted {k : Counter} {t : State} (h : ResultsKept (bump k s) t) : t.sup.lastPass = s.sup.lastPass
        ∧ ∀ c : Counter, c.ofCompletion = true → t.counter c = s.counter c + (if c = k then 1 else 0) := by
      refine ⟨h.lastPass, fun c of => (h.counts c of).trans ?_⟩
      rw [show bump k s = bumpIf true k s from rfl, bumpIf_counter]
      exact congrArg _ (if_congr ((and_iff_left rfl).trans eq_comm) rfl rfl)
    simp only [reduceCtorEq, if_false, true_and]
    cases e with
    | some x => exact counted (completionWithE_resultsKept x s)
    | none => exact counted (completionWithoutE_resultsKept s)

theorem completionOutputs_lastPass (old r : PassRecord) (e : Option Int) (l : List PassOutput) (s : State) :
    (l.foldl (completionOutput old r e) s).sup.lastPass = if .supervisor ∈ l then r.number else s.sup.lastPass := by
  induction l generalizing s with
  | nil => rfl
  | cons o l ih =>
    rw [List.foldl_cons, ih, (completionOutput_results old r e s o).1]
    by_cases head : o = .supervisor
    · simp [head]
    · simp [head, Ne.symm head]

theorem completionOutputs_counter (old r : PassRecord) (e : Option Int) (l : List PassOutput) (s : State) {c : Counter}
    (of : c.ofCompletion = true) : (l.foldl (completionOutput old r e) s).counter c
      = s.counter c + (if c = trackerCount e then BitVec.ofNat 32 (l.count .tracker) else 0) := by
  induction l generalizing s with
  | nil => simp
  | cons o l ih =>
    rw [List.foldl_cons, ih, (completionOutput_results old r e s o).2 c of]
    by_cases counted : c = trackerCount e
    · rw [if_pos counted, if_pos counted, List.count_cons, BitVec.add_assoc, Nat.add_comm, BitVec.ofNat_add]
      by_cases head : o = .tracker <;> simp [head, counted]
    · simp [counted]

theorem completionOrder_perm (order : List PassOutput) : (completionOrder order).Perm PassOutput.all := by
  unfold completionOrder
  split
  · next named =>
    unfold PassOutput.isOrder at named
    rw [Bool.and_eq_true, beq_iff_eq, List.all_eq_true] at named
    obtain ⟨length, all⟩ := named
    have once : PassOutput.all.Nodup := by decide
    have inside : PassOutput.all ⊆ order := fun o mem => List.contains_iff_mem.mp (all o mem)
    exact ((List.subperm_of_subset once inside).perm_of_length_le (by rw [length]; decide)).symm
  · exact .refl _

theorem foldl_valveIds (f : State → ValveId → State) (s : State) : valveIds.foldl f s = f (f (f (f (f (f s 0) 1) 2) 3) 4) 5 := rfl

theorem completionDelivery_taken (r : PassRecord) (s : State) : Delivered r s (completionDelivery r s) := by
  unfold Delivered completionDelivery completionDelivers
  by_cases delivered : r.target = .ramp ∨ r.target = .auto ∨ r.target = .manual
  · have alpha {v : ValveId} {n : Nat} (fed : (branchOf v).val = n) (within : n < 3) : (r.branches[branchOf v]).alpha = (r.branches[n]).alpha := by
      subst fed
      rfl
    have first : (branchOf 0).val = 0 ∧ (branchOf 1).val = 0 := by decide
    have second : (branchOf 2).val = 1 ∧ (branchOf 3).val = 1 := by decide
    have third : (branchOf 4).val = 2 ∧ (branchOf 5).val = 2 := by decide
    rw [if_pos delivered, if_pos ((TargetSource.delivers_iff _).mpr delivered), foldl_valveIds,
      alpha first.1 (by decide), alpha first.2 (by decide), alpha second.1 (by decide),
      alpha second.2 (by decide), alpha third.1 (by decide), alpha third.2 (by decide)]
  · rw [if_neg delivered, if_neg (fun h => delivered ((TargetSource.delivers_iff _).mp h))]

theorem completionOutput_taken (old r : PassRecord) (e : Option Int) (o : PassOutput) (s : State) :
    OutputTaken old r e o s (completionOutput old r e s o) := by
  cases o with
  | notices => exact ⟨_, _, raisedIf_raiseIf _ _ _ _, raisedIf_raiseIf _ _ _ _, raisedIf_raiseIf _ _ _ _⟩
  | tracker => cases e <;> rfl
  | delivery => exact completionDelivery_taken r s
  | supervisor => rfl

/-- The last act of a completion (R164): the PENDING tables are taken where the idle condition holds. -/
theorem idleTest_taken (s t : State) (h : t = idleTest s) :
    if s.sup.state = .off ∧ s.engine.inFlight = none ∧ s.tables.quiet = none then PendingTaken s t else t = s := by
  subst h
  unfold idleTest
  by_cases idle : idleCondition s = true
  · rw [if_pos idle, if_pos ((idleCondition_iff s).mp idle)]
    exact activatePending_taken s
  · rw [if_neg idle, if_neg (fun h => idle ((idleCondition_iff s).mpr h))]

/-! ### The completion -/

/-- The state in which a completion hands on its outputs (R94, R122, R125). -/
def completionStarted (r : PassRecord) (s : State) : State := countCompletion r (s.setEngine (s.engine.complete r))

theorem passCompletion_eq (order : List PassOutput) {s : State} {f : InFlight} (flight : s.engine.inFlight = some f) :
    passCompletion order s = idleTest ((completionOrder order).foldl
      (completionOutput s.engine.record (completionRecord f s) (measureFlight f).e) (completionStarted (completionRecord f s) s)) := by
  unfold passCompletion
  rw [flight]
  rfl

theorem completionStarted_eq (r : PassRecord) (s : State) : completionStarted r s = { s with
    counters := (completionStarted r s).counters,
    engine := { s.engine with
      inFlight := none, passNumber := r.number, record := r,
      lPrev := if r.target = .ramp ∨ r.target = .auto ∨ r.target = .manual then
        #v[(r.branches[0]).reactor, (r.branches[1]).reactor, (r.branches[2]).reactor] else s.engine.lPrev } } := by
  have engine : s.engine.complete r = { s.engine with
      inFlight := none, passNumber := r.number, record := r,
      lPrev := if r.target = .ramp ∨ r.target = .auto ∨ r.target = .manual then
        #v[(r.branches[0]).reactor, (r.branches[1]).reactor, (r.branches[2]).reactor] else s.engine.lPrev } := by
    unfold Engine.complete completionDelivers
    simp only [TargetSource.delivers_iff]
  rw [← engine]
  exact countCompletion_eq r (s.setEngine (s.engine.complete r))

theorem passCompletion_engineKept (order : List PassOutput) {s : State} {f : InFlight} (flight : s.engine.inFlight = some f) :
    EngineKept (completionStarted (completionRecord f s) s) (passCompletion order s) := by
  rw [passCompletion_eq order flight]
  exact (foldl_engineKept _ (completionOutput_engineKept s.engine.record (completionRecord f s) (measureFlight f).e) _ _).trans
    (idleTest_frame _).engineKept

theorem passCompletion_lastPass (order : List PassOutput) {s : State} {f : InFlight} (flight : s.engine.inFlight = some f) :
    (passCompletion order s).sup.lastPass = (completionRecord f s).number := by
  rw [passCompletion_eq order flight, ((moveStable_resultsKept _).idleTest _ (.refl _)).lastPass, completionOutputs_lastPass,
    if_pos ((completionOrder_perm order).mem_iff.mpr (by decide))]

theorem passCompletion_counter (order : List PassOutput) {s : State} {f : InFlight} (flight : s.engine.inFlight = some f) {c : Counter}
    (of : c.ofCompletion = true) : (passCompletion order s).counter c
      = (completionStarted (completionRecord f s) s).counter c + (if c = trackerCount (measureFlight f).e then 1 else 0) := by
  have once : (completionOrder order).count .tracker = 1 := ((completionOrder_perm order).count_eq _).trans (by decide)
  rw [passCompletion_eq order flight, ((moveStable_resultsKept _).idleTest _ (.refl _)).counts c of, completionOutputs_counter _ _ _ _ _ of, once]
  rfl

/-- Settles O32: the completion's own writes, and the four outputs in any order, which leave what it wrote. -/
theorem passCompletionRule : Obligations.PassCompletion := by
  refine ⟨fun order s f r flight hr => ?_, fun order s none => ?_⟩
  · have engine := passCompletion_engineKept order flight
    have stores := (coreStable_sameStores s).passCompletion order s (.refl s)
    have started := completionStarted_eq r s
    have counter {c : Counter} (of : c.ofCompletion = true) := passCompletion_counter order flight of
    have lastPass := passCompletion_lastPass order flight
    rw [← hr] at engine lastPass
    have branch (b : BranchId) (j : Fin 3) : (passCompletion order s).counter (.branch b j)
        = s.counter (.branch b j) + (if (r.branches[b]).limitFlag j = true then 1 else 0) := by
      rw [counter rfl, ← hr, show completionStarted r s = countCompletion r (s.setEngine (s.engine.complete r)) from rfl, countCompletion_branch]
      cases (measureFlight f).e <;> simp [trackerCount]
    have own {c : Counter} (of : c.ofCompletion = true) (other : ∀ g j, c ≠ .branch g j) : (passCompletion order s).counter c
        = s.counter c + (if c = .passesCompleted then 1 else 0) + (if c = .demandSkipped ∧ r.flags.demandSkipped = true then 1 else 0)
          + (if c = trackerCount (measureFlight f).e then 1 else 0) := by
      rw [counter of, ← hr, show completionStarted r s = countCompletion r (s.setEngine (s.engine.complete r)) from rfl,
        countCompletion_other _ _ other]
      rfl
    refine ⟨_, rfl, by rw [hr]; rfl, by rw [hr]; rfl, ?_, ?_, ?_, ?_, ?_, fun b => ?_, lastPass, ?_, ?_, ?_, ?_,
      fun b => ⟨branch b 0, branch b 1, branch b 2⟩, fun a b c d e list named he => ?_, stores.merge, stores.fwd, stores.agent,
      stores.nodeId, stores.pending⟩
    · rw [engine, started]
    · rw [engine, started]
    · rw [engine, started]
    · rw [engine, started]
    · rw [engine, started]
    · rw [passCompletion_lPrev order flight, Engine.complete_lPrev, ← hr]
    · rw [own rfl (by simp)]
      cases (measureFlight f).e <;> simp [trackerCount]
    · rw [own rfl (by simp)]
      cases (measureFlight f).e <;> simp [trackerCount]
    · rw [own rfl (by simp)]
      cases (measureFlight f).e <;> simp [trackerCount]
    · rw [own rfl (by simp)]
      cases (measureFlight f).e <;> simp [trackerCount]
    · have kept : completionOrder order = [a, b, c, d] := (if_pos named).trans list
      have runs := passCompletion_eq order flight
      rw [kept, ← hr, ← he] at runs
      refine ⟨completionStarted r s, _, _, _, _, started, fun k completed skipped other => ?_, completionOutput_taken _ _ _ _ _,
        completionOutput_taken _ _ _ _ _, completionOutput_taken _ _ _ _ _, completionOutput_taken _ _ _ _ _, ?_⟩
      · rw [show completionStarted r s = countCompletion r (s.setEngine (s.engine.complete r)) from rfl, countCompletion_other _ _ other,
          if_neg completed, if_neg (fun both => skipped both.1)]
        exact (BitVec.add_zero _).trans (BitVec.add_zero _)
      · exact idleTest_taken _ _ runs
  · refine congrArg Host.Outcome.next ?_
    unfold passCompletion
    rw [none]

end Sys2Proof.Machine
end
